-- ==== Sys2Proof/Word.lean ====
section
/-! DEFINITION. The word types of the JR-310's wires and the numbers that name its stations and courses. -/

namespace Sys2Proof

/-- One byte of a notice, a frame or a radio message (R189: sent most significant bit first). -/
abbrev Byte := BitVec 8

/-- A two-byte value (R189: sent most significant byte first). -/
abbrev Half := BitVec 16

/-- A station number, 0 to 31 (R171). -/
abbrev Station := Fin 32

/-- A course number, 1 to 15, or 0 where no course is meant (R25, R126). -/
abbrev CourseNo := Fin 16

/-- A zone number (R3). -/
abbrev ZoneNo := Fin 8

/-- A staff group number (R140). -/
abbrev GroupNo := Fin 32

end Sys2Proof
end

