-- ==== Sys2Proof/Syntax.lean ====
section
/-! DEFINITION. The commands of the JR-310: one constructor for each row of spec/opcode_table.json. A host command
carries the bytes that follow its command code in the frame (R166, R190); a notice heard carries its sender, its sequence
and its fields (R189); an event of time, line, pin or radio link carries what singles it out. -/

namespace Sys2Proof

/-- The eight strap pins (R171). -/
structure Straps where
  number : Station
  pass : Bool
  radio : Bool
  conveyor : Bool
  deriving DecidableEq, Repr

inductive Instr where
  /-- Power-on or the reset line going low (R173). -/
  | resetAsserted
  /-- Release of the reset line with the straps as they then stand (R171, R173). -/
  | resetReleased (straps : Straps)
  -- Frames of the command port: the parameter bytes after the command code (R166, R190).
  | configure (params : List Byte)
  | readStatus (params : List Byte)
  | setClock (params : List Byte)
  | zoneSet (params : List Byte)
  | zoneRead (params : List Byte)
  | sample (params : List Byte)
  | programWrite (params : List Byte)
  | programRead (params : List Byte)
  | assign (params : List Byte)
  | fire (params : List Byte)
  | abort (params : List Byte)
  | schedule (params : List Byte)
  | openCourse (params : List Byte)
  | release (params : List Byte)
  | hold (params : List Byte)
  | closeCourse (params : List Byte)
  | readBoard (params : List Byte)
  | plates (params : List Byte)
  | wareSet (params : List Byte)
  | conveyorReset (params : List Byte)
  | sanitizeAck (params : List Byte)
  | ruleWrite (params : List Byte)
  | ruleRead (params : List Byte)
  | groupWrite (params : List Byte)
  | duty (params : List Byte)
  | page (params : List Byte)
  | coverageWrite (params : List Byte)
  | readPeers (params : List Byte)
  | readReports (params : List Byte)
  | freeBank (params : List Byte)
  | readAlert (params : List Byte)
  | alertMask (params : List Byte)
  | clearAlert (params : List Byte)
  | readCounters (params : List Byte)
  | withdraw (params : List Byte)
  | restart (params : List Byte)
  /-- A frame whose command code is not one of the 36 (R167). -/
  | unknown (code : Byte) (params : List Byte)
  /-- The OE input takes a level, high being `true` (R20, R116). -/
  | oeInterlockChange (high : Bool)
  | entryEdge
  | rinseEdge
  | exitEdge
  | stepBoundary
  | windowStart
  | sampleStale (zone : ZoneNo)
  | timedStageEnd (zone : ZoneNo)
  | zoneLate (zone : ZoneNo)
  | holdOver (zone : ZoneNo)
  | loadPeriodExpiry
  | peerAgedOut (station : Station)
  | listenEnd
  -- Notices the receiver takes (R75, R189): sender, sequence and the fields of the kind.
  | loadHeard (sender : Station) (seq : Byte) (q f : Half) (w : Byte) (d l : Half)
  | leaveHeard (sender : Station) (seq : Byte)
  /-- `spare` is the five bits of the flags byte that R189 gives no use for. -/
  | courseHeard (sender : Station) (seq : Byte) (course member : Byte) (fire : Bool) (spare : BitVec 5)
      (plates warm : Option Half)
  | holdHeard (sender : Station) (seq : Byte) (course quanta : Byte)
  | wareHeard (sender : Station) (seq : Byte) (level : Byte) (backlog : Half) (conveyor : Byte)
  | pageHeard (sender : Station) (seq : Byte) (number attempt group priority code course : Byte)
  | answerHeard (sender : Station) (seq : Byte) (origin number attempt : Byte) (pager : Half) (reply : Byte)
  /-- The bytes of a received notice, header to check bytes (R75). -/
  | noticeDiscarded (bytes : List Byte)
  | lineIdle
  | lineBusy
  | accessGapExpiry
  | collision
  | backoffExpiry
  | noticeCompleted
  | deferDrop
  | serviceClockTick
  | holdExpiry (course : CourseNo)
  | scheduleEntryFires (entry : Fin 8)
  | releaseAgeExpiry (course : CourseNo)
  | clearCall (course : CourseNo)
  | courseRepeat (course : CourseNo)
  | dwellFault
  | wareRepeat
  | washViewAgeOut (station : Station)
  | takeEvent
  | evaluationEnd
  | pageTimeout (number : Byte)
  | deferralLimit (number : Byte)
  -- Messages of the pager transceiver (R191).
  | done (origin number attempt : Byte)
  | completionTimeout
  | reply (pager : Half) (origin number attempt answer : Byte)
  /-- The bytes of a radio message after its sync byte (R191). -/
  | radioMessageDiscarded (bytes : List Byte)
  | radioByteTimeout
  | transmitSent
  deriving DecidableEq, Repr

end Sys2Proof
end

