-- ==== Sys2Proof/Decode.lean ====
section
/-! DEFINITION. From words to commands. spec/opcode_table.json gives no row any bits, so `decodeTableWord` spells no
command. What R190 does give, the code byte of each command frame, is `decodeFrame`, with `frameBytes` back. -/

namespace Sys2Proof

/-- The command that a word spells by the table's bits: the table gives bits for no row, so none. -/
def decodeTableWord (_nbits _w : Nat) : Option Instr := none

/-- The command of a frame with the given command code and the bytes after it, by the codes of R190; codes 0 and 37 to
255 are UNKNOWN. -/
def commandOf (code : Byte) (params : List Byte) : Instr :=
  match code.toNat with
  | 1 => .configure params
  | 2 => .readStatus params
  | 3 => .setClock params
  | 4 => .zoneSet params
  | 5 => .zoneRead params
  | 6 => .sample params
  | 7 => .programWrite params
  | 8 => .programRead params
  | 9 => .assign params
  | 10 => .fire params
  | 11 => .abort params
  | 12 => .schedule params
  | 13 => .openCourse params
  | 14 => .release params
  | 15 => .hold params
  | 16 => .closeCourse params
  | 17 => .readBoard params
  | 18 => .plates params
  | 19 => .wareSet params
  | 20 => .conveyorReset params
  | 21 => .sanitizeAck params
  | 22 => .ruleWrite params
  | 23 => .ruleRead params
  | 24 => .groupWrite params
  | 25 => .duty params
  | 26 => .page params
  | 27 => .coverageWrite params
  | 28 => .readPeers params
  | 29 => .readReports params
  | 30 => .freeBank params
  | 31 => .readAlert params
  | 32 => .alertMask params
  | 33 => .clearAlert params
  | 34 => .readCounters params
  | 35 => .withdraw params
  | 36 => .restart params
  | _ => .unknown code params

/-- The command of a frame as received; a frame with no whole byte carries none (R167). -/
def decodeFrame : List Byte → Option Instr
  | [] => none
  | code :: params => some (commandOf code params)

/-- The bytes of the frame that carries a host command (R190); none for an event that no frame carries. -/
def frameBytes : Instr → Option (List Byte)
  | .configure p => some (1 :: p)
  | .readStatus p => some (2 :: p)
  | .setClock p => some (3 :: p)
  | .zoneSet p => some (4 :: p)
  | .zoneRead p => some (5 :: p)
  | .sample p => some (6 :: p)
  | .programWrite p => some (7 :: p)
  | .programRead p => some (8 :: p)
  | .assign p => some (9 :: p)
  | .fire p => some (10 :: p)
  | .abort p => some (11 :: p)
  | .schedule p => some (12 :: p)
  | .openCourse p => some (13 :: p)
  | .release p => some (14 :: p)
  | .hold p => some (15 :: p)
  | .closeCourse p => some (16 :: p)
  | .readBoard p => some (17 :: p)
  | .plates p => some (18 :: p)
  | .wareSet p => some (19 :: p)
  | .conveyorReset p => some (20 :: p)
  | .sanitizeAck p => some (21 :: p)
  | .ruleWrite p => some (22 :: p)
  | .ruleRead p => some (23 :: p)
  | .groupWrite p => some (24 :: p)
  | .duty p => some (25 :: p)
  | .page p => some (26 :: p)
  | .coverageWrite p => some (27 :: p)
  | .readPeers p => some (28 :: p)
  | .readReports p => some (29 :: p)
  | .freeBank p => some (30 :: p)
  | .readAlert p => some (31 :: p)
  | .alertMask p => some (32 :: p)
  | .clearAlert p => some (33 :: p)
  | .readCounters p => some (34 :: p)
  | .withdraw p => some (35 :: p)
  | .restart p => some (36 :: p)
  | .unknown code p => some (code :: p)
  | _ => none

end Sys2Proof
end

