-- ==== Sys2Proof/Config.lean ====
section
/-! DEFINITION. What the spec leaves open: the free values (constants with no body) and the straps that the
reset state presumes. -/

namespace Sys2Proof

/-- FREE VALUE. The `n`-th random whole number the access machine draws (R71, R72). The rules bound each draw and say
nothing else of it; the model reduces it to the stated range. Assumption log 4. -/
opaque Config.draw : Nat → Nat

/-- The fields of read data whose "none" the spec gives no byte for (R190 states it for a temperature, a time, a
station, a zone and a hold origin only). -/
inductive AbsentField where
  | runProgram
  | releaseOrder
  | rackResult
  | faultSubCause
  | keyPage
  | keyAttempt
  | topLevel
  | topCause
  deriving DecidableEq, Repr

/-- FREE VALUE. The byte a read shows for a field that is absent, where no rule states one. Assumption log 5. -/
opaque Config.absentByte : AbsentField → Byte

/-- FREE VALUE. The byte on data out while a byte that follows the command code clocks in and no rule says what is clocked
out (R166): of a command code, the bytes after it and the byte's place in the frame. Assumption log 30. -/
opaque Config.openOut : Byte → List Byte → Nat → Byte

/-- FREE VALUE. The value a COURSE_READY event carries for a sum of warm plates above the range of an event's value (R98,
R126). Assumption log 31. -/
opaque Config.warmValue : Nat → Half

/-- FREE VALUE. The warm plates a COURSE READY report carries for a sum above what its two bytes hold (R98, R190).
Assumption log 31. -/
opaque Config.warmReport : Nat → Half

end Sys2Proof
end

