-- ==== Sys2Proof/Machine/State.lean ====
section
/-! DEFINITION. The state of a JR-310, block by block, as plain data, and the state after reset. A value that a rule defines
from other state at every moment (a zone's demand, whether it is stale, an output that follows a table) is not stored
twice: Machine/Flags.lean and Machine/Heat.lean compute it. -/

namespace Sys2Proof.Machine

/-! ### Heat block (chapter 1) -/

/-- One heat zone: its settings (R1), its samples (R4–R6), its allotment, its plan for the window and its output
(R10, R15, R16). -/
structure Zone where
  rating : Nat
  band : Nat
  limit : Int
  floor : Nat
  probeFitted : Bool
  /-- Latest temperature; `none` before any sample since reset. -/
  temp : Option Int
  probe : Option Int
  /-- Sample age in half seconds, 0 to 6; the zone is stale at 6 (R5). -/
  age : Nat
  isOver : Bool
  allot : Nat
  /-- The steps 0 to 19 of the current window at which the zone has been or is to be on (R15, R16, R18). -/
  plan : List Nat
  /-- The heater output (R16, R20). -/
  on : Bool
  deriving DecidableEq, Repr

structure Heat where
  zones : Vector Zone 8
  /-- The step in progress, 0 to 19; it has begun (R14). -/
  step : Nat
  windowGrant : Nat
  /-- The declared draw D (R17). -/
  draw : Nat
  deriving DecidableEq, Repr

/-! ### Program block (chapter 2) -/

inductive StageKind where
  | heat | timed | probe | hold
  deriving DecidableEq, Repr

structure Stage where
  kind : StageKind
  setpoint : Int
  /-- A TIMED stage's duration or a PROBE stage's target; 0 for the other kinds (R23). -/
  param : Int
  deriving DecidableEq, Repr

structure Program where
  stages : List Stage
  heatLimit : Nat
  holdLimit : Nat
  plate : Bool
  deriving DecidableEq, Repr

inductive RunState where
  | idle | armed | heating | cooking | holding | done | fault
  deriving DecidableEq, Repr

/-- A zone run record (R25). -/
structure Run where
  state : RunState
  program : Option (Fin 16)
  course : CourseNo
  stage : Nat
  elapsed : Nat
  late : Bool
  holdElapsed : Nat
  holdOver : Bool
  /-- The model's own field: the contents the entry had at ASSIGN, since a later PROGRAM WRITE acts on the next ASSIGN
  only (R23). -/
  body : Program
  deriving DecidableEq, Repr

/-- The member states of a member entry (R85). -/
inductive Standing where
  | armed | firing | late | ready | fault
  deriving DecidableEq, Repr

structure Prog where
  table : Vector (Option Program) 16
  runs : Vector Run 8
  /-- Plate count of each course (R38); entry 0 is unused. -/
  plates : Vector Nat 16
  /-- The member state and warm plates last given to the course block for each course, `none` for none standing
  (R37, R38). -/
  given : Vector (Option (Standing × Nat)) 16
  deriving DecidableEq, Repr

/-! ### Load block (chapter 3) -/

/-- A peer table entry (R40). -/
structure Peer where
  station : Station
  q : Nat
  f : Nat
  w : Nat
  d : Nat
  l : Nat
  missed : Nat
  heard : Bool
  grant : Nat
  deriving DecidableEq, Repr

structure Load where
  -- The load settings (R39).
  limit : Nat
  reserve : Nat
  weight : Nat
  ramp : Nat
  solo : Nat
  safe : Bool
  /-- In ascending order of station number. -/
  peers : List Peer
  /-- The computed grant G (R48, R53, R55). -/
  grant : Nat
  /-- The grant computed for the station at the last expiry, which a change to JOINED uses (R55). -/
  expiryGrant : Nat
  /-- The applied grant A (R54, R55). -/
  applied : Nat
  /-- Expiries since the link last entered LISTEN (R45). -/
  listenCount : Nat
  clash : Bool
  clashHeard : Bool
  mismatch : Bool
  curtailCount : Nat
  /-- The curtailment test as it stood at the latest expiry; the episode stands with it (R57). -/
  curtailed : Bool
  deriving DecidableEq, Repr

/-! ### Passbus controller (chapter 4) -/

inductive LinkState where
  | off | monitor | listen | joined | alone | leaving | left
  deriving DecidableEq, Repr

/-- The fields of a notice, by kind, as the bytes hold them (R189). -/
inductive Body where
  | leave
  | hold (course quanta : Byte)
  | answer (origin number attempt : Byte) (pager : Half) (reply : Byte)
  | page (number attempt group priority code course : Byte)
  | course (course member : Byte) (fire : Bool) (spare : BitVec 5) (plates warm : Option Half)
  | ware (level : Byte) (backlog : Half) (conveyor : Byte)
  | load (q f : Half) (w : Byte) (d l : Half)
  deriving DecidableEq, Repr

structure Notice where
  sender : Station
  seq : Byte
  body : Body
  deriving DecidableEq, Repr

/-- A notice in the transmit queue (R65, R66). Its entry order is its place in the list; its class, key and check bytes
follow from its fields. -/
structure TxEntry where
  /-- The model's own field: which handing this is, so that a page can say whose outcome it awaits (R146). -/
  id : Nat
  notice : Notice
  attempts : Nat
  waitMs : Nat
  /-- In transmission (R66). -/
  onLine : Bool
  /-- Left on the line by RESTART: it ends without report (R64). -/
  orphan : Bool
  deriving DecidableEq, Repr

/-- The states of the access machine (R71). -/
inductive Access where
  | empty | gap | deferred | backoff | sending
  deriving DecidableEq, Repr

/-- A repeat record (R76). The time since the notice was accepted is held as what the commands show of it: idle
milliseconds, step boundaries (0.5 s) and ticks (1 s). Assumption log 3. -/
structure RepeatRec where
  seq : Byte
  check : Half
  idleMs : Nat
  halves : Nat
  ticks : Nat
  deriving DecidableEq, Repr

structure Bus where
  link : LinkState
  queue : List TxEntry
  access : Access
  /-- The access gap and the backoff last drawn, in µs (R71, R72). -/
  gapUs : Nat
  backoffUs : Nat
  /-- The line as the controller senses it (R59). -/
  lineBusy : Bool
  /-- A notice is on the line whose start mark appeared while the receiver was off, or whose taking ended as it went off (R75). -/
  startMissed : Bool
  /-- The sender sequence (R65). -/
  seq : Byte
  /-- The model's own counters: the next handing's identity and the next random draw. -/
  nextId : Nat
  draws : Nat
  repeats : Vector (Option RepeatRec) 32
  deriving DecidableEq, Repr

/-! ### Course block (chapter 5) -/

inductive CourseState where
  | opened | fired | held | ready | released
  deriving DecidableEq, Repr

structure Member where
  station : Station
  standing : Standing
  warm : Nat
  fireSeen : Bool
  deriving DecidableEq, Repr

/-- A course record (R85). Its creation order is its place on the board. -/
structure CourseRec where
  course : CourseNo
  state : CourseState
  plates : Nat
  auto : Bool
  clearDelay : Nat
  hold : Nat
  origin : Option Station
  releaseTime : Option Nat
  releaseAge : Nat
  readyRaised : Bool
  repeatCount : Nat
  releaseOrder : Option Nat
  /-- In ascending station number. -/
  members : List Member
  deriving DecidableEq, Repr

/-- A fire schedule entry (R83). -/
structure SchedEntry where
  course : CourseNo
  time : Nat
  deriving DecidableEq, Repr

/-- A clearing list entry: the course, the seconds remaining and the clear delay in minutes its call carries (R102). -/
structure ClearEntry where
  course : CourseNo
  remaining : Nat
  delay : Nat
  deriving DecidableEq, Repr

structure Course where
  clock : Nat
  schedule : List SchedEntry
  board : List CourseRec
  clearing : List ClearEntry
  lateQuanta : Nat
  deriving DecidableEq, Repr

/-! ### Ware block (chapter 6) -/

inductive RackResult where
  | clean | rewash
  deriving DecidableEq, Repr

/-- A rack record (R108). -/
structure Rack where
  seq : Nat
  entry : Nat
  rinsed : Bool
  running : Nat
  temp : Option Int
  result : Option RackResult
  deriving DecidableEq, Repr

inductive Conveyor where
  | off | waiting | running | fault
  deriving DecidableEq, Repr

inductive SubCause where
  | rackLost | sensor | untracked | dwell
  deriving DecidableEq, Repr

/-- A wash view entry (R122). -/
structure WashEntry where
  station : Station
  backlog : Nat
  conveyor : Conveyor
  age : Nat
  deriving DecidableEq, Repr

structure Ware where
  -- The ware settings (R106).
  washZone : ZoneNo
  rinseZone : ZoneNo
  sanMin : Nat
  washMin : Nat
  maxDwell : Nat
  high : Nat
  low : Nat
  -- The host's controls (R107).
  enable : Bool
  waiting : Nat
  racks : List Rack
  nextSeq : Nat
  conveyor : Conveyor
  subCause : Option SubCause
  /-- The restart margin flag (R114). -/
  margin : Bool
  /-- The held sanitize result is LOW (R113). -/
  heldLow : Bool
  /-- The backlog level is HIGH (R120). -/
  levelHigh : Bool
  repeatCount : Nat
  /-- In ascending station number. -/
  wash : List WashEntry
  deriving DecidableEq, Repr

/-! ### Routing block (chapter 7) -/

inductive EventKind where
  | zoneOver | zoneStale | zoneLate | holdOver | courseReady | courseReleased | earlyRelease | clearCall | memberLost
  | curtailed | limitMismatch | numberClash | rinseFail | conveyorStop | conveyorFault | backlogHigh | pageExpired
  deriving DecidableEq, Repr

/-- An event (R126); its severity is its kind's. The value is the signed 16-bit pattern that R133 reads. -/
structure Event where
  kind : EventKind
  course : CourseNo
  zone : Option ZoneNo
  station : Option Station
  value : Half
  deriving DecidableEq, Repr

inductive RuleType where
  | empty | test | setMask | opens | closes
  deriving DecidableEq, Repr

inductive Property where
  | kind | course | zone | station | value | severity | hour | backlog
  deriving DecidableEq, Repr

inductive Compare where
  | eq | ne | ge | lt
  deriving DecidableEq, Repr

/-- A routing rule (R132); `RuleType.test` is the type MATCH. -/
structure Rule where
  type : RuleType
  property : Property
  compare : Compare
  value : Half
  andFlag : Bool
  /-- The action is REJECT; otherwise it is ACCEPT. -/
  reject : Bool
  group : GroupNo
  priority : Nat
  defer : Bool
  deriving DecidableEq, Repr

/-- An evaluation in progress with what was fixed at its taking (R130). -/
structure Evaluation where
  event : Event
  rules : Vector Rule 32
  hour : Nat
  backlogHigh : Bool
  deriving DecidableEq, Repr

structure Route where
  rules : Vector Rule 32
  /-- In the order the events joined (R128). -/
  events : List Event
  evaluation : Option Evaluation
  deriving DecidableEq, Repr

/-! ### Page block (chapter 8) -/

structure Group where
  escalation : GroupNo
  onDuty : Bool
  deriving DecidableEq, Repr

inductive PageState where
  | waiting | deferred | queued | sent
  deriving DecidableEq, Repr

/-- A page record (R142). Its creation order is its place in the page queue. -/
structure Page where
  number : Nat
  attempt : Nat
  group : GroupNo
  priority : Nat
  code : Nat
  course : CourseNo
  defer : Bool
  expiredOrigin : Bool
  state : PageState
  timer : Nat
  /-- The current notice, by the identity of its handing. -/
  current : Option Nat
  deriving DecidableEq, Repr

structure PageBlock where
  groups : Vector Group 32
  /-- In creation order. -/
  pages : List Page
  /-- The next number, 1 to 255. -/
  next : Nat
  deriving DecidableEq, Repr

/-! ### Radio relay (chapter 9) -/

/-- A coverage pair (R157). -/
structure Pair where
  base : BitVec 5
  mask : BitVec 5
  valid : Bool
  deriving DecidableEq, Repr

/-- The key of a relay record, and the transmission key (R158, R161). -/
structure RelayKey where
  origin : Station
  number : Nat
  attempt : Nat
  deriving DecidableEq, Repr

/-- A relay record (R158). Its arrival order is its place in the stored list. -/
structure RelayRec where
  key : RelayKey
  group : GroupNo
  priority : Nat
  code : Nat
  course : CourseNo
  inFlight : Bool
  deriving DecidableEq, Repr

inductive Exchange where
  | idle | first | retry
  deriving DecidableEq, Repr

structure Relay where
  pairs : Vector Pair 4
  /-- In arrival order; `relayOrder` gives the list order of R158. -/
  list : List RelayRec
  exchange : Exchange
  key : Option RelayKey
  /-- The completion timer runs (R161). -/
  timerOn : Bool
  /-- The bytes of the last TRANSMIT sent on the radio link (R191). -/
  transmit : List Byte
  deriving DecidableEq, Repr

/-! ### Command port (chapter 10) -/

inductive Result where
  | ok | refusedState | full | invalid | notReady | boardFull | inUse | locked | notConfigured | unknown | frame
  deriving DecidableEq, Repr

/-- What a report says beyond its number and clock (R176). -/
inductive ReportBody where
  | answered (number attempt : Nat) (group : GroupNo) (code : Nat) (course : CourseNo) (pager : Nat)
  | expired (number attempt : Nat) (group : GroupNo) (priority code : Nat) (course : CourseNo)
  | withdrawn (number attempt : Nat) (group : GroupNo) (code : Nat) (course : CourseNo) (state : PageState)
  | rackRewash (seq entry : Nat) (temp : Option Int)
  | rackUntracked
  | courseReady (course : CourseNo) (warm : Half)
  | courseHeld (course : CourseNo) (origin : Option Station) (hold : Nat)
  | courseReleased (course : CourseNo) (station : Station) (early : Bool)
  | memberLost (station : Station) (course : CourseNo)
  deriving DecidableEq, Repr

structure Report where
  number : Byte
  clock : Nat
  body : ReportBody
  deriving DecidableEq, Repr

inductive BankState where
  | empty | filling | full | read
  deriving DecidableEq, Repr

structure Bank where
  state : BankState
  reports : List Report
  deriving DecidableEq, Repr

/-- The report mailbox (R174). -/
structure Mailbox where
  bank0 : Bank
  bank1 : Bank
  /-- The FULL banks by number, the first to become full first. -/
  fullOrder : List (Fin 2)
  nextNumber : Byte
  deriving DecidableEq, Repr

structure Counter where
  value : Half
  carry : Bool
  deriving DecidableEq, Repr

structure Port where
  straps : Straps
  configured : Bool
  lastResult : Result
  /-- The bytes that data out carried in the last frame, from the status byte on; any byte clocked after them read 0 (R166). -/
  dataOut : List Byte
  mailbox : Mailbox
  /-- Pending flags of the latched causes; bit n − 1 stands for cause n (R180, R190). -/
  latched : Half
  /-- Mask flags (R180). -/
  mask : Half
  counters : Vector Counter 14
  deriving DecidableEq, Repr

/-- The part. `pending` is the queue of the commands that are waiting, first in first out. -/
structure State where
  pending : List Instr
  /-- The reset line holds (R173). -/
  inReset : Bool
  /-- The OE interlock input is high. -/
  oe : Bool
  heat : Heat
  prog : Prog
  load : Load
  bus : Bus
  course : Course
  ware : Ware
  route : Route
  page : PageBlock
  relay : Relay
  port : Port
  deriving DecidableEq, Repr

/-- The reasons a step can fault. No rule of the spec stops the part, so nothing raises one (safe). -/
inductive Fault where
  /-- Raised by nothing: it only keeps the type from being empty. Safe. -/
  | neverRaised
  deriving DecidableEq, Repr

/-- The reasons a step can be refused. -/
inductive Refusal where
  /-- Raised by `exec` for a command that has no meaning yet; no arm is so refused now. Safe. -/
  | notModelled (mnemonic : String)
  deriving DecidableEq, Repr

/-! ### The state after reset -/

/-- A zone after reset (R1, R5, R6, R21). -/
def Zone.reset : Zone :=
  { rating := 0, band := 1, limit := -40, floor := 0, probeFitted := false, temp := none, probe := none, age := 6,
    isOver := false, allot := 0, plan := [], on := false }

def Heat.reset : Heat :=
  { zones := Vector.replicate 8 Zone.reset, step := 0, windowGrant := 0, draw := 0 }

/-- The contents of a program entry that holds none (the model's filler for `Run.body`). -/
def Program.blank : Program := { stages := [], heatLimit := 0, holdLimit := 0, plate := false }

/-- An IDLE run record (R25). -/
def Run.idle : Run :=
  { state := .idle, program := none, course := 0, stage := 0, elapsed := 0, late := false, holdElapsed := 0,
    holdOver := false, body := Program.blank }

def Prog.reset : Prog :=
  { table := Vector.replicate 16 none, runs := Vector.replicate 8 Run.idle, plates := Vector.replicate 16 0,
    given := Vector.replicate 16 none }

/-- R58. -/
def Load.reset : Load :=
  { limit := 0, reserve := 0, weight := 0, ramp := 0, solo := 0, safe := false, peers := [], grant := 0,
    expiryGrant := 0, applied := 0, listenCount := 0, clash := false, clashHeard := false, mismatch := false,
    curtailCount := 0, curtailed := false }

/-- R80; the link is MONITOR at station number 0 and OFF at every other (R60). -/
def Bus.reset (number : Station) : Bus :=
  { link := if number = 0 then .monitor else .off, queue := [], access := .empty, gapUs := 0, backoffUs := 0,
    lineBusy := false, startMissed := false, seq := 0, nextId := 0, draws := 0, repeats := Vector.replicate 32 none }

/-- R105. -/
def Course.reset : Course := { clock := 0, schedule := [], board := [], clearing := [], lateQuanta := 0 }

/-- R125. -/
def Ware.reset : Ware :=
  { washZone := 0, rinseZone := 0, sanMin := 0, washMin := 0, maxDwell := 0, high := 0, low := 0, enable := false,
    waiting := 0, racks := [], nextSeq := 0, conveyor := .off, subCause := none, margin := false, heldLow := false,
    levelHigh := false, repeatCount := 0, wash := [] }

/-- An EMPTY rule, every field 0 or clear (R132). -/
def Rule.blank : Rule :=
  { type := .empty, property := .kind, compare := .eq, value := 0, andFlag := false, reject := false, group := 0,
    priority := 0, defer := false }

/-- R139. -/
def Route.reset : Route := { rules := Vector.replicate 32 Rule.blank, events := [], evaluation := none }

/-- R140, R156. -/
def PageBlock.reset : PageBlock :=
  { groups := Vector.ofFn fun g => { escalation := g, onDuty := true }, pages := [], next := 1 }

/-- R165. -/
def Relay.reset : Relay :=
  { pairs := Vector.replicate 4 { base := 0, mask := 0, valid := false }, list := [], exchange := .idle, key := none,
    timerOn := false, transmit := [] }

def Bank.reset : Bank := { state := .empty, reports := [] }

def Mailbox.reset : Mailbox := { bank0 := Bank.reset, bank1 := Bank.reset, fullOrder := [], nextNumber := 0 }

/-- R184, R187, R188: every latched cause clear, every mask flag set, every counter 0. -/
def Port.reset (straps : Straps) : Port :=
  { straps := straps, configured := false, lastResult := .ok, dataOut := [], mailbox := Mailbox.reset, latched := 0,
    mask := 0xffff, counters := Vector.replicate 14 { value := 0, carry := false } }

/-- The part right after reset is released with the given straps (R171, R173). The OE input is an input: it stands as it
stood. -/
def State.resetWith (straps : Straps) (oe : Bool) : State :=
  { pending := [], inReset := false, oe := oe, heat := Heat.reset, prog := Prog.reset, load := Load.reset,
    bus := Bus.reset straps.number, course := Course.reset, ware := Ware.reset, route := Route.reset,
    page := PageBlock.reset, relay := Relay.reset, port := Port.reset straps }

/-- The straps `State.reset` is released with: ordinary station 1 with no role. DESIGN CHOICE, unsafe: the spec gives the
straps no value. Assumption log 1. -/
def State.resetStraps : Straps := { number := 1, pass := false, radio := false, conveyor := false }

/-- The part right after reset (R173), with the straps and the OE input that assumption log 1 names. -/
def State.reset : State := State.resetWith State.resetStraps false

end Sys2Proof.Machine
end

