-- ==== Sys2Proof/Machine/Formats.lean ====
section
/-! DEFINITION. Byte layouts: notices with their check (R59, R75, R189), radio messages (R191), report records and the
values of read data (R190). -/

namespace Sys2Proof.Machine

/-! ### Bytes -/

/-- The low byte of a number. -/
def u8 (n : Nat) : Byte := BitVec.ofNat 8 n

/-- Two bytes, most significant first (R189). -/
def bytes16 (h : Half) : List Byte := [h.extractLsb' 8 8, h.extractLsb' 0 8]

/-- A number in two bytes, most significant first (R189). -/
def u16 (n : Nat) : List Byte := bytes16 (BitVec.ofNat 16 n)

/-- A number in three bytes, most significant first (R189, R190). -/
def u24 (n : Nat) : List Byte := [u8 (n / 65536), u8 (n / 256), u8 n]

/-- A signed number in two bytes, two's complement (R189). -/
def i16 (t : Int) : List Byte := bytes16 (BitVec.ofInt 16 t)

/-- Two received bytes as a 16-bit value. -/
def join16 (hi lo : Byte) : Half := hi ++ lo

/-- A flag in a byte (R190). -/
def flagByte (b : Bool) : Byte := if b then 1 else 0

/-- A temperature in read data; an absent one reads −32,768 (R190). -/
def tempBytes : Option Int → List Byte
  | some t => i16 t
  | none => i16 (-32768)

/-- A time of day in read data; an absent one reads 16,777,215 (R190). -/
def timeBytes : Option Nat → List Byte
  | some t => u24 t
  | none => u24 16777215

/-- A station in read data; an absent one reads 255 (R190). -/
def stationByte : Option Station → Byte
  | some st => u8 st
  | none => 255

/-! ### The check of a notice (R189): CRC-16, x^16 + x^15 + x^2 + 1, initial value 65,535, no final inversion -/

/-- One bit of the check's division. -/
def crcShift (c : Half) : Half := if c.msb then (c <<< 1) ^^^ 0x8005 else c <<< 1

/-- One byte, most significant bit first. -/
def crcByte (c : Half) (b : Byte) : Half :=
  crcShift <| crcShift <| crcShift <| crcShift <| crcShift <| crcShift <| crcShift <| crcShift (c ^^^ (b ++ (0 : Byte)))

/-- The check over a header and fields. -/
def crc16 (bytes : List Byte) : Half := bytes.foldl crcByte 0xffff

/-! ### Notices (R189) -/

/-- The kind code. -/
def Body.code : Body → Byte
  | .leave => 1
  | .hold .. => 2
  | .answer .. => 3
  | .page .. => 4
  | .course .. => 5
  | .ware .. => 6
  | .load .. => 7

/-- The flags byte of a COURSE: bit 0 the fire flag, bits 1 and 2 the presence of plates needed and warm plates. -/
def courseFlags (fire : Bool) (spare : BitVec 5) (plates warm : Option Half) : Byte :=
  spare ++ BitVec.ofBool warm.isSome ++ BitVec.ofBool plates.isSome ++ BitVec.ofBool fire

/-- The field bytes, in order. -/
def Body.fields : Body → List Byte
  | .leave => []
  | .hold c q => [c, q]
  | .answer o n a p r => [o, n, a] ++ bytes16 p ++ [r]
  | .page n a g p m c => [n, a, g, p, m, c]
  | .course c m fire spare plates warm =>
    [c, m, courseFlags fire spare plates warm] ++ (plates.map bytes16).getD [] ++ (warm.map bytes16).getD []
  | .ware l b c => [l] ++ bytes16 b ++ [c]
  | .load q f w d l => bytes16 q ++ bytes16 f ++ [w] ++ bytes16 d ++ bytes16 l

/-- Header and fields: what the check covers. -/
def Notice.covered (n : Notice) : List Byte := [n.body.code, u8 n.sender, n.seq] ++ n.body.fields

/-- The check value of a notice. -/
def Notice.check (n : Notice) : Half := crc16 n.covered

/-- The notice as sent, header to check bytes. -/
def Notice.bytes (n : Notice) : List Byte := n.covered ++ bytes16 n.check

/-- The fields of a kind from its field bytes; `none` for a length the kind does not allow. -/
def parseBody (code : Byte) (fields : List Byte) : Option Body :=
  match code.toNat, fields with
  | 1, [] => some .leave
  | 2, [c, q] => some (.hold c q)
  | 3, [o, n, a, p1, p0, r] => some (.answer o n a (join16 p1 p0) r)
  | 4, [n, a, g, p, m, c] => some (.page n a g p m c)
  | 5, c :: m :: flags :: rest =>
    let fire := flags.getLsbD 0
    let spare := flags.extractLsb' 3 5
    match flags.getLsbD 1, flags.getLsbD 2, rest with
    | false, false, [] => some (.course c m fire spare none none)
    | true, false, [a, b] => some (.course c m fire spare (some (join16 a b)) none)
    | false, true, [a, b] => some (.course c m fire spare none (some (join16 a b)))
    | true, true, [a, b, x, y] => some (.course c m fire spare (some (join16 a b)) (some (join16 x y)))
    | _, _, _ => none
  | 6, [l, b1, b0, c] => some (.ware l (join16 b1 b0) c)
  | 7, [q1, q0, f1, f0, w, d1, d0, l1, l0] =>
    some (.load (join16 q1 q0) (join16 f1 f0) w (join16 d1 d0) (join16 l1 l0))
  | _, _ => none

/-- What the receiver makes of the bytes of a notice (R75). -/
inductive Received where
  | truncated
  | badCheck
  | unknownKind
  | good (n : Notice)
  deriving DecidableEq, Repr

/-- The checks of R75, in its order. -/
def receive (bytes : List Byte) : Received :=
  if 32 < bytes.length then .truncated
  else if bytes.length < 4 then .badCheck
  else
    let covered := bytes.take (bytes.length - 2)
    if bytes.drop (bytes.length - 2) ≠ bytes16 (crc16 covered) then .badCheck
    else
      match covered with
      | code :: sender :: rest =>
        if 31 < sender.toNat then .badCheck
        else if code.toNat = 0 ∨ 7 < code.toNat then .unknownKind
        else
          match rest with
          | seq :: fields =>
            match parseBody code fields with
            | some body => .good { sender := Fin.ofNat 32 sender.toNat, seq := seq, body := body }
            | none => .badCheck
          | [] => .badCheck
      | _ => .badCheck

/-! ### Radio messages (R191) -/

/-- The check byte: it makes the sum of kind, fields and check 0 modulo 256. -/
def radioCheck (bytes : List Byte) : Byte := 0 - bytes.foldl (· + ·) 0

/-- The TRANSMIT message of a relay record, sync byte to check byte. -/
def transmitBytes (r : RelayRec) : List Byte :=
  let body : List Byte :=
    [1, u8 r.group, u8 r.priority, u8 r.code, u8 r.course, u8 r.key.origin, u8 r.key.number, u8 r.key.attempt]
  165 :: body ++ [radioCheck body]

/-- What the relay makes of a message after its sync byte. -/
inductive RadioMessage where
  | discarded
  | done (origin number attempt : Byte)
  | reply (pager : Half) (origin number attempt answer : Byte)
  deriving DecidableEq, Repr

/-- A message is discarded when its kind is neither 2 nor 3, its length is not its kind's, or its check fails (R191). -/
def receiveRadio (bytes : List Byte) : RadioMessage :=
  if bytes.foldl (· + ·) (0 : Byte) ≠ 0 then .discarded
  else
    match bytes with
    | [2, o, n, a, _] => .done o n a
    | [3, p1, p0, o, n, a, r, _] => .reply (join16 p1 p0) o n a r
    | _ => .discarded

/-! ### Codes of enumerations (R189, R190) -/

def Standing.code : Standing → Nat
  | .armed => 1 | .firing => 2 | .late => 3 | .ready => 4 | .fault => 5

def Standing.ofCode : Nat → Option Standing
  | 1 => some .armed | 2 => some .firing | 3 => some .late | 4 => some .ready | 5 => some .fault | _ => none

def Conveyor.code : Conveyor → Nat
  | .off => 0 | .waiting => 1 | .running => 2 | .fault => 3

def Conveyor.ofCode : Nat → Option Conveyor
  | 0 => some .off | 1 => some .waiting | 2 => some .running | 3 => some .fault | _ => none

def StageKind.code : StageKind → Nat
  | .heat => 0 | .timed => 1 | .probe => 2 | .hold => 3

def StageKind.ofCode : Nat → Option StageKind
  | 0 => some .heat | 1 => some .timed | 2 => some .probe | 3 => some .hold | _ => none

def RunState.code : RunState → Nat
  | .idle => 0 | .armed => 1 | .heating => 2 | .cooking => 3 | .holding => 4 | .done => 5 | .fault => 6

def CourseState.code : CourseState → Nat
  | .opened => 0 | .fired => 1 | .held => 2 | .ready => 3 | .released => 4

def LinkState.code : LinkState → Nat
  | .off => 0 | .monitor => 1 | .listen => 2 | .joined => 3 | .alone => 4 | .leaving => 5 | .left => 6

def SubCause.code : SubCause → Nat
  | .rackLost => 0 | .sensor => 1 | .untracked => 2 | .dwell => 3

def PageState.code : PageState → Nat
  | .waiting => 0 | .deferred => 1 | .queued => 2 | .sent => 3

def Exchange.code : Exchange → Nat
  | .idle => 0 | .first => 1 | .retry => 2

def RuleType.code : RuleType → Nat
  | .empty => 0 | .test => 1 | .setMask => 2 | .opens => 3 | .closes => 4

def RuleType.ofCode : Nat → Option RuleType
  | 0 => some .empty | 1 => some .test | 2 => some .setMask | 3 => some .opens | 4 => some .closes | _ => none

def Property.code : Property → Nat
  | .kind => 0 | .course => 1 | .zone => 2 | .station => 3 | .value => 4 | .severity => 5 | .hour => 6 | .backlog => 7

def Property.ofCode : Nat → Option Property
  | 0 => some .kind | 1 => some .course | 2 => some .zone | 3 => some .station | 4 => some .value
  | 5 => some .severity | 6 => some .hour | 7 => some .backlog | _ => none

def Compare.code : Compare → Nat
  | .eq => 0 | .ne => 1 | .ge => 2 | .lt => 3

def Compare.ofCode : Nat → Option Compare
  | 0 => some .eq | 1 => some .ne | 2 => some .ge | 3 => some .lt | _ => none

def Result.code : Result → Nat
  | .ok => 0 | .refusedState => 1 | .full => 2 | .invalid => 3 | .notReady => 4 | .boardFull => 5 | .inUse => 6
  | .locked => 7 | .notConfigured => 8 | .unknown => 9 | .frame => 10

/-- The kind code of an event (R127). -/
def EventKind.code : EventKind → Nat
  | .zoneOver => 1 | .zoneStale => 2 | .zoneLate => 3 | .holdOver => 4 | .courseReady => 5 | .courseReleased => 6
  | .earlyRelease => 7 | .clearCall => 8 | .memberLost => 9 | .curtailed => 10 | .limitMismatch => 11
  | .numberClash => 12 | .rinseFail => 13 | .conveyorStop => 14 | .conveyorFault => 15 | .backlogHigh => 16
  | .pageExpired => 17

/-- The severity of an event kind (R127). -/
def EventKind.severity : EventKind → Nat
  | .zoneOver | .numberClash | .rinseFail | .conveyorFault => 3
  | .courseReady | .courseReleased | .clearCall => 1
  | _ => 2

/-! ### Report records (R190) -/

def ReportBody.code : ReportBody → Byte
  | .answered .. => 1
  | .expired .. => 2
  | .withdrawn .. => 3
  | .rackRewash .. => 4
  | .rackUntracked => 5
  | .courseReady .. => 6
  | .courseHeld .. => 7
  | .courseReleased .. => 8
  | .memberLost .. => 9

/-- The payload bytes a kind uses, in order. -/
def ReportBody.payload : ReportBody → List Byte
  | .answered n a g m c p => [u8 n, u8 a, u8 g, u8 m, u8 c] ++ u16 p
  | .expired n a g p m c => [u8 n, u8 a, u8 g, u8 p, u8 m, u8 c]
  | .withdrawn n a g m c st => [u8 n, u8 a, u8 g, u8 m, u8 c, u8 st.code]
  | .rackRewash q e t => u16 q ++ u24 e ++ tempBytes t
  | .rackUntracked => []
  | .courseReady c w => [u8 c] ++ bytes16 w
  | .courseHeld c o h => [u8 c, stationByte o] ++ u16 h
  | .courseReleased c st early => [u8 c, u8 st, flagByte early]
  | .memberLost st c => [u8 st, u8 c]

/-- A report record of 12 bytes: kind, number, clock and a 7-byte payload whose unused bytes are 0. -/
def Report.bytes (r : Report) : List Byte :=
  let p := r.body.payload
  [r.body.code, r.number] ++ u24 r.clock ++ p ++ List.replicate (7 - p.length) 0

end Sys2Proof.Machine
end

