-- ==== Sys2Proof/Machine/Flags.lean ====
section
/-! DEFINITION. What the rules define from other state at every moment: the conditions of zones and runs, demand and the
station's declarations (R6–R9), what the link state allows (R60), whether backlog counts as high (R123), the alert flags
(R180, R181), the status byte (R168) and the outputs that follow a table (R116, R173). -/

namespace Sys2Proof.Machine

/-- The zones in ascending zone number. -/
def zoneNos : List ZoneNo := [0, 1, 2, 3, 4, 5, 6, 7]

/-- The courses in ascending course number. -/
def courseNos : List CourseNo := [1, 2, 3, 4, 5, 6, 7, 8, 9, 10, 11, 12, 13, 14, 15]

/-! ### Straps and link -/

/-- The station's own number (R171). -/
def State.own (s : State) : Station := s.port.straps.number

def State.isPass (s : State) : Bool := s.port.straps.pass

def State.isRadio (s : State) : Bool := s.port.straps.radio

def State.isConveyor (s : State) : Bool := s.port.straps.conveyor

/-- R60: the states that take notices from the line. -/
def LinkState.hears : LinkState → Bool
  | .monitor | .listen | .joined | .alone | .leaving => true
  | .off | .left => false

/-- R60, R66: the states in which notices of the blocks are taken into the queue. -/
def LinkState.sends : LinkState → Bool
  | .joined | .alone => true
  | _ => false

/-- R20: the link states in which the heater outputs follow the plans. -/
def LinkState.heats : LinkState → Bool
  | .listen | .joined | .alone => true
  | _ => false

/-- MONITOR, LEAVING or LEFT: the states that several commands refuse (R27, R83, R88, R94, R96, R99). -/
def LinkState.bars : LinkState → Bool
  | .monitor | .leaving | .left => true
  | _ => false

/-- R20: the heater output table allows outputs. -/
def State.outputsAllowed (s : State) : Bool := s.oe && s.bus.link.heats

/-! ### Zones and runs -/

/-- R5. -/
def Zone.stale (z : Zone) : Bool := 6 ≤ z.age

/-- The latest temperature as an event carries it (R7, R32). -/
def Zone.eventTemp (z : Zone) : Int := z.temp.getD (-32768)

/-- R6: the test of a temperature against the limit. -/
def Zone.overTest (z : Zone) : Bool :=
  match z.temp with
  | some t => z.limit < t
  | none => false

/-- R26. -/
def RunState.active : RunState → Bool
  | .heating | .cooking | .holding => true
  | _ => false

/-- ARMED or active: the runs that hold their program entry and take a release (R23, R34). -/
def RunState.live : RunState → Bool
  | .armed | .heating | .cooking | .holding => true
  | _ => false

/-- The states of a run on a course (R37). -/
def RunState.onCourse : RunState → Bool
  | .armed | .heating | .cooking | .holding | .fault => true
  | _ => false

/-- The stage a run has reached. -/
def Run.stageNow (r : Run) : Option Stage := r.body.stages[r.stage]?

/-- The setpoint the program block gives: that of the stage of an active run (R26). -/
def Run.setpoint (r : Run) : Option Int := if r.state.active then r.stageNow.map (·.setpoint) else none

/-- R8: the demand of a zone whose run stands as given. -/
def Zone.demand (z : Zone) (r : Run) : Nat :=
  if z.rating = 0 || z.stale || z.isOver then 0
  else
    match r.setpoint, z.temp with
    | some sp, some t =>
      if sp - t ≤ 0 then 0 else min z.rating (z.rating * (sp - t).toNat / z.band)
    | _, _ => 0

/-- R9: min(d, φ). -/
def Zone.base (z : Zone) (r : Run) : Nat := min (z.demand r) z.floor

def State.demand (s : State) (z : ZoneNo) : Nat := s.heat.zones[z].demand s.prog.runs[z]

def State.base (s : State) (z : ZoneNo) : Nat := s.heat.zones[z].base s.prog.runs[z]

/-- R9: the declared demand Q. -/
def State.declaredQ (s : State) : Nat := (zoneNos.map s.demand).sum

/-- R9: the declared floor F. -/
def State.declaredF (s : State) : Nat := (zoneNos.map s.base).sum

/-- R39: the usable limit U. -/
def Load.usable (l : Load) : Nat := l.limit - l.reserve

/-! ### Ware block -/

/-- R107. -/
def State.wareActive (s : State) : Bool := s.isConveyor && s.port.configured && (s.bus.link != .left)

/-- R120: the backlog. -/
def State.backlog (s : State) : Nat :=
  if s.wareActive then min 999 (s.ware.waiting + s.ware.racks.length) else 0

/-- R123. -/
def State.backlogHigh (s : State) : Bool := !s.ware.wash.isEmpty || s.ware.levelHigh

/-! ### Radio relay -/

/-- R158. -/
def State.relayActive (s : State) : Bool :=
  s.isRadio &&
    match s.bus.link with
    | .monitor | .listen | .joined | .alone => true
    | _ => false

/-- R157: a group matches a pair. -/
def Pair.covers (p : Pair) (g : GroupNo) : Bool :=
  p.valid && ((BitVec.ofNat 5 g ^^^ p.base) &&& ~~~p.mask) == 0

/-- R157. -/
def Relay.covered (r : Relay) (g : GroupNo) : Bool := r.pairs.toList.any (·.covers g)

/-- R158: the relay list by priority, highest first, and by arrival order among equal priorities. -/
def Relay.ordered (r : Relay) : List RelayRec :=
  [7, 6, 5, 4, 3, 2, 1].flatMap fun p => r.list.filter fun x => x.priority == p

/-! ### Alert controller -/

/-- The alert causes by number (R180). -/
inductive Cause where
  | zoneFault | sanitizeLow | numberClash | conveyorFault | pageExpired | radioFault | mailboxOverrun | reportsReady
  | courseReady | curtailed | limitMismatch | linkAlone | eventDrop | withdrawDone | configNeeded | counterCarry
  deriving DecidableEq, Repr

/-- The causes in the order of their numbers, 1 to 16 (R180). -/
def causes : List Cause :=
  [.zoneFault, .sanitizeLow, .numberClash, .conveyorFault, .pageExpired, .radioFault, .mailboxOverrun, .reportsReady,
    .courseReady, .curtailed, .limitMismatch, .linkAlone, .eventDrop, .withdrawDone, .configNeeded, .counterCarry]

def Cause.number : Cause → Nat
  | .zoneFault => 1 | .sanitizeLow => 2 | .numberClash => 3 | .conveyorFault => 4 | .pageExpired => 5
  | .radioFault => 6 | .mailboxOverrun => 7 | .reportsReady => 8 | .courseReady => 9 | .curtailed => 10
  | .limitMismatch => 11 | .linkAlone => 12 | .eventDrop => 13 | .withdrawDone => 14 | .configNeeded => 15
  | .counterCarry => 16

def Cause.level : Cause → Nat
  | .zoneFault | .sanitizeLow => 7
  | .numberClash | .conveyorFault => 6
  | .pageExpired | .radioFault => 5
  | .mailboxOverrun | .reportsReady | .courseReady => 4
  | .curtailed | .limitMismatch | .linkAlone => 3
  | .eventDrop | .withdrawDone => 2
  | .configNeeded | .counterCarry => 1

/-- The latched causes; the others are conditions (R180). -/
def Cause.isLatched : Cause → Bool
  | .numberClash | .pageExpired | .radioFault | .mailboxOverrun | .courseReady | .eventDrop | .withdrawDone => true
  | _ => false

/-- Bit n − 1 for cause n (R190). -/
def Cause.bit (c : Cause) : Half := 1#16 <<< (c.number - 1)

/-- The mask of the latched causes: bits 2, 4, 5, 6, 8, 12 and 13. -/
def latchedCauses : Half := 0x3174

/-- R179: REPORTS_READY. -/
def Mailbox.ready (m : Mailbox) : Bool :=
  [m.bank0, m.bank1].any fun b => b.state == .full || (b.state == .filling && !b.reports.isEmpty)

/-- R180: the conditions, and the flags of the latched causes. -/
def State.isPending (s : State) : Cause → Bool
  | .zoneFault => s.prog.runs.toList.any (·.state == .fault)
  | .sanitizeLow => s.ware.heldLow
  | .conveyorFault => s.ware.conveyor == .fault
  | .reportsReady => s.port.mailbox.ready
  | .curtailed => s.load.curtailed
  | .limitMismatch => s.load.mismatch
  | .linkAlone => s.bus.link == .alone
  | .configNeeded => !s.port.configured
  | .counterCarry => s.port.counters.toList.any (·.carry)
  | c => s.port.latched &&& c.bit != 0

/-- The 16 pending flags, bit n − 1 for cause n (R190). -/
def State.pendingFlags (s : State) : Half :=
  (causes.map fun c => if s.isPending c then c.bit else 0).foldl (· ||| ·) 0

/-- A cause is pending and unmasked (R181). -/
def State.drives (s : State) (c : Cause) : Bool := s.isPending c && (s.port.mask &&& c.bit == 0)

/-- R168, R181: alert pending. -/
def State.alertPending (s : State) : Bool := causes.any s.drives

/-- R182: the pending unmasked cause of highest level, the lowest number within it. -/
def State.topCause (s : State) : Option Cause :=
  [7, 6, 5, 4, 3, 2, 1].findSome? fun lv => causes.find? fun c => c.level == lv && s.drives c

/-! ### Outputs -/

/-- The alert output is low; it is high while reset holds (R173, R181). -/
def State.alertLow (s : State) : Bool := !s.inReset && s.alertPending

/-- R116, R173: the conveyor run output. -/
def State.conveyorOut (s : State) : Bool := !s.inReset && s.oe && s.ware.conveyor == .running

/-- R116, R173: the sanitize output is high. -/
def State.sanitizeOut (s : State) : Bool := !s.inReset && s.oe && !s.ware.heldLow

/-- R16, R173: a heater output. -/
def State.heaterOut (s : State) (z : ZoneNo) : Bool := !s.inReset && s.heat.zones[z].on

/-! ### The status byte -/

/-- The link and configuration code of the status byte (R190). -/
def State.linkCode (s : State) : Byte :=
  match s.bus.link with
  | .off => 0
  | .monitor => if s.port.configured then 2 else 1
  | .listen => 3
  | .joined => 4
  | .alone => 5
  | .leaving => 6
  | .left => 7

/-- The status byte as select falls (R168, R190). -/
def State.statusByte (s : State) : Byte :=
  (flagByte s.alertPending <<< 7) ||| (s.linkCode <<< 4) ||| u8 s.port.lastResult.code

end Sys2Proof.Machine
end

