-- ==== Sys2Proof/Machine/Ops.lean ====
section
/-! DEFINITION. The operations every block uses: alert causes, counters, events raised, reports made, command frames. Each
is one record whose fields say what becomes of each block. -/

namespace Sys2Proof.Machine

/-- What a step answers. -/
abbrev Answer := Host.Outcome State Fault Refusal

/-- A command's effect `f`, which no block takes while the reset line holds (R173). -/
def unlessReset (s : State) (f : State → State) : Answer := .next (if s.inReset then s else f s)

/-! ### Alert causes and counters -/

/-- Latch a cause (R180). -/
def latch (c : Cause) (s : State) : State := { s with port := { s.port with latched := s.port.latched ||| c.bit } }

/-- The counters by number (R185). -/
inductive CounterName where
  | noticesSent | noticesHeard | badCheck | truncated | contentionDrop | deferDrop | txqDrop | racksClean
  | racksRewash | pagesMade | pagesEscalated | pagesDropped | eventsDropped | boardMiss
  deriving DecidableEq, Repr

/-- The place of a counter in counter order. -/
def CounterName.index : CounterName → Fin 14
  | .noticesSent => 0 | .noticesHeard => 1 | .badCheck => 2 | .truncated => 3 | .contentionDrop => 4
  | .deferDrop => 5 | .txqDrop => 6 | .racksClean => 7 | .racksRewash => 8 | .pagesMade => 9 | .pagesEscalated => 10
  | .pagesDropped => 11 | .eventsDropped => 12 | .boardMiss => 13

/-- R185: one increment; at 65,535 it makes the counter 0 and sets its carry flag. -/
def Counter.bump (c : Counter) : Counter := { value := c.value + 1, carry := c.carry || c.value == 0xffff }

/-- Raise a counter by 1 where `really` holds. -/
def bumpIf (really : Bool) (k : CounterName) (cs : Vector Counter 14) : Vector Counter 14 :=
  if really then cs.set k.index cs[k.index].bump else cs

/-- Raise a counter by 1 (R185). -/
def bump (k : CounterName) (s : State) : State :=
  { s with port := { s.port with counters := bumpIf true k s.port.counters } }

/-! ### Events (R128, R129) -/

/-- R128: the link states in which an event raised joins the queue. -/
def LinkState.takesEvents : LinkState → Bool
  | .leaving | .left => false
  | _ => true

/-- The event queue after an event arrives (R128, R129). -/
def queueEvent (q : List Event) (e : Event) : List Event :=
  if q.length < 16 then q ++ [e]
  else if e.kind.severity = 3 then
    match q.findIdx? (·.kind.severity ≠ 3) with
    | some i => q.eraseIdx i ++ [e]
    | none => q
  else q

/-- Raise an event into the routing block; a full queue loses one event, which is counted and latches EVENT_DROP. -/
def raise (e : Event) (s : State) : State :=
  let takes := s.bus.link.takesEvents
  let lost := takes && 16 ≤ s.route.events.length
  { s with
    route := { s.route with events := if takes then queueEvent s.route.events e else s.route.events }
    port := { s.port with
      counters := bumpIf lost .eventsDropped s.port.counters
      latched := if lost then s.port.latched ||| Cause.eventDrop.bit else s.port.latched } }

/-! ### Reports (R174–R178) -/

def Mailbox.bank (m : Mailbox) (i : Fin 2) : Bank := if i = 0 then m.bank0 else m.bank1

def Mailbox.setBank (m : Mailbox) (i : Fin 2) (b : Bank) : Mailbox :=
  if i = 0 then { m with bank0 := b } else { m with bank1 := b }

/-- The bank in a state, the lower-numbered first. -/
def Mailbox.find (m : Mailbox) (st : BankState) : Option (Fin 2) :=
  if m.bank0.state = st then some 0 else if m.bank1.state = st then some 1 else none

/-- An EMPTY bank becomes FILLING. -/
def Bank.opened (b : Bank) : Bank := if b.state = .empty then { b with state := .filling } else b

/-- R175, step 1: where no bank is FILLING, an EMPTY one becomes so, bank 0 first. -/
def Mailbox.opened (m : Mailbox) : Mailbox :=
  match m.find .filling, m.find .empty with
  | none, some i => m.setBank i (m.bank i).opened
  | _, _ => m

/-- R175: no bank is FILLING and none is EMPTY, so a report now made is lost. -/
def Mailbox.loses (m : Mailbox) : Bool := (m.find .filling).isNone && (m.find .empty).isNone

/-- R175, steps 2 and 3, and the report number (R174). -/
def Mailbox.put (m : Mailbox) (clock : Nat) (body : ReportBody) : Mailbox :=
  let r : Report := { number := m.nextNumber, clock := clock, body := body }
  let m := { m.opened with nextNumber := m.nextNumber + 1 }
  match m.find .filling with
  | none => m
  | some i =>
    let b := { m.bank i with reports := (m.bank i).reports ++ [r] }
    if b.reports.length < 8 then m.setBank i b
    else
      let m := (m.setBank i { b with state := .full }).setBank (1 - i) (m.bank (1 - i)).opened
      { m with fullOrder := m.fullOrder ++ [i] }

/-- Make a report (R175, R176): it takes the service clock, and latches MAILBOX_OVERRUN where it is lost. -/
def makeReport (body : ReportBody) (s : State) : State :=
  { s with port := { s.port with
      mailbox := s.port.mailbox.put s.course.clock body
      latched := if s.port.mailbox.loses then s.port.latched ||| Cause.mailboxOverrun.bit else s.port.latched } }

/-! ### Command frames (R166, R167, R170) -/

/-- The end of a frame: its data out and its last result. -/
def answerFrame (status : Byte) (data : List Byte) (r : Result) (s : State) : State :=
  { s with port := { s.port with lastResult := r, dataOut := status :: data } }

/-- A write frame (R167): wrong length gives FRAME; then, unless the command is taken before CONFIGURE, an unconfigured
station refuses NOT_CONFIGURED (R170); then the command acts as its rule gives. The status byte is that of the moment
select fell. -/
def writeFrame (lengthOk beforeConfigure : Bool) (act : State → State × Result) (s : State) : State :=
  if !lengthOk then answerFrame s.statusByte [] .frame s
  else if !beforeConfigure && !s.port.configured then answerFrame s.statusByte [] .notConfigured s
  else answerFrame s.statusByte [] (act s).2 (act s).1

/-- What data out carries while `n` bytes after the command code clock in and no rule gives it: free values. DESIGN CHOICE:
assumption log 30. -/
def openOuts (code : Byte) (p : List Byte) (n : Nat) : List Byte := (List.range n).map (Config.openOut code p)

/-- R166: what data out carries after the status byte in a read frame of `n` parameters: its data from the byte after the last
parameter on, as far as bytes are clocked. -/
def readOut (code : Byte) (n : Nat) (p data : List Byte) : List Byte := (openOuts code p n ++ data).take p.length

/-- A read frame (R166, R167) of a command code with `n` parameters: complete once they are in, whatever is clocked after them;
`side` is the read's side effect, `data` its data as they stand when select falls. -/
def readFrame (code : Byte) (n : Nat) (p : List Byte) (r : Result) (data : List Byte) (side : State → State) (s : State) :
    State :=
  if n ≤ p.length then answerFrame s.statusByte (readOut code n p data) r (side s)
  else answerFrame s.statusByte [] .frame s

end Sys2Proof.Machine
end

