-- ==== Sys2Proof/Machine/Heat.lean ====
section
/-! DEFINITION. The heat block's operations (chapter 1): leaving the window, the allotment of the applied grant, plans,
re-allotment, the outputs, and the following of the grant (R54, R55). -/

namespace Sys2Proof.Machine

/-- Rewrite one zone. -/
def mapZone (z : ZoneNo) (f : Zone → Zone) (s : State) : State :=
  { s with heat := { s.heat with zones := s.heat.zones.set z (f s.heat.zones[z]) } }

/-- Rewrite every zone. -/
def mapZones (f : ZoneNo → Zone → Zone) (s : State) : State :=
  { s with heat := { s.heat with zones := Vector.ofFn fun z => f z s.heat.zones[z] } }

/-- R16: the zone's output goes off at once and its plan is cut to the plan steps that have begun. -/
def Zone.leaves (zn : Zone) (step : Nat) : Zone := { zn with plan := zn.plan.filter (· ≤ step), on := false }

/-- A zone leaves the window (R16). -/
def leaveWindow (z : ZoneNo) (s : State) : State := mapZone z (·.leaves s.heat.step) s

/-- Every output goes off at once; the plans stand (R16, R20). -/
def outputsOff (s : State) : State := mapZones (fun _ zn => { zn with on := false }) s

/-! ### The allotment (R10–R13) -/

/-- One sweep: one unit each, in order, to those whose share is below their cap, while units remain. The list pairs each
share with its cap. -/
def sweep : Nat → List (Nat × Nat) → List Nat
  | _, [] => []
  | units, (share, cap) :: rest =>
    if 0 < units ∧ share < cap then (share + 1) :: sweep (units - 1) rest else share :: sweep units rest

/-- Shares topped up by one sweep until they sum to `total`. -/
def topUp (total : Nat) (shares caps : List Nat) : List Nat := sweep (total - shares.sum) (shares.zip caps)

/-- R11–R13: the allotments of zones with the given demands and bases under the applied grant. -/
def allotments (grant : Nat) (zones : List (Nat × Nat)) : List Nat :=
  let demands := zones.map (·.1)
  let bases := zones.map (·.2)
  if grant = 0 then zones.map fun _ => 0
  else if demands.sum ≤ grant then demands
  else if grant ≤ bases.sum then topUp grant (bases.map fun b => b * grant / bases.sum) bases
  else
    let excess := grant - bases.sum
    let wants := (zones.map fun x => x.1 - x.2).sum
    topUp grant (zones.map fun x => x.2 + (x.1 - x.2) * excess / wants) demands

/-- The allotment of each zone for the demands and bases that stand (R10). -/
def State.allotments (s : State) (grant : Nat) : List Nat :=
  Machine.allotments grant (zoneNos.map fun z => (s.demand z, s.base z))

/-! ### Plans (R15–R18) -/

/-- R15: the on-steps an allotment gives a zone. -/
def Zone.steps (zn : Zone) (allot : Nat) : Nat := if zn.rating = 0 then 0 else allot * 20 / zn.rating

/-- R15: `n` consecutive steps from the zone's first step, wrapping past step 19. -/
def planFor (z : ZoneNo) (n : Nat) : List Nat :=
  (List.range 20).filter fun k => (k + 20 - 2 * z.val % 20) % 20 < n

/-- R17: the declared draw of the plans. -/
def drawOf (zones : List Zone) : Nat := (zones.map fun zn => zn.plan.length * zn.rating).sum / 20

/-- R10, R15, R17: the window start. -/
def windowStart (s : State) : State :=
  let shares := s.allotments s.load.applied
  let zones : Vector Zone 8 := Vector.ofFn fun z =>
    let zn := s.heat.zones[z]
    let a := shares.getD z 0
    { zn with allot := a, plan := planFor z (zn.steps a) }
  { s with heat := { s.heat with zones := zones, windowGrant := s.load.applied, draw := drawOf zones.toList } }

/-- R18: a plan after a re-allotment in step `step`: the plan steps begun, then the further on-steps from the first step
not begun, as many as fit before the window ends. -/
def Zone.replan (zn : Zone) (step allot : Nat) : Zone :=
  let begun := zn.plan.filter (· ≤ step)
  let further := min (zn.steps allot) zn.plan.length - begun.length
  { zn with
    allot := allot
    plan := begun ++ ((List.range further).map (step + 1 + ·)).filter (· < 20) }

/-- R18: a re-allotment under the grant given, which becomes the window grant. -/
def reallot (grant : Nat) (s : State) : State :=
  let shares := s.allotments grant
  let zones : Vector Zone 8 := Vector.ofFn fun z => s.heat.zones[z].replan s.heat.step (shares.getD z 0)
  { s with heat := { s.heat with zones := zones, windowGrant := grant, draw := drawOf zones.toList } }

/-- The load block hands the heat block an applied grant: below the window grant it re-allots at once (R10, R54). -/
def applyGrant (grant : Nat) (s : State) : State :=
  let s1 := { s with load := { s.load with applied := grant } }
  if grant < s.heat.windowGrant then reallot grant s1 else s1

/-- R55: the applied grant is lowered to what the station may hold, and is otherwise left. -/
def lowerGrant (most : Nat) (s : State) : State := if most < s.load.applied then applyGrant most s else s

/-- R55: when Q falls below the applied grant, the applied grant becomes Q. -/
def followDemand (s : State) : State := lowerGrant s.declaredQ s

/-- R16: a zone's output at a step boundary. -/
def State.outputAt (s : State) (z : ZoneNo) : Bool :=
  let zn := s.heat.zones[z]
  zn.plan.contains s.heat.step && s.prog.runs[z].state.active && !zn.stale && !zn.isOver && s.outputsAllowed

/-- R16: the outputs are set for the step that has begun. -/
def setOutputs (s : State) : State := mapZones (fun z zn => { zn with on := s.outputAt z }) s

end Sys2Proof.Machine
end

