-- ==== Sys2Proof/Machine/Runs.lean ====
section
/-! DEFINITION. The program block's operations (chapter 2): run records, stages, faults, ticks, and the station's standing on
a course. -/

namespace Sys2Proof.Machine

/-- Replace a run record. A zone whose run leaves the active states leaves the output window (R16, R26). -/
def setRun (z : ZoneNo) (r : Run) (s : State) : State :=
  { s with
    prog := { s.prog with runs := s.prog.runs.set z r }
    heat :=
      if s.prog.runs[z].state.active && !r.state.active then
        { s.heat with zones := s.heat.zones.set z (s.heat.zones[z].leaves s.heat.step) }
      else s.heat }

/-- R7, R36: an active run whose zone is over or stale enters FAULT, with one event. -/
def faultCheck (z : ZoneNo) (s : State) : State :=
  let r := s.prog.runs[z]
  let zn := s.heat.zones[z]
  if r.state.active && (zn.isOver || zn.stale) then
    raise
      { kind := if zn.isOver then .zoneOver else .zoneStale, course := r.course, zone := some z, station := none,
        value := BitVec.ofInt 16 zn.eventTemp }
      (setRun z { r with state := .fault } s)
  else s

/-- R29, R30: a stage's end condition against the zone's samples; a stale zone's are not used. A TIMED stage ends at a tick
and a HOLD stage does not end. -/
def Stage.endsOn (st : Stage) (zn : Zone) : Bool :=
  !zn.stale &&
    match st.kind, zn.temp, zn.probe with
    | .heat, some t, _ => st.setpoint - 2 ≤ t
    | .probe, _, some t => st.param ≤ t
    | _, _, _ => false

/-- R29: the stage at which a run entering at `k` comes to rest; `stages` are those from index `k` on. -/
def restingStage (zn : Zone) : List Stage → Nat → Nat
  | [], k => k
  | st :: rest, k => if st.endsOn zn then restingStage zn rest (k + 1) else k

/-- R29: the state of a stage's kind. -/
def StageKind.runState : StageKind → RunState
  | .heat => .heating
  | .timed | .probe => .cooking
  | .hold => .holding

/-- R29: the run of a zone enters stage `k`. -/
def Run.enter (r : Run) (zn : Zone) (k : Nat) : Run :=
  let k' := restingStage zn (r.body.stages.drop k) k
  match r.body.stages[k']? with
  | some st => { r with state := st.kind.runState, stage := k', elapsed := 0, late := false }
  | none => r

/-- R29, R7: the run of a zone enters stage `k`, and a stale or over zone then faults it. -/
def enterStage (k : Nat) (z : ZoneNo) (s : State) : State :=
  faultCheck z (setRun z (s.prog.runs[z].enter s.heat.zones[z] k) s)

/-- R30: a sample of the zone tests its HEAT or PROBE stage. -/
def sampleStage (z : ZoneNo) (s : State) : State :=
  let r := s.prog.runs[z]
  match r.state.active, r.stageNow with
  | true, some st => if st.endsOn s.heat.zones[z] then enterStage (r.stage + 1) z s else s
  | _, _ => s

/-- R28: a fire order's ARMED runs of the course enter stage 0, in ascending zone number. -/
def fireRuns (c : CourseNo) (s : State) : State :=
  zoneNos.foldl
    (fun s z => if s.prog.runs[z].state = .armed ∧ s.prog.runs[z].course = c then enterStage 0 z s else s) s

/-- R34: a release's runs of the course become DONE. -/
def releaseRuns (c : CourseNo) (s : State) : State :=
  zoneNos.foldl
    (fun s z =>
      let r := s.prog.runs[z]
      if r.state.live && r.course == c then setRun z { r with state := .done, late := false } s else s) s

/-! ### Ticks of a run (R30, R32, R33) -/

/-- R30: a tick that ends the run's TIMED stage. -/
def Run.timedEnds (r : Run) : Bool :=
  match r.state, r.stageNow with
  | .cooking, some st => st.kind == .timed && st.param ≤ (r.elapsed + 1 : Nat)
  | _, _ => false

/-- R32: a tick that makes the run late. -/
def Run.becomesLate (r : Run) : Bool := r.state == .heating && !r.late && r.body.heatLimit < r.elapsed + 1

/-- R33: a tick that makes the run held over. -/
def Run.becomesHoldOver (r : Run) : Bool := r.state == .holding && !r.holdOver && r.body.holdLimit < r.holdElapsed + 1

/-- The counts of a run after a tick (R30, R33). -/
def Run.counted (r : Run) : Run :=
  match r.state with
  | .heating | .cooking => { r with elapsed := min 7200 (r.elapsed + 1), late := r.late || r.becomesLate }
  | .holding => { r with holdElapsed := min 3601 (r.holdElapsed + 1), holdOver := r.holdOver || r.becomesHoldOver }
  | _ => r

/-- The event of a run's tick: ZONE_LATE or HOLD_OVER (R32, R33). -/
def runEvent (z : ZoneNo) (r : Run) (zn : Zone) (s : State) : State :=
  if r.becomesLate then
    raise
      { kind := .zoneLate, course := r.course, zone := some z, station := none, value := BitVec.ofInt 16 zn.eventTemp } s
  else if r.becomesHoldOver then
    raise
      { kind := .holdOver, course := r.course, zone := some z, station := none,
        value := BitVec.ofNat 16 (r.holdElapsed + 1) } s
  else s

/-- A run takes a tick in the state it is in (R25). -/
def tickRun (z : ZoneNo) (s : State) : State :=
  let r := s.prog.runs[z]
  if r.timedEnds then enterStage (r.stage + 1) z s
  else runEvent z r s.heat.zones[z] (setRun z r.counted s)

/-! ### The station's standing on a course (R37, R38) -/

/-- R37: the zones whose runs are on the course. -/
def State.runsOn (s : State) (c : CourseNo) : List ZoneNo :=
  zoneNos.filter fun z => s.prog.runs[z].state.onCourse && s.prog.runs[z].course == c

/-- R37: within plate tolerance. -/
def State.inTolerance (s : State) (z : ZoneNo) : Bool :=
  !s.heat.zones[z].stale &&
    match s.prog.runs[z].setpoint, s.heat.zones[z].temp with
    | some sp, some t => (t - sp).natAbs ≤ 5
    | _, _ => false

/-- R37: the member state for the course; `none` stands for WITHDRAWN. -/
def State.standing (s : State) (c : CourseNo) : Option Standing :=
  let zs := s.runsOn c
  let run (z : ZoneNo) : Run := s.prog.runs[z]
  if zs.isEmpty then none
  else if zs.any fun z => (run z).state == .fault then some .fault
  else if zs.all fun z => (run z).state == .holding && (!(run z).body.plate || s.inTolerance z) then some .ready
  else if zs.any fun z => (run z).late then some .late
  else if zs.any fun z => (run z).state == .armed then some .armed
  else some .firing

/-- R38: the warm plates for the course. -/
def State.warmPlates (s : State) (c : CourseNo) : Nat :=
  let zs := (s.runsOn c).filter fun z => s.prog.runs[z].body.plate
  if !zs.isEmpty && zs.all s.inTolerance then s.prog.plates[c] else 0

/-- What the program block has to give the course block for the course: `none` once no run is on it. -/
def State.report (s : State) (c : CourseNo) : Option (Standing × Nat) :=
  (s.standing c).map fun st => (st, s.warmPlates c)

/-- R25: what reset, RESTART and entry to LEFT leave of the runs; every run IDLE, the plate counts 0 (R38). -/
def clearRuns (s : State) : State :=
  let s1 := zoneNos.foldl (fun s z => setRun z Run.idle s) s
  { s1 with prog := { s1.prog with plates := Vector.replicate 16 0, given := Vector.replicate 16 none } }

end Sys2Proof.Machine
end

