-- ==== Sys2Proof/Machine/Bus.lean ====
section
/-! DEFINITION. The Passbus controller's transmit queue and access machine (R65–R74). -/

namespace Sys2Proof.Machine

/-- The access classes (R65). -/
inductive TxClass where
  | a | b | c
  deriving DecidableEq, Repr

def Body.txClass : Body → TxClass
  | .hold .. | .answer .. | .leave => .a
  | .course .. | .page .. => .b
  | .load .. | .ware .. => .c

/-- The class gap in µs (R71). -/
def TxClass.gapUs : TxClass → Nat
  | .a => 48 | .b => 96 | .c => 144

/-- The supersede keys (R65). -/
inductive TxKey where
  | load | ware | course (course : Byte) | page (number : Byte) | hold (course : Byte)
  deriving DecidableEq, Repr

def Body.key : Body → Option TxKey
  | .load .. => some .load
  | .ware .. => some .ware
  | .course c .. => some (.course c)
  | .page n .. => some (.page n)
  | .hold c _ => some (.hold c)
  | .answer .. | .leave => none

def TxEntry.body (e : TxEntry) : Body := e.notice.body

def TxEntry.waiting (e : TxEntry) : Bool := !e.onLine

/-- The waiting notices of a class, in entry order. -/
def waitingOf (cls : TxClass) (q : List TxEntry) : List TxEntry := q.filter fun e => e.waiting && e.body.txClass == cls

/-- R71: the head of the queue. -/
def headOf (q : List TxEntry) : Option TxEntry := (waitingOf .a q ++ waitingOf .b q ++ waitingOf .c q).head?

/-- The notice in transmission. -/
def onLineOf (q : List TxEntry) : Option TxEntry := q.find? (·.onLine)

/-- The waiting notice that a new one supersedes (R67). -/
def supersededBy (b : Body) (q : List TxEntry) : Option TxEntry :=
  q.find? fun e => e.waiting && e.body.key == b.key && b.key.isSome

/-- The waiting notice that a new one displaces from a full queue (R69). -/
def displacedBy (b : Body) (q : List TxEntry) : Option TxEntry :=
  match b.txClass with
  | .a => ((waitingOf .c q).getLast?).or ((waitingOf .b q).getLast?)
  | .b => (waitingOf .c q).getLast?
  | .c => none

/-- The queue without a notice. -/
def withoutId (id : Nat) (q : List TxEntry) : List TxEntry := q.filter (·.id != id)

/-- R75: the receiver goes off, or has been off: what is on the line, if anything, is not taken when it comes on again. -/
def Bus.deafened (b : Bus) : Bus := { b with startMissed := b.startMissed || b.lineBusy }

/-- The access machine goes to EMPTY, DEFERRED or GAP, as the queue and the line have it; GAP takes a fresh draw from
0 to 7 and the class gap of the head (R71–R74). -/
def Bus.seek (b : Bus) : Bus :=
  match headOf b.queue with
  | none => { b with access := .empty }
  | some h =>
    if b.lineBusy then { b with access := .deferred }
    else { b with access := .gap, gapUs := h.body.txClass.gapUs + 16 * (Config.draw b.draws % 8), draws := b.draws + 1 }

/-- The access machine takes its next state. -/
def seekLine (s : State) : State := { s with bus := s.bus.seek }

/-- R71: a notice appended to an empty queue takes the machine out of EMPTY. -/
def Bus.wake (b : Bus) : Bus := if b.access = .empty then b.seek else b

/-- A PAGE outcome "not sent" (R146): the page that awaits this notice has no current notice. -/
def pageNotSent (id : Nat) (s : State) : State :=
  { s with page := { s.page with
      pages := s.page.pages.map fun p => if p.current = some id then { p with current := none } else p } }

/-- The queue entry a handed notice makes: the own number, the sender sequence, a new identity (R65, R68). -/
def State.newEntry (s : State) (b : Body) : TxEntry :=
  { id := s.bus.nextId, notice := { sender := s.own, seq := s.bus.seq, body := b }, attempts := 0, waitMs := 0,
    onLine := false, orphan := false }

/-- The queue takes a notice: the sequence rises (R65). -/
def Bus.took (b : Bus) (q : List TxEntry) : Bus := { b with queue := q, seq := b.seq + 1, nextId := b.nextId + 1 }

/-- Take a notice into the queue: supersede (R67), append (R68), or a full queue's handling (R69). -/
def takeNotice (b : Body) (s : State) : State :=
  match supersededBy b s.bus.queue with
  | some old =>
    { s with bus := s.bus.took (s.bus.queue.map fun e =>
        if e.id = old.id then { s.newEntry b with attempts := old.attempts, waitMs := old.waitMs } else e) }
  | none =>
    if s.bus.queue.length < 12 then { s with bus := (s.bus.took (s.bus.queue ++ [s.newEntry b])).wake }
    else
      match displacedBy b s.bus.queue with
      | some v =>
        pageNotSent v.id
          (bump .txqDrop { s with bus := s.bus.took (withoutId v.id s.bus.queue ++ [s.newEntry b]) })
      | none => bump .txqDrop s

/-- A block hands a notice: taken in JOINED and ALONE, declined in every other link state (R66). -/
def hand (b : Body) (s : State) : State := if s.bus.link.sends then takeNotice b s else s

/-- R71: the notice at the head goes into transmission; the station's own sending makes the line busy (R59). -/
def startSending (s : State) : State :=
  match headOf s.bus.queue with
  | none => s
  | some h =>
    { s with bus := { s.bus with
        queue := s.bus.queue.map fun e => if e.id = h.id then { e with onLine := true } else e
        access := .sending
        lineBusy := true } }

/-- R72: the notice goes back to waiting with its new attempt count. -/
def putBack (id n : Nat) (q : List TxEntry) : List TxEntry :=
  q.map fun e => if e.id = id then { e with onLine := false, attempts := n } else e

/-- R72: the queue after a collision of `e` at its `n`-th attempt: put back, unless a newer notice with its key waits, which
is then the one notice with that key (R67, R68). DEDUCED: assumption log 12. -/
def afterCollision (e : TxEntry) (n : Nat) (q : List TxEntry) : List TxEntry :=
  if (supersededBy e.body q).isSome then withoutId e.id q else putBack e.id n q

/-- R72: the backoff after the `n`-th failed attempt: 0 to 2^min(n, 5) − 1 slots of 64 µs. -/
def Bus.backOff (b : Bus) (n : Nat) : Bus :=
  { b with access := .backoff, backoffUs := 64 * (Config.draw b.draws % 2 ^ min n 5), draws := b.draws + 1 }

end Sys2Proof.Machine
end

