-- ==== Sys2Proof/Machine/Relaying.lean ====
section
/-! DEFINITION. The radio relay's list and exchange (R158–R164). -/

namespace Sys2Proof.Machine

/-- Two records of one page: the same origin and page number. -/
def RelayKey.samePage (a b : RelayKey) : Bool := a.origin == b.origin && a.number == b.number

/-- R160: the WAITING record of lowest priority, the latest in arrival order among equals. -/
def relayVictim (l : List RelayRec) : Option RelayRec :=
  [1, 2, 3, 4, 5, 6, 7].findSome? fun p => (l.filter fun r => !r.inFlight && r.priority == p).getLast?

/-- R159, R160: the list after a covered page is offered. -/
def offerTo (l : List RelayRec) (r : RelayRec) : List RelayRec :=
  if l.any (fun x => x.key.samePage r.key && r.key.attempt < x.key.attempt) then l
  else if l.any (fun x => x.key == r.key && !x.inFlight) then
    l.map fun x => if x.key = r.key then r else x
  else if l.any (fun x => x.key == r.key && x.inFlight) then l
  else if l.any (fun x => x.key.samePage r.key && !x.inFlight) then
    l.map fun x => if x.key.samePage r.key ∧ x.inFlight = false then r else x
  else if l.length < 8 then l ++ [r]
  else
    match relayVictim l with
    | some v => if v.priority < r.priority then l.filter (· != v) ++ [r] else l
    | none => l

/-- R161: the exchange sends the first WAITING record in list order. -/
def Relay.kick (r : Relay) : Relay :=
  match r.exchange, r.ordered.find? (!·.inFlight) with
  | .idle, some x =>
    { r with
      list := r.list.map fun y => if y = x then { y with inFlight := true } else y
      exchange := .first
      key := some x.key
      timerOn := false
      transmit := transmitBytes x }
  | _, _ => r

/-- While the relay is active and the exchange IDLE, the next record is sent (R161). -/
def kick (s : State) : State := { s with relay := if s.relayActive then s.relay.kick else s.relay }

/-- A page is offered to the relay (R159): at an active relay, if its group is covered. -/
def offerRelay (r : RelayRec) (s : State) : State :=
  if s.relayActive && s.relay.covered r.group then
    kick { s with relay := { s.relay with list := offerTo s.relay.list r } }
  else s

/-- The exchange returns to IDLE (R161, R162). -/
def Relay.idle (r : Relay) : Relay := { r with exchange := .idle, key := none, timerOn := false }

/-- The list without the records of a page, whatever their attempt and state (R163, R164). -/
def forgetPage (k : RelayKey) (s : State) : State :=
  { s with relay := { s.relay with list := s.relay.list.filter fun r => !r.key.samePage k } }

/-- R161: a DONE with the transmission key ends the exchange. -/
def Relay.finish (r : Relay) : Relay := { r.idle with list := r.list.filter (!·.inFlight) }

/-- R158, R162: the list is emptied without report and a transmission in flight is abandoned. -/
def emptyRelay (s : State) : State := { s with relay := { s.relay.idle with list := [] } }

end Sys2Proof.Machine
end

