-- ==== Sys2Proof/Machine/Paging.lean ====
section
/-! DEFINITION. The page block's operations (R142–R154). -/

namespace Sys2Proof.Machine

/-- A page request (R143). -/
structure PageRequest where
  group : GroupNo
  priority : Nat
  code : Nat
  course : CourseNo
  defer : Bool
  expiredOrigin : Bool
  deriving DecidableEq, Repr

def State.pageOf (s : State) (number : Nat) : Option Page := s.page.pages.find? (·.number == number)

/-- Rewrite the page with a number. -/
def mapPage (number : Nat) (f : Page → Page) (s : State) : State :=
  { s with page := { s.page with pages := s.page.pages.map fun p => if p.number = number then f p else p } }

/-- Remove the page with a number. -/
def removePage (number : Nat) (s : State) : State :=
  { s with page := { s.page with pages := s.page.pages.filter (·.number != number) } }

/-- A page of the group at that priority waits while the group is off duty (R144, R148, R151). -/
def State.mustWait (s : State) (g : GroupNo) (priority : Nat) : Bool := !s.page.groups[g].onDuty && priority < 7

/-- The PAGE notice of a page (R146). -/
def Page.notice (p : Page) : Body :=
  .page (u8 p.number) (u8 p.attempt) (u8 p.group) (u8 p.priority) (u8 p.code) (u8 p.course)

/-- R146: the answer timeout of a priority. -/
def answerTimeout (priority : Nat) : Nat := if priority ≤ 3 then 90 else if priority ≤ 6 then 45 else 20

/-- R146: the page's PAGE notice is handed; the handed notice becomes its current notice, or none does where the
controller declines or refuses it. -/
def offerPage (number : Nat) (s : State) : State :=
  match s.pageOf number with
  | none => s
  | some p =>
    let s1 := hand p.notice s
    mapPage number
      (fun x => { x with current := if s1.bus.nextId = s.bus.nextId then none else some s.bus.nextId }) s1

/-- R146: the outcome "sent". -/
def pageSent (id : Nat) (s : State) : State :=
  match s.page.pages.find? (·.current == some id) with
  | none => s
  | some p =>
    let s1 := mapPage p.number
      (fun x => { x with state := .sent, current := none, timer := answerTimeout x.priority }) s
    if s.isRadio then
      offerRelay
        { key := { origin := s.own, number := p.number, attempt := p.attempt }, group := p.group,
          priority := p.priority, code := p.code, course := p.course, inFlight := false } s1
    else s1

/-- A page enters QUEUED and is offered (R146). -/
def queuePage (number : Nat) (s : State) : State :=
  offerPage number (mapPage number (fun p => { p with state := .queued, timer := 0, current := none }) s)

/-- A page enters WAITING or QUEUED by its group's duty (R148, R151). -/
def placePage (number : Nat) (s : State) : State :=
  match s.pageOf number with
  | none => s
  | some p =>
    if s.mustWait p.group p.priority then
      mapPage number (fun x => { x with state := .waiting, timer := 0, current := none }) s
    else queuePage number s

/-- R143: a page's priority rises to `priority` if that is higher, and acts as its state gives. -/
def raisePriority (number priority : Nat) (s : State) : State :=
  match s.pageOf number with
  | none => s
  | some p =>
    if p.priority < priority then
      let s1 := mapPage number (fun x => { x with priority := priority }) s
      match p.state with
      | .waiting => if priority = 7 then queuePage number s1 else s1
      | .queued => if p.current.isSome then offerPage number s1 else s1
      | .deferred | .sent => s1
    else s

/-- R142: the number a new page takes: the next number, or the first after it that no page holds. -/
def PageBlock.freshNumber (b : PageBlock) : Nat :=
  (((List.range 255).map fun k => (b.next - 1 + k) % 255 + 1).find?
    fun n => !b.pages.any (·.number == n)).getD b.next

/-- R142: the number after one taken, with 255 followed by 1. -/
def nextNumber (n : Nat) : Nat := n % 255 + 1

/-- R144: a page is made from a request. -/
def makePage (r : PageRequest) (s : State) : State :=
  let n := s.page.freshNumber
  let state :=
    if s.mustWait r.group r.priority then PageState.waiting
    else if r.defer && s.backlogHigh then .deferred
    else .queued
  let p : Page :=
    { number := n, attempt := 0, group := r.group, priority := r.priority, code := r.code, course := r.course,
      defer := r.defer, expiredOrigin := r.expiredOrigin, state := state, timer := 0, current := none }
  let s1 := bump .pagesMade { s with page := { s.page with pages := s.page.pages ++ [p], next := nextNumber n } }
  if state = .queued then offerPage n s1 else s1

/-- R144: the page a request may evict: not SENT, of the lowest priority, the earliest among equals. -/
def evictable (pages : List Page) : Option Page :=
  [1, 2, 3, 4, 5, 6, 7].findSome? fun pr => pages.find? fun p => p.state != .sent && p.priority == pr

/-- An outstanding page with the request's group, message code and course (R143). -/
def Page.answersTo (p : Page) (g : GroupNo) (code : Nat) (course : CourseNo) : Bool :=
  p.group == g && p.code == code && p.course == course

/-- R143, R144: whether a request that finds no page to merge with makes one. -/
def State.makesPage (s : State) (r : PageRequest) : Bool :=
  s.page.pages.length < 16 ||
    match evictable s.page.pages with
    | some v => v.priority < r.priority
    | none => false

/-- R143, R144, R154: a page request is merged, makes a page (with an eviction from a full queue), or is refused; in
LEAVING and LEFT it makes none. -/
def requestPage (r : PageRequest) (s : State) : State :=
  if !s.bus.link.takesEvents then s
  else
    match s.page.pages.find? (·.answersTo r.group r.code r.course) with
    | some p => raisePriority p.number r.priority s
    | none =>
      if s.page.pages.length < 16 then makePage r s
      else
        match evictable s.page.pages with
        | some v =>
          if v.priority < r.priority then makePage r (bump .pagesDropped (removePage v.number s))
          else bump .pagesDropped s
        | none => bump .pagesDropped s

/-- The request is merged or makes a page (R145). -/
def State.takesRequest (s : State) (r : PageRequest) : Bool :=
  s.page.pages.any (·.answersTo r.group r.code r.course) || s.makesPage r

/-- R152: a page expires. -/
def expirePage (p : Page) (s : State) : State :=
  let s1 := latch .pageExpired
    (makeReport (.expired p.number p.attempt p.group p.priority p.code p.course) (removePage p.number s))
  if p.expiredOrigin then s1
  else
    raise { kind := .pageExpired, course := p.course, zone := none, station := none, value := BitVec.ofNat 16 p.number } s1

/-- R151: a page escalates: it expires, is folded into another page, or moves to the group above. -/
def escalate (number : Nat) (s : State) : State :=
  match s.pageOf number with
  | none => s
  | some p =>
    let g := s.page.groups[p.group].escalation
    if p.attempt = 2 ∨ g = p.group then expirePage p s
    else
      let pr := min 7 (p.priority + 1)
      let s1 := bump .pagesEscalated
        (mapPage number
          (fun x => { x with group := g, priority := pr, attempt := x.attempt + 1, timer := 0, current := none }) s)
      match s.page.pages.find? (fun x => x.number != number && x.answersTo g p.code p.course) with
      | some other => raisePriority other.number pr (removePage number s1)
      | none => placePage number s1

/-- R150: the page block takes an answer. DESIGN CHOICE: what it carries out of its ranges is taken and reported as it stands
(assumption log 22). -/
def takeAnswer (number attempt pager : Nat) (accept : Bool) (s : State) : State :=
  match s.pageOf number with
  | none => s
  | some p =>
    if accept then
      makeReport (.answered number attempt p.group p.code p.course pager) (removePage number s)
    else if attempt = p.attempt then escalate number s
    else s

/-- R148: a page leaves DEFERRED. -/
def undefer (number : Nat) (s : State) : State := placePage number s

/-- The numbers of the pages that pass a test, in creation order. -/
def State.pagesWhere (s : State) (f : Page → Bool) : List Nat := (s.page.pages.filter f).map (·.number)

/-- R148: backlog has stopped counting as high: every DEFERRED page leaves, in creation order. -/
def undeferAll (s : State) : State := (s.pagesWhere (·.state == .deferred)).foldl (fun s n => undefer n s) s

/-- A change of what backlog counts: the page block is told when it stops counting as high (R123, R148). -/
def watchBacklog (f : State → State) (s : State) : State :=
  let s1 := f s
  if s.backlogHigh && !s1.backlogHigh then undeferAll s1 else s1

/-- R141: the pages of a group move as its duty flag has it. -/
def moveForDuty (g : GroupNo) (s : State) : State :=
  if s.page.groups[g].onDuty then
    (s.pagesWhere fun p => p.group == g && p.state == .waiting).foldl (fun s n => queuePage n s) s
  else
    { s with page := { s.page with
        pages := s.page.pages.map fun p =>
          if p.group = g ∧ p.state = .queued ∧ p.priority < 7 then { p with state := .waiting, current := none }
          else p } }

/-- Write a group's entry (R140). -/
def setGroup (g : GroupNo) (x : Group) (s : State) : State :=
  { s with page := { s.page with groups := s.page.groups.set g x } }

/-- R154: every page is removed in creation order, each with a WITHDRAWN report. DESIGN CHOICE: a report that finds no bank is lost
as R175 gives, with MAILBOX_OVERRUN latched (assumption log 36). -/
def withdrawPages (s : State) : State :=
  s.page.pages.foldl
    (fun s p => makeReport (.withdrawn p.number p.attempt p.group p.code p.course p.state) s)
    { s with page := { s.page with pages := [] } }

/-! ### The tick (R149) -/

/-- Step 1: the SENT pages' answer times fall by 1; those that reach 0 escalate in creation order. -/
def tickSent (s : State) : State :=
  (s.pagesWhere fun p => p.state == .sent && p.timer ≤ 1).foldl (fun s n => escalate n s)
    { s with page := { s.page with
        pages := s.page.pages.map fun p => if p.state = .sent then { p with timer := p.timer - 1 } else p } }

/-- Step 2: the DEFERRED pages' timers rise by 1; those that reach 120 leave. -/
def tickDeferred (s : State) : State :=
  (s.pagesWhere fun p => p.state == .deferred && 119 ≤ p.timer).foldl (fun s n => undefer n s)
    { s with page := { s.page with
        pages := s.page.pages.map fun p => if p.state = .deferred then { p with timer := p.timer + 1 } else p } }

/-- The QUEUED pages with no current notice, by priority, highest first, then by creation order. -/
def State.toOffer (s : State) : List Nat :=
  [7, 6, 5, 4, 3, 2, 1].flatMap fun pr =>
    s.pagesWhere fun p => p.state == .queued && p.current.isNone && p.priority == pr

/-- R149. Step 3 offers the QUEUED pages with no current notice that did not enter QUEUED during steps 1 and 2: those that
were QUEUED before, since no page leaves QUEUED in these steps. -/
def pageTick (s : State) : State :=
  let before := s.pagesWhere (·.state == .queued)
  let s2 := tickDeferred (tickSent s)
  (s2.toOffer.filter before.contains).foldl (fun s n => offerPage n s) s2

end Sys2Proof.Machine
end

