-- ==== Sys2Proof/Machine/WareReturn.lean ====
section
/-! DEFINITION. The ware block's operations (chapter 6): the conveyor, the rack queue, the backlog, WARE notices and the
wash view. -/

namespace Sys2Proof.Machine

/-- Rewrite the ware block. -/
def mapWare (f : Ware → Ware) (s : State) : State := { s with ware := f s.ware }

/-! ### The conveyor (R114, R115, R118) -/

/-- R114: the least rinse temperature at which the conveyor runs, as it stands. -/
def Ware.rinseThreshold (w : Ware) : Nat := if w.conveyor != .running && w.margin then w.sanMin + 2 else w.sanMin

/-- A zone is not stale and its latest temperature is at or above `least` (R114). -/
def Zone.freshAtLeast (zn : Zone) (least : Nat) : Bool :=
  !zn.stale &&
    match zn.temp with
    | some t => (least : Int) ≤ t
    | none => false

/-- Run condition 3 (R114). -/
def State.rinseOk (s : State) : Bool := s.heat.zones[s.ware.rinseZone].freshAtLeast s.ware.rinseThreshold

/-- Run condition 4 (R114). -/
def State.washOk (s : State) : Bool := s.heat.zones[s.ware.washZone].freshAtLeast s.ware.washMin

/-- Every run condition holds (R114). -/
def State.mayRun (s : State) : Bool := s.oe && s.bus.link.sends && s.rinseOk && s.washOk

/-- The conveyor takes a state; the restart margin flag is set as it leaves RUNNING and clears as it enters it (R114). -/
def Ware.move (w : Ware) (c : Conveyor) : Ware :=
  { w with
    conveyor := c
    margin := if c = .running then false else if w.conveyor = .running then true else w.margin }

/-- R114: the state the conveyor takes for its inputs, unless it is in FAULT. -/
def State.conveyorTarget (s : State) : Conveyor :=
  if !s.wareActive || !s.ware.enable then .off else if s.mayRun then .running else .waiting

/-- R115: the zone CONVEYOR_STOP carries. -/
def State.stopZone (s : State) : Option ZoneNo :=
  if !s.rinseOk then some s.ware.rinseZone
  else if s.oe && s.bus.link.sends then some s.ware.washZone
  else none

/-- R114 without regard to FAULT; CONVEYOR_STOP is raised on a move from RUNNING to WAITING with a rack on board. -/
def driveConveyor (s : State) : State :=
  let target := s.conveyorTarget
  let s1 := mapWare (·.move target) s
  if s.ware.conveyor = .running ∧ target = .waiting ∧ s.ware.racks ≠ [] then
    raise
      { kind := .conveyorStop, course := 0, zone := s.stopZone, station := none,
        value := BitVec.ofNat 16 s.ware.racks.length } s1
  else s1

/-- R115: the conveyor is evaluated again; in FAULT it stays. -/
def evalConveyor (s : State) : State := if s.ware.conveyor = .fault then s else driveConveyor s

/-- R118: the value of a CONVEYOR_FAULT event. -/
def SubCause.eventValue : SubCause → Half
  | .rackLost => 1 | .sensor => 2 | .untracked => 3 | .dwell => 4

/-- R118: the conveyor enters FAULT; one already in FAULT keeps its first sub-cause and raises nothing. -/
def faultConveyor (c : SubCause) (s : State) : State :=
  if s.ware.conveyor = .fault then s
  else
    raise { kind := .conveyorFault, course := 0, zone := none, station := none, value := c.eventValue }
      (mapWare (fun w => { w.move .fault with subCause := some c }) s)

/-! ### Backlog and WARE notices (R120, R121) -/

/-- The WARE notice as things stand (R121). -/
def State.wareNotice (s : State) : Body :=
  .ware (flagByte s.ware.levelHigh) (BitVec.ofNat 16 s.backlog) (u8 s.ware.conveyor.code)

/-- Hand a WARE notice; the repeat count returns to 0 (R121). -/
def handWare (s : State) : State := hand s.wareNotice (mapWare (fun w => { w with repeatCount := 0 }) s)

/-- R120: the backlog level is evaluated again. -/
def evalLevel (s : State) : State :=
  if !s.wareActive then s
  else if !s.ware.levelHigh && s.ware.high ≤ s.backlog then
    handWare
      (raise { kind := .backlogHigh, course := 0, zone := none, station := none, value := BitVec.ofNat 16 s.backlog }
        (mapWare (fun w => { w with levelHigh := true }) s))
  else if s.ware.levelHigh && s.backlog ≤ s.ware.low then handWare (mapWare (fun w => { w with levelHigh := false }) s)
  else s

/-- R120, R123: the level is evaluated again and the page block told of what that changes. -/
def evalBacklog (s : State) : State := watchBacklog evalLevel s

/-! ### Racks (R109–R112) -/

/-- R109: the rack record an ENTRY edge appends. -/
def State.newRack (s : State) : Rack :=
  { seq := s.ware.nextSeq, entry := s.course.clock, rinsed := false, running := 0, temp := none, result := none }

/-- R109. -/
def takeEntry (s : State) : State :=
  if 24 ≤ s.ware.racks.length then faultConveyor .rackLost s
  else
    evalBacklog
      (mapWare (fun w => { w with racks := w.racks ++ [s.newRack], nextSeq := (w.nextSeq + 1) % 65536 }) s)

/-- R110: the verification of a rack by the rinse zone as it stands. -/
def State.verdict (s : State) : RackResult :=
  if s.heat.zones[s.ware.rinseZone].freshAtLeast s.ware.sanMin then .clean else .rewash

/-- The first LOADED rack becomes RINSED with a temperature and a result. -/
def rinseFirst (temp : Option Int) (result : RackResult) : List Rack → List Rack
  | [] => []
  | r :: rest =>
    if r.rinsed then r :: rinseFirst temp result rest
    else { r with rinsed := true, temp := temp, result := some result } :: rest

/-- R110. -/
def takeRinse (s : State) : State :=
  if s.ware.racks.all (·.rinsed) then faultConveyor .sensor s
  else
    mapWare (fun w => { w with racks := rinseFirst s.heat.zones[w.rinseZone].temp s.verdict w.racks }) s

/-- R111: what a REWASH rack does as it leaves. -/
def rewashExit (r : Rack) (s : State) : State :=
  makeReport (.rackRewash r.seq r.entry r.temp)
    (mapWare (fun w => { w with heldLow := true })
      (raise
        { kind := .rinseFail, course := 0, zone := some s.ware.rinseZone, station := none,
          value := BitVec.ofInt 16 (r.temp.getD (-32768)) }
        (bump .racksRewash s)))

/-- R111, R112. -/
def takeExit (s : State) : State :=
  match s.ware.racks with
  | [] => faultConveyor .untracked (makeReport .rackUntracked (mapWare (fun w => { w with heldLow := true }) s))
  | r :: rest =>
    let s1 := evalBacklog (mapWare (fun w => { w with racks := rest }) s)
    if !r.rinsed then faultConveyor .sensor (rewashExit { r with temp := none } s1)
    else if r.result = some .clean then bump .racksClean s1
    else rewashExit r s1

/-! ### The wash view (R122, R123) -/

/-- R122: a WARE notice with level HIGH, at a view in ascending station number. -/
def noteWash (e : WashEntry) (l : List WashEntry) : List WashEntry :=
  if l.any (·.station == e.station) then l.map fun x => if x.station = e.station then e else x
  else if l.length < 4 then l.filter (·.station < e.station) ++ e :: l.filter (e.station < ·.station)
  else l

/-- The view without a station. -/
def dropWash (st : Station) (l : List WashEntry) : List WashEntry := l.filter (·.station != st)

/-- Change the wash view, the page block being told of what that changes (R123). -/
def mapWash (f : List WashEntry → List WashEntry) (s : State) : State :=
  watchBacklog (mapWare fun w => { w with wash := f w.wash }) s

/-! ### The tick (R117) -/

/-- Step 1: the racks on a RUNNING conveyor take a second. -/
def tickRacks (s : State) : State :=
  if s.ware.conveyor = .running then
    mapWare (fun w => { w with racks := w.racks.map fun r => { r with running := min 65535 (r.running + 1) } }) s
  else s

/-- Step 2: the dwell of the oldest rack. -/
def tickDwell (s : State) : State :=
  match s.ware.racks with
  | r :: _ => if s.ware.conveyor = .running ∧ s.ware.maxDwell < r.running then faultConveyor .dwell s else s
  | [] => s

/-- Step 3: the wash view ages; an entry that reaches 30 is removed. -/
def tickWash (s : State) : State :=
  mapWash (fun l => (l.map fun e => { e with age := e.age + 1 }).filter (·.age < 30)) s

/-- Step 4: the WARE repeat. -/
def tickWareRepeat (s : State) : State :=
  if s.wareActive && s.bus.link.sends then
    if 9 ≤ s.ware.repeatCount then handWare s
    else mapWare (fun w => { w with repeatCount := w.repeatCount + 1 }) s
  else s

/-- R117. -/
def wareTick (s : State) : State := tickWareRepeat (tickWash (tickDwell (tickRacks s)))

/-- R125: what RESTART and entry to LEFT leave of the ware block. -/
def Ware.cleared (w : Ware) : Ware :=
  { w with
    enable := false, waiting := 0, racks := [], conveyor := .off, subCause := none, margin := false, heldLow := false,
    levelHigh := false, repeatCount := 0, wash := [] }

end Sys2Proof.Machine
end

