-- ==== Sys2Proof/Machine/Courses.lean ====
section
/-! DEFINITION. The course block's operations (chapter 5): the board, COURSE notices, fire orders, holds, readiness, release,
members lost and the tick; and the program block's giving of the station's standing (R37, R87). -/

namespace Sys2Proof.Machine

def State.recOf (s : State) (c : CourseNo) : Option CourseRec := s.course.board.find? (·.course == c)

/-- Rewrite the record of a course. -/
def mapRec (c : CourseNo) (f : CourseRec → CourseRec) (s : State) : State :=
  { s with course := { s.course with board := s.course.board.map fun r => if r.course = c then f r else r } }

/-- The board without a record; the release orders after it fall by 1 (R85). -/
def withoutRec (r : CourseRec) (board : List CourseRec) : List CourseRec :=
  (board.filter (·.course != r.course)).map fun x =>
    match r.releaseOrder, x.releaseOrder with
    | some n, some m => if n < m then { x with releaseOrder := some (m - 1) } else x
    | _, _ => x

/-- Remove the record of a course (R89). -/
def removeRec (c : CourseNo) (s : State) : State :=
  match s.recOf c with
  | some r => { s with course := { s.course with board := withoutRec r s.course.board } }
  | none => s

/-- A new record (R85). -/
def CourseRec.new (c : CourseNo) : CourseRec :=
  { course := c, state := .opened, plates := 0, auto := false, clearDelay := 0, hold := 0, origin := none,
    releaseTime := none, releaseAge := 0, readyRaised := false, repeatCount := 0, releaseOrder := none, members := [] }

def CourseRec.member (r : CourseRec) (st : Station) : Option Member := r.members.find? (·.station == st)

/-- The warm plates of all member entries together (R98). -/
def CourseRec.warm (r : CourseRec) : Nat := (r.members.map (·.warm)).sum

/-- R85: FIRED, HELD and READY. -/
def CourseState.isFired : CourseState → Bool
  | .fired | .held | .ready => true
  | .opened | .released => false

/-- Insert a member entry in ascending station number, or refresh the one there, keeping its flag (R85, R93). -/
def putMember (m : Member) (l : List Member) : List Member :=
  if l.any (·.station == m.station) then
    l.map fun x => if x.station = m.station then { m with fireSeen := x.fireSeen } else x
  else l.filter (·.station < m.station) ++ m :: l.filter (m.station < ·.station)

def dropMember (st : Station) (l : List Member) : List Member := l.filter (·.station != st)

/-! ### COURSE notices (R90, R91) -/

/-- R90, R189: the member state byte of the station's COURSE notice for a record. -/
def State.memberByte (s : State) (r : CourseRec) (release : Bool) : Byte :=
  if release then 8
  else
    match r.member s.own with
    | some m => u8 m.standing.code
    | none => if s.isPass then 7 else 6

/-- R90: the COURSE notice for a record. -/
def State.courseNotice (s : State) (r : CourseRec) (release fire : Bool) : Body :=
  .course (u8 r.course) (s.memberByte r release) fire 0
    (if s.isPass then some (BitVec.ofNat 16 r.plates) else none)
    ((r.member s.own).map fun m => BitVec.ofNat 16 m.warm)

/-- Hand a COURSE notice for a course: its repeat count returns to 0 (R91), and with the fire flag the own entry's
fire-flag-seen flag is set (R87). -/
def handCourse (c : CourseNo) (release fire : Bool) (s : State) : State :=
  match s.recOf c with
  | none => s
  | some r =>
    hand (s.courseNotice r release fire)
      (mapRec c
        (fun x => { x with
          repeatCount := 0
          members := x.members.map fun m => if fire ∧ m.station = s.own then { m with fireSeen := true } else m }) s)

/-- The HOLD notice of a course (R96). -/
def handHold (c : CourseNo) (quanta : Nat) (s : State) : State := hand (.hold (u8 c) (u8 quanta)) s

/-! ### Release (R101, R102) -/

/-- R102: the CLEAR_CALL of a clearing list entry. -/
def raiseClearCall (e : ClearEntry) (s : State) : State :=
  raise { kind := .clearCall, course := e.course, zone := none, station := none, value := BitVec.ofNat 16 e.delay } s

/-- R102: the entry a full clearing list gives up: the least time remaining, the earliest among equals. -/
def leastClear : List ClearEntry → Option ClearEntry
  | [] => none
  | e :: rest =>
    match leastClear rest with
    | some x => if x.remaining < e.remaining then some x else some e
    | none => some e

/-- R102: a release puts an entry in the clearing list. -/
def addClearing (e : ClearEntry) (s : State) : State :=
  let others := s.course.clearing.filter (·.course != e.course)
  match leastClear others with
  | some x =>
    if others.length < 4 then { s with course := { s.course with clearing := others ++ [e] } }
    else
      raiseClearCall x
        { s with course := { s.course with clearing := others.filter (·.course != x.course) ++ [e] } }
  | none => { s with course := { s.course with clearing := [e] } }

/-- The own entry of a record follows what the program block gives: inserted or refreshed, or removed (R87). -/
def followOwn (c : CourseNo) (given : Option (Standing × Nat)) (s : State) : State :=
  mapRec c
    (fun r => { r with members :=
      match given with
      | some (st, warm) => putMember { station := s.own, standing := st, warm := warm, fireSeen := false } r.members
      | none => dropMember s.own r.members }) s

/-- The program block notes what it has given for a course (R37). -/
def noteGiven (c : CourseNo) (given : Option (Standing × Nat)) (s : State) : State :=
  { s with prog := { s.prog with given := s.prog.given.set c given } }

/-- R101: a record enters RELEASED; the release orders count the RELEASED records before it. -/
def CourseRec.releasedAt (r : CourseRec) (clock order : Nat) : CourseRec :=
  { r with state := .released, hold := 0, origin := none, releaseTime := some clock, releaseAge := 0,
           releaseOrder := some order, readyRaised := false, repeatCount := 0 }

/-- The RELEASED records on the board. -/
def State.releasedCount (s : State) : Nat := (s.course.board.filter (·.state == .released)).length

/-- R101: the release of a course whose record stands as `r`, by the station given. The runs end (R34), the events and the
report are made, the clearing call is listed (R102), a local release is announced, and the own entry then follows the
runs. DEDUCED: a RELEASE heard from sender 0 gives the events and the report station 0 (assumption log 35). -/
def releaseRec (r : CourseRec) (by_ : Station) (isLocal : Bool) (s : State) : State :=
  let c := r.course
  let early := r.state != .ready
  let s := mapRec c (·.releasedAt s.course.clock s.releasedCount) s
  let s := releaseRuns c s
  let s :=
    if early then
      raise { kind := .earlyRelease, course := c, zone := none, station := some by_,
              value := BitVec.ofNat 16 (r.members.filter (·.standing != .ready)).length } s
    else s
  let s := raise
    { kind := .courseReleased, course := c, zone := none, station := some by_, value := BitVec.ofNat 16 r.members.length } s
  let s := makeReport (.courseReleased c by_ early) s
  let s :=
    if s.isPass && 0 < r.clearDelay then
      addClearing { course := c, remaining := r.clearDelay * 60, delay := r.clearDelay } s
    else s
  let s := if isLocal then handCourse c true false s else s
  followDemand (noteGiven c (s.report c) (followOwn c (s.report c) s))

/-- R101: the release of a course; a RELEASED record, or none, takes no release. -/
def releaseCourse (c : CourseNo) (by_ : Station) (isLocal : Bool) (s : State) : State :=
  match s.recOf c with
  | some r => if r.state = .released then s else releaseRec r by_ isLocal s
  | none => s

/-! ### Readiness (R98, R100) -/

/-- R98: the course is ready. -/
def CourseRec.isReady (r : CourseRec) : Bool :=
  r.state.isFired && r.hold == 0 && !r.members.isEmpty && r.members.all (·.standing == .ready) &&
    (r.plates == 0 || r.plates ≤ r.warm)

/-- R98, R126: the warm plates of all members as an event's value; above 32,767 the spec gives the event no value, and it is
free. DESIGN CHOICE: assumption log 31. -/
def CourseRec.warmValue (r : CourseRec) : Half := if r.warm ≤ 32767 then BitVec.ofNat 16 r.warm else Config.warmValue r.warm

/-- R98, R190: the warm plates of all members in the two bytes of a report; above 65,535 they are free. DESIGN CHOICE:
assumption log 31. -/
def CourseRec.warmReport (r : CourseRec) : Half := if r.warm ≤ 65535 then BitVec.ofNat 16 r.warm else Config.warmReport r.warm

/-- R98: a record enters READY; with its ready-raised flag clear it raises COURSE_READY, makes the report and latches the
cause. -/
def enterReady (r : CourseRec) (s : State) : State :=
  let s1 := mapRec r.course (fun x => { x with state := .ready, readyRaised := true }) s
  if r.readyRaised then s1
  else
    latch .courseReady
      (makeReport (.courseReady r.course r.warmReport)
        (raise { kind := .courseReady, course := r.course, zone := none, station := none, value := r.warmValue } s1))

/-- R98, R100: the readiness of a record is evaluated again; an auto-release record is released as it enters READY. -/
def evalReady (c : CourseNo) (s : State) : State :=
  match s.recOf c with
  | none => s
  | some r =>
    if r.state = .fired ∧ r.isReady then
      let s1 := enterReady r s
      if s.isPass && r.auto then releaseCourse c s.own true s1 else s1
    else if r.state = .ready ∧ !r.isReady then mapRec c (fun x => { x with state := .fired, readyRaised := false }) s
    else s

/-! ### Holds (R95–R97) -/

/-- R95: the record enters HELD, from FIRED, READY or through its fire order; the HELD report. -/
def enterHeld (r : CourseRec) (s : State) : State :=
  makeReport (.courseHeld r.course r.origin r.hold)
    (mapRec r.course (fun x => { x with state := .held, readyRaised := if r.state = .ready then false else x.readyRaised }) s)

/-- R95: the record after a hold request sets its hold. -/
def CourseRec.withHold (r : CourseRec) (quanta : Nat) (origin : Station) : CourseRec :=
  { r with hold := quanta * 4, origin := if quanta = 0 then none else some origin }

/-- R95: a hold request. -/
def requestHold (c : CourseNo) (quanta : Nat) (origin : Station) (s : State) : State :=
  match s.recOf c with
  | none => s
  | some r =>
    if r.state = .released then s
    else
      let r1 := r.withHold quanta origin
      let s1 := mapRec c (·.withHold quanta origin) s
      if !r.state.isFired then s1
      else if 0 < quanta then if r.state = .held then s1 else enterHeld r1 s1
      else evalReady c (mapRec c (fun x => { x with state := .fired }) s1)

/-- R97: the automatic late hold: a hold request with the late quanta and the own number, and its HOLD notice. -/
def lateHold (c : CourseNo) (s : State) : State :=
  handHold c s.course.lateQuanta (requestHold c s.course.lateQuanta s.own s)

/-! ### The own member entry (R87, R91, R97) -/

/-- R87: the course block takes a member state and warm plates for a course. On a record that is not RELEASED a change of
the own entry hands a COURSE notice, a turn to LATE makes the late hold, and readiness is evaluated, with the release it may bring
about. DESIGN CHOICE: that order (assumption log 27). -/
def takeStanding (c : CourseNo) (given : Option (Standing × Nat)) (s : State) : State :=
  match s.recOf c with
  | none => s
  | some r =>
    let old := (r.member s.own).map fun m => (m.standing, m.warm)
    let s1 := followOwn c given s
    if r.state = .released ∨ old = given then s1
    else
      let s2 := handCourse c false false s1
      let turnsLate := given.map (·.1) = some .late ∧ old.map (·.1) ≠ some .late
      evalReady c (if turnsLate then lateHold c s2 else s2)

/-- R37, R38: the member state and warm plates for a course are derived again, and given where they differ from those last
given. -/
def derive (c : CourseNo) (s : State) : State :=
  let now := s.report c
  if now = s.prog.given[c] then s else takeStanding c now (noteGiven c now s)

/-- The standing on every course is derived again, in ascending course number. -/
def deriveAll (s : State) : State := courseNos.foldl (fun s c => derive c s) s

/-! ### Records made (R86) -/

/-- R86: the RELEASED record with the earliest release order. -/
def earliestReleased (board : List CourseRec) : Option CourseRec :=
  [0, 1, 2, 3].findSome? fun n => board.find? fun r => r.state == .released && r.releaseOrder == some n

/-- R86: the board can take a new record. -/
def State.boardHasRoom (s : State) : Bool :=
  s.course.board.length < 4 || (earliestReleased s.course.board).isSome

/-- R86: a record is added, a RELEASED one making room on a full board. -/
def addRec (r : CourseRec) (s : State) : State :=
  if s.course.board.length < 4 then { s with course := { s.course with board := s.course.board ++ [r] } }
  else
    match earliestReleased s.course.board with
    | some x => { s with course := { s.course with board := withoutRec x s.course.board ++ [r] } }
    | none => s

/-- R86, R87: a record for a course is created, and the own entry inserted at once where the station has runs on it. -/
def createRec (r : CourseRec) (s : State) : State :=
  let s1 := addRec r s
  match s1.report r.course with
  | none => s1
  | some g => takeStanding r.course (some g) (noteGiven r.course (some g) s1)

/-- A record for a course stands, one being created where there is none and the board has room. -/
def ensureRec (c : CourseNo) (s : State) : State := if (s.recOf c).isSome then s else createRec (CourseRec.new c) s

/-- A record for the course stands or can be made (R86). -/
def State.canHaveRec (s : State) (c : CourseNo) : Bool := (s.recOf c).isSome || s.boardHasRoom

/-! ### Fire orders (R94) -/

/-- R94: a record in OPEN moves to FIRED and its ARMED runs are fired; with a hold remaining it is then HELD at once. DESIGN
CHOICE: the member state is derived once, after every run has entered its stage (assumption log 15). -/
def fireOrder (c : CourseNo) (s : State) : State :=
  match s.recOf c with
  | none => s
  | some r =>
    if r.state ≠ .opened then s
    else
      let s1 := fireRuns c (mapRec c (fun x => { x with state := .fired }) s)
      let s2 := if 0 < r.hold then enterHeld { r with state := .fired } s1 else s1
      evalReady c (derive c s2)

/-- R94: a local FIRE on a record that stands and is not RELEASED: the fire order with the readiness that follows from it, then
the COURSE notice with the fire flag set. DEDUCED: that order is assumption log 27. -/
def fireLocal (c : CourseNo) (s : State) : State := handCourse c false true (fireOrder c s)

/-- R94: a local FIRE, its course's record being made where there is none. -/
def fire (c : CourseNo) (s : State) : State := followDemand (fireLocal c (ensureRec c s))

/-- The record of a course is RELEASED. -/
def State.isReleased (s : State) (c : CourseNo) : Bool := (s.recOf c).map (·.state) == some .released

/-- R84: a firing schedule entry acts as a local FIRE, or is spent where FIRE would be refused. DEDUCED: where the link state bars
FIRE no count rises, whether or not the board has room (assumption log 32). -/
def fireScheduled (c : CourseNo) (s : State) : State :=
  if s.bus.link.bars || s.isReleased c then s
  else if s.canHaveRec c then fire c s
  else bump .boardMiss s

/-- The fire schedule's entries that a test picks out fire, in entry order (R84). -/
def fireEntries (due : SchedEntry → Bool) (s : State) : State :=
  (s.course.schedule.filter due).foldl (fun s e => fireScheduled e.course s)
    { s with course := { s.course with schedule := s.course.schedule.filter (!due ·) } }

/-! ### Members lost (R103) -/

/-- R103, for one record. -/
def loseMember (st : Station) (c : CourseNo) (s : State) : State :=
  match s.recOf c with
  | none => s
  | some r =>
    if (r.member st).isNone then s
    else
      let left := dropMember st r.members
      let s1 := mapRec c (fun x => { x with members := left }) s
      if r.state = .released then s1
      else
        evalReady c
          (makeReport (.memberLost st c)
            (raise
              { kind := .memberLost, course := c, zone := none, station := some st, value := BitVec.ofNat 16 left.length } s1))

/-- The courses on the board, in creation order. -/
def State.boardCourses (s : State) : List CourseNo := s.course.board.map (·.course)

/-- R103: a lost peer leaves every record that holds it, in order of creation. -/
def loseMembers (st : Station) (s : State) : State := s.boardCourses.foldl (fun s c => loseMember st c s) s

/-! ### The tick (R82) -/

/-- Step 2, for one record: hold remaining falls by 1; at 0 the origin clears and a HELD record leaves for FIRED (R95). -/
def tickHold (c : CourseNo) (s : State) : State :=
  match s.recOf c with
  | none => s
  | some r =>
    if r.state = .released ∨ r.hold = 0 then s
    else if r.hold = 1 then
      evalReady c
        (mapRec c
          (fun x => { x with hold := 0, origin := none, state := if x.state = .held then .fired else x.state }) s)
    else mapRec c (fun x => { x with hold := x.hold - 1 }) s

/-- Step 4, for one record: the renewal of the late hold (R97). -/
def tickLate (c : CourseNo) (s : State) : State :=
  match s.recOf c with
  | none => s
  | some r =>
    if r.state ≠ .released ∧ (r.member s.own).map (·.standing) = some .late ∧ r.hold ≤ s.course.lateQuanta * 2 then
      lateHold c s
    else s

/-- Step 5, for one record: the release age; at 300 the record is removed (R89). -/
def tickAge (c : CourseNo) (s : State) : State :=
  match s.recOf c with
  | none => s
  | some r =>
    if r.state ≠ .released then s
    else if 299 ≤ r.releaseAge then removeRec c s
    else mapRec c (fun x => { x with releaseAge := x.releaseAge + 1 }) s

/-- R102: the clearing list entries' times fall by 1; those that reach 0 leave and raise their calls, in order. -/
def tickClearing (s : State) : State :=
  (s.course.clearing.filter (·.remaining ≤ 1)).foldl (fun s e => raiseClearCall e s)
    { s with course := { s.course with
        clearing := (s.course.clearing.filter (1 < ·.remaining)).map fun e => { e with remaining := e.remaining - 1 } } }

/-- R91: the station is involved in the course of a record. -/
def State.involved (s : State) (r : CourseRec) : Bool :=
  r.state != .released && ((r.member s.own).isSome || s.isPass)

/-- Step 7, for one record: the COURSE repeat (R91). -/
def tickRepeat (c : CourseNo) (s : State) : State :=
  match s.recOf c with
  | none => s
  | some r =>
    if !s.involved r then s
    else if 3 ≤ r.repeatCount then handCourse c false false s
    else mapRec c (fun x => { x with repeatCount := x.repeatCount + 1 }) s

/-- One step of the tick over the records in creation order. -/
def overBoard (f : CourseNo → State → State) (s : State) : State := s.boardCourses.foldl (fun s c => f c s) s

/-- R81: the clock after a tick. -/
def nextSecond (clock : Nat) : Nat := (clock + 1) % 86400

/-- R81: the clock takes a value. -/
def setClockTo (t : Nat) (s : State) : State := { s with course := { s.course with clock := t } }

/-- R82. -/
def courseTick (s : State) : State :=
  let s := setClockTo (nextSecond s.course.clock) s
  let s := overBoard tickHold s
  let now := s.course.clock
  let s := fireEntries (·.time == now) s
  let s := overBoard tickLate s
  let s := overBoard tickAge s
  let s := tickClearing s
  overBoard tickRepeat s

/-- R105: what RESTART and entry to LEFT leave of the course block. -/
def Course.cleared (c : Course) : Course := { c with schedule := [], board := [], clearing := [] }

end Sys2Proof.Machine
end

