-- ==== Sys2Proof/Machine/Link.lean ====
section
/-! DEFINITION. The link state and its moves (R60–R64, R78–R80), with what each block does at a move; and the receiver's
repeat records (R76). -/

namespace Sys2Proof.Machine

/-- R48 and R55: the grant the link state gives at once; JOINED uses the grant computed at the last expiry. -/
def State.stateGrant (s : State) : Nat :=
  match s.bus.link with
  | .listen => min s.declaredF s.load.solo
  | .alone => if s.load.safe then min s.declaredF s.load.solo else min s.declaredQ s.load.solo
  | .joined => s.load.expiryGrant
  | .off | .monitor | .leaving | .left => 0

/-- The computed grant takes a value. -/
def setGrant (g : Nat) (s : State) : State := { s with load := { s.load with grant := g } }

/-- R55: at a change of link state the load block computes the state's grant and lowers the applied grant to it. -/
def regrant (s : State) : State := lowerGrant s.stateGrant (setGrant s.stateGrant s)

def setLink (l : LinkState) (s : State) : State := { s with bus := { s.bus with link := l } }

/-- R63: a change of link state is told at once to every block: the outputs (R20), the grant (R55), the conveyor (R115), and,
at a move from LISTEN to JOINED or ALONE, an active ware block's notice (R121). -/
def changeLink (l : LinkState) (s : State) : State :=
  let s1 := setLink l s
  let s2 := if l.heats then s1 else outputsOff s1
  let s3 := evalConveyor (regrant s2)
  if s.bus.link = .listen && l.sends && s3.wareActive then handWare s3 else s3

/-- R62: the listen interval has ended. -/
def endListen (s : State) : State :=
  if s.bus.link = .listen then changeLink (if s.load.peers.isEmpty then .alone else .joined) s else s

/-- R62: the peer table has become non-empty. -/
def tableFilled (s : State) : State := if s.bus.link = .alone then changeLink .joined s else s

/-- R62: the peer table has become empty. -/
def tableEmptied (s : State) : State := if s.bus.link = .joined then changeLink .alone s else s

/-! ### WITHDRAW and LEFT (R78, R79) -/

/-- Only the notice in transmission stays in the queue (R64, R78). -/
def Bus.clearWaiting (b : Bus) : Bus :=
  { b with queue := b.queue.filter (·.onLine), access := if b.access = .sending then .sending else .empty }

/-- R131: the events waiting and the evaluation in progress go without count. -/
def emptyRoute (s : State) : State := { s with route := { s.route with events := [], evaluation := none } }

/-- R78, with what the blocks do as the link enters LEAVING (R131, R154, R158). -/
def enterLeaving (s : State) : State :=
  let s1 := takeNotice .leave { s with bus := s.bus.clearWaiting }
  emptyRelay (withdrawPages (emptyRoute (changeLink .leaving s1)))

/-- R58: what RESTART and entry to LEFT leave of the load block besides its settings. -/
def Load.cleared (l : Load) : Load :=
  { l with peers := [], grant := 0, expiryGrant := 0, clash := false, clashHeard := false, mismatch := false,
           curtailCount := 0, curtailed := false }

/-- What RESTART and entry to LEFT have in common: the runs (R25), the plans and outputs (R21), the load, course and ware
blocks (R58, R105, R125), the grant handed as a decrease to 0 (R54). -/
def clearBlocks (s : State) : State :=
  let s1 := mapZones (fun _ zn => zn.leaves s.heat.step) (clearRuns s)
  applyGrant 0 { s1 with load := s1.load.cleared, course := s1.course.cleared, ware := s1.ware.cleared }

/-- R79, R80: entry to LEFT. The receiver goes off, and a notice still being taken is discarded (R75). -/
def enterLeft (s : State) : State :=
  let s1 := { s with bus := { s.bus with
    link := .left, queue := [], access := .empty, repeats := Vector.replicate 32 none,
    startMissed := s.bus.deafened.startMissed } }
  latch .withdrawDone
    (emptyRelay (emptyRoute { clearBlocks s1 with page := { s1.page with pages := [] } }))

/-! ### RESTART (R64, R173) -/

/-- R64: every waiting notice goes; one in transmission ends without report. A receiver that comes on (from LEFT) does not
sense the line idle until it has rested recessive for eight bit times (R59). -/
def Bus.restarted (b : Bus) : Bus :=
  { b.clearWaiting with
    link := .listen
    lineBusy := b.lineBusy || b.link == .left
    queue := b.clearWaiting.queue.map fun e => { e with orphan := true }
    repeats := Vector.replicate 32 none }

/-- R21: every zone is stale, and its over condition is tested again against the kept temperature. -/
def restartZones (s : State) : State := mapZones (fun _ zn => { zn with age := 6, isOver := zn.overTest }) s

/-- R184, R188: both banks EMPTY with the report number kept; every latched cause cleared. -/
def Port.restarted (p : Port) : Port :=
  { p with
    latched := 0
    mailbox := { p.mailbox with bank0 := Bank.reset, bank1 := Bank.reset, fullOrder := [] } }

/-- R64, R173: every block does what its chapter gives under RESTART. -/
def restartBlocks (s : State) : State :=
  let s1 := clearBlocks { s with bus := s.bus.restarted }
  let s2 := restartZones (emptyRelay (emptyRoute s1))
  { s2 with
    load := { s2.load with listenCount := 0 }
    page := { s2.page with pages := [] }
    port := s2.port.restarted }

/-! ### The end of a transmission (R72–R74, R79) -/

/-- A notice leaves the queue unsent, its owner told so (R70): LEAVE takes the station to LEFT, a PAGE loses its claim. -/
def dropEntry (e : TxEntry) (s : State) : State :=
  let s1 := { s with bus := { s.bus with queue := withoutId e.id s.bus.queue } }
  if e.orphan then seekLine s1
  else if e.body = .leave then enterLeft s1
  else seekLine (pageNotSent e.id s1)

/-! ### The receiver (R75–R77) -/

/-- R76: the recorded notice was accepted within the last second, as far as the commands show (assumption log 3). -/
def RepeatRec.recent (r : RepeatRec) : Bool := r.idleMs ≤ 1000 && r.halves ≤ 2 && r.ticks ≤ 1

/-- R76: the notice is a repeat. -/
def State.isRepeat (s : State) (n : Notice) : Bool :=
  match s.bus.repeats[n.sender] with
  | some r => r.seq == n.seq && r.check == n.check && r.recent
  | none => false

/-- R76: the notice replaces the record for its sender. -/
def recordNotice (n : Notice) (s : State) : State :=
  { s with bus := { s.bus with
      repeats := s.bus.repeats.set n.sender
        (some { seq := n.seq, check := n.check, idleMs := 0, halves := 0, ticks := 0 }) } }

/-- R75: the receiver takes the notice on the line: it is on, and was on as the start mark appeared. -/
def State.takes (s : State) : Bool := s.bus.link.hears && !s.bus.startMissed

/-- R75: the receiver accepts a notice that passes its checks: it takes it, and the station is not itself sending as the check
bytes pass. -/
def State.accepts (s : State) : Bool := s.takes && s.bus.access != .sending

/-- R75–R77: a notice that passes the checks; a repeat is discarded, any other accepted is recorded, counted and passed to the
blocks that take its kind. -/
def hearing (n : Notice) (act : State → State) (s : State) : State :=
  if !s.accepts || s.isRepeat n then s else act (bump .noticesHeard (recordNotice n s))

/-- Time passes for the repeat records. -/
def ageRepeats (f : RepeatRec → RepeatRec) (s : State) : State :=
  { s with bus := { s.bus with repeats := Vector.ofFn fun st => s.bus.repeats[st].map f } }

/-- Half a second passes: a step boundary. -/
def RepeatRec.half (r : RepeatRec) : RepeatRec := { r with halves := min 3 (r.halves + 1) }

/-- A second passes: a tick. -/
def RepeatRec.tick (r : RepeatRec) : RepeatRec := { r with ticks := min 2 (r.ticks + 1) }

/-- A millisecond passes with no command. -/
def RepeatRec.milli (r : RepeatRec) : RepeatRec := { r with idleMs := min 1001 (r.idleMs + 1) }

/-- R74: the access machine is in a state in which the head's wait time grows. -/
def Access.waits : Access → Bool
  | .gap | .deferred | .backoff => true
  | .empty | .sending => false

/-- R74: the notice whose wait time grows: the head, while the access machine waits. -/
def Bus.waiter (b : Bus) : Option TxEntry := if b.access.waits then headOf b.queue else none

/-- R74: a millisecond of waiting. The wait time of the head grows by 1, and at 500 the notice is removed, its owner told so
and DEFER_DROP raised. -/
def waitMilli (s : State) : State :=
  match s.bus.waiter with
  | none => s
  | some h =>
    if 499 ≤ h.waitMs then dropEntry h (bump .deferDrop s)
    else
      { s with bus := { s.bus with
          queue := s.bus.queue.map fun e => if e.id = h.id then { e with waitMs := e.waitMs + 1 } else e } }

/-- The block with no command waiting: a millisecond passes (assumption log 2). -/
def idleStep (s : State) : State := if s.inReset then s else waitMilli (ageRepeats RepeatRec.milli s)

end Sys2Proof.Machine
end

