-- ==== Sys2Proof/Machine/HeatEvents.lean ====
section
/-! DEFINITION. The meanings of the 0.5 s time base and of what a step or a tick brings to one zone (R5, R14–R16, R30, R32,
R33). A row that names one moment inside a step boundary or a tick acts when its zone stands one count short of that moment,
and changes nothing otherwise (assumption log 7). -/

namespace Sys2Proof.Machine

/-! ### Sample ages (R5) -/

/-- R5: a zone's age rises by 1 and stops at 6. -/
def Zone.aged (zn : Zone) : Zone := { zn with age := min 6 (zn.age + 1) }

/-- R5, R16: a zone that becomes stale leaves the window. -/
def ageZone (z : ZoneNo) (s : State) : State :=
  let old := s.heat.zones[z]
  mapZone z (fun _ => if old.aged.stale ∧ !old.stale then old.aged.leaves s.heat.step else old.aged) s

/-- R5, R7: every zone ages, and the active runs of stale zones fault, in ascending zone number. -/
def ageZones (s : State) : State :=
  zoneNos.foldl (fun s z => faultCheck z s) (zoneNos.foldl (fun s z => ageZone z s) s)

/-- What a change of zones or runs brings to the other blocks: the station's standing on its courses (R37), the applied grant
(R55) and the conveyor (R115). -/
def zonesChanged (s : State) : State := evalConveyor (followDemand (deriveAll s))

/-! ### Step boundaries (R14–R16) -/

/-- R14: the next step begins. -/
def nextStep (s : State) : State := { s with heat := { s.heat with step := (s.heat.step + 1) % 20 } }

/-- R14–R16: a step boundary: the step begins, the ages rise, a window start allots, and the outputs are set. -/
def stepBoundary (s : State) : State :=
  let s1 := ageZones (nextStep (ageRepeats RepeatRec.half s))
  let s2 := followDemand s1
  zonesChanged (setOutputs (if s2.heat.step = 0 then windowStart s2 else s2))

/-- STEP_BOUNDARY (R16). -/
def execStepBoundary (s : State) : Answer := unlessReset s stepBoundary

/-- WINDOW_START (R15): the step boundary that follows step 19. -/
def execWindowStart (s : State) : Answer := unlessReset s fun s => if s.heat.step = 19 then stepBoundary s else s

/-- SAMPLE_STALE (R5): a zone whose age stands at 5 reaches 6. -/
def execSampleStale (z : ZoneNo) (s : State) : Answer :=
  unlessReset s fun s => if s.heat.zones[z].age = 5 then zonesChanged (faultCheck z (ageZone z s)) else s

/-! ### One run's tick (R30, R32, R33) -/

/-- A run takes its tick, and the other blocks take the change. -/
def runTick (z : ZoneNo) (s : State) : State := followDemand (deriveAll (tickRun z s))

/-- TIMED_STAGE_END (R30): the tick that brings a TIMED stage to its duration. -/
def execTimedStageEnd (z : ZoneNo) (s : State) : Answer :=
  unlessReset s fun s => if s.prog.runs[z].timedEnds then runTick z s else s

/-- ZONE_LATE (R32): the tick that brings a HEAT stage above the heat limit. -/
def execZoneLate (z : ZoneNo) (s : State) : Answer :=
  unlessReset s fun s => if s.prog.runs[z].becomesLate then runTick z s else s

/-- HOLD_OVER (R33): the tick that brings the hold elapsed above the hold limit. -/
def execHoldOver (z : ZoneNo) (s : State) : Answer :=
  unlessReset s fun s => if s.prog.runs[z].becomesHoldOver then runTick z s else s

end Sys2Proof.Machine
end

