-- ==== Sys2Proof/Machine/Operands.lean ====
section
/-! DEFINITION. The parameters of command frames: their bytes as values (R189, R190), their clamps (R1, R4, R23, R39,
R106, R172) and the lengths of frames whose length depends on their own fields (R4, R23). -/

namespace Sys2Proof.Machine

/-- Parameter byte `i`. -/
def byteAt (p : List Byte) (i : Nat) : Nat := (p.getD i 0).toNat

/-- Two parameter bytes as an unsigned number. -/
def wordAt (p : List Byte) (i : Nat) : Nat := (join16 (p.getD i 0) (p.getD (i + 1) 0)).toNat

/-- Two parameter bytes as a signed number. -/
def signedAt (p : List Byte) (i : Nat) : Int := (join16 (p.getD i 0) (p.getD (i + 1) 0)).toInt

/-- Three parameter bytes as an unsigned number. -/
def tripleAt (p : List Byte) (i : Nat) : Nat := byteAt p i * 65536 + wordAt p (i + 1)

/-- A flag parameter: 0 is clear. DEDUCED: any other value is set (assumption log 6). -/
def flagAt (p : List Byte) (i : Nat) : Bool := byteAt p i != 0

/-- A value clamped to the nearest limit of its range. -/
def clamp (lo hi n : Nat) : Nat := max lo (min hi n)

/-- A temperature clamped to −40 to +400 °C. -/
def clampTemp (t : Int) : Int := max (-40) (min 400 t)

/-- A course number 1 to 15. -/
def courseOf (n : Nat) : Option CourseNo := if 1 ≤ n ∧ n ≤ 15 then some (Fin.ofNat 16 n) else none

/-- A course parameter. -/
def courseAt (p : List Byte) (i : Nat) : Option CourseNo := courseOf (byteAt p i)

/-- A group number 0 to 31. -/
def groupOf (n : Nat) : Option GroupNo := if n ≤ 31 then some (Fin.ofNat 32 n) else none

/-- The zones a mask selects, ascending: bit n selects zone n (R190). -/
def maskZones (m : Byte) : List ZoneNo := zoneNos.filter fun z => m.getLsbD z

/-- The zones of the mask parameter at byte 0. -/
def zonesAt (p : List Byte) : List ZoneNo := maskZones (p.getD 0 0)

/-! ### CONFIGURE (R39, R106, R172) -/

/-- The load settings of a CONFIGURE, clamped in the order of R39, each range by the clamped values before it. -/
def Load.configured (l : Load) (p : List Byte) : Load :=
  let limit := clamp 10 6000 (wordAt p 0)
  let reserve := clamp 0 (limit / 4) (wordAt p 2)
  { l with
    limit := limit
    reserve := reserve
    weight := clamp 1 15 (byteAt p 4)
    ramp := clamp 1 255 (byteAt p 5)
    solo := clamp 0 (limit - reserve) (wordAt p 6)
    safe := byteAt p 8 != 0 }

/-- The late quanta of a CONFIGURE (R172). -/
def lateQuantaOf (p : List Byte) : Nat := clamp 1 255 (byteAt p 9)

/-- A zone parameter clamped to 0 to 7 (R106). -/
def zoneClamped (n : Nat) : ZoneNo := Fin.ofNat 8 (clamp 0 7 n)

/-- The ware settings of a CONFIGURE (R106). DESIGN CHOICE: the one-byte sanitize minimum and wash minimum are read unsigned, so
a byte of 128 to 255 clamps to the upper limit (assumption log 38). -/
def Ware.configured (w : Ware) (p : List Byte) : Ware :=
  let high := clamp 1 999 (wordAt p 16)
  let low := clamp 0 998 (wordAt p 18)
  { w with
    washZone := zoneClamped (byteAt p 10)
    rinseZone := zoneClamped (byteAt p 11)
    sanMin := clamp 70 95 (byteAt p 12)
    washMin := clamp 55 80 (byteAt p 13)
    maxDwell := clamp 60 900 (wordAt p 14)
    high := high
    low := if high ≤ low then high - 1 else low }

/-! ### SAMPLE (R4) -/

/-- The readings of a SAMPLE for the zones given, from the bytes after the mask: for each zone a temperature and, where
its probe is fitted, a probe temperature, each clamped. `none` where the bytes do not fit exactly. -/
def readings (fitted : ZoneNo → Bool) : List ZoneNo → List Byte → Option (List (ZoneNo × Int × Option Int))
  | [], [] => some []
  | [], _ :: _ => none
  | z :: zs, p =>
    if fitted z then
      match p with
      | a :: b :: c :: d :: rest =>
        (readings fitted zs rest).map
          ((z, clampTemp (join16 a b).toInt, some (clampTemp (join16 c d).toInt)) :: ·)
      | _ => none
    else
      match p with
      | a :: b :: rest => (readings fitted zs rest).map ((z, clampTemp (join16 a b).toInt, none) :: ·)
      | _ => none

/-! ### PROGRAM WRITE (R23) -/

/-- The stage records of a PROGRAM WRITE: kind code, setpoint, parameter. -/
def stagesFrom : List Byte → List (Byte × Half × Half)
  | k :: s1 :: s0 :: p1 :: p0 :: rest => (k, join16 s1 s0, join16 p1 p0) :: stagesFrom rest
  | _ => []

/-- A stage as written, clamped; `none` for a kind that is none of the four. -/
def stageOf (x : Byte × Half × Half) : Option Stage :=
  (StageKind.ofCode x.1.toNat).map fun k =>
    { kind := k
      setpoint := clampTemp x.2.1.toInt
      param :=
        match k with
        | .timed => clamp 1 7200 x.2.2.toNat
        | .probe => clampTemp x.2.2.toInt
        | .heat | .hold => 0 }

/-- R22: the last stage is HOLD and no other is. -/
def validStages : List Stage → Bool
  | [] => false
  | [st] => st.kind == .hold
  | st :: rest => st.kind != .hold && validStages rest

/-- The exact length of a PROGRAM WRITE: 7 parameter bytes and 5 per stage (R190). -/
def programLengthOk (p : List Byte) : Bool := p.length == 7 + 5 * byteAt p 1

/-! ### RULE WRITE (R132) -/

/-- The fields a rule's type does not use are held as 0 or clear; the priority of an ACCEPT is clamped to 1 to 7. -/
def Rule.normal (r : Rule) : Rule :=
  match r.type with
  | .empty | .closes => { Rule.blank with type := r.type }
  | .setMask => { Rule.blank with type := .setMask, value := r.value }
  | .opens => { Rule.blank with type := .opens, property := r.property, compare := r.compare, value := r.value }
  | .test =>
    if r.reject then { r with group := 0, priority := 0, defer := false }
    else { r with priority := clamp 1 7 r.priority }

/-- The rule a RULE WRITE carries after its index; `none` where R132 refuses it. -/
def ruleFrom (p : List Byte) : Option Rule :=
  match RuleType.ofCode (byteAt p 1), Property.ofCode (byteAt p 2), Compare.ofCode (byteAt p 3) with
  | some t, some pr, some cmp =>
    let flags := p.getD 6 0
    let action := byteAt p 7
    let group := byteAt p 8
    if 1 < action then none
    else if t = .test ∧ action = 0 ∧ 31 < group then none
    else
      some <| Rule.normal
        { type := t, property := pr, compare := cmp, value := join16 (p.getD 4 0) (p.getD 5 0),
          andFlag := flags.getLsbD 0, reject := action == 1, group := Fin.ofNat 32 group,
          priority := byteAt p 9, defer := flags.getLsbD 1 }
  | _, _, _ => none

end Sys2Proof.Machine
end

