-- ==== Sys2Proof/Machine/Reads.lean ====
section
/-! DEFINITION. The data of the read commands: the fields the owning rules list, in their order (R3, R24, R53, R104, R124,
R132, R155, R165, R168, R182, R186), in the widths and with the list counts of R190; and the choice of a mailbox bank
(R177). How the lists and widths of R190 are read: assumption log 17. -/

namespace Sys2Proof.Machine

/-- A list as read: its one-byte count, then its entries (R190). -/
def listBytes {α : Type} (f : α → List Byte) (l : List α) : List Byte := u8 l.length :: l.flatMap f

/-- Each entry of a list in creation order with its place. -/
def placed {α : Type} (l : List α) : List (α × Nat) := l.zipIdx

/-! ### ZONE READ (R3) -/

/-- The record of a zone whose run stands as given, in the step given. -/
def Zone.record (zn : Zone) (r : Run) (step : Nat) : List Byte :=
  [u8 zn.rating, u8 zn.band] ++ i16 zn.limit ++ [u8 zn.floor, flagByte zn.probeFitted] ++ tempBytes zn.temp ++
    tempBytes zn.probe ++
    [u8 zn.age, flagByte zn.stale, flagByte zn.isOver, u8 (zn.demand r), u8 (zn.base r), u8 zn.allot,
      u8 zn.plan.length, u8 (zn.plan.filter (· ≤ step)).length]

/-- R3. -/
def State.zoneData (s : State) (zones : List ZoneNo) : List Byte :=
  listBytes (fun z => s.heat.zones[z].record s.prog.runs[z] s.heat.step) zones

/-! ### PROGRAM READ and RULE READ (R22, R24, R132) -/

def Stage.bytes (st : Stage) : List Byte := u8 st.kind.code :: i16 st.setpoint ++ i16 st.param

/-- R24: the contents in the order of R22; an empty entry returns a stage count of 0 alone. -/
def programData : Option Program → List Byte
  | none => [0]
  | some p => listBytes Stage.bytes p.stages ++ u16 p.heatLimit ++ u16 p.holdLimit ++ [flagByte p.plate]

/-- R132: a rule's fields in the order in which R132 lists them. -/
def ruleData (r : Rule) : List Byte :=
  [u8 r.type.code, u8 r.property.code, u8 r.compare.code] ++ bytes16 r.value ++
    [flagByte r.andFlag, flagByte r.reject, u8 r.group, u8 r.priority, flagByte r.defer]

/-! ### READ STATUS (R168) -/

/-- The configuration, in the order of CONFIGURE (R172); its two temperatures take 2 bytes, as every temperature of read data
(R190). -/
def State.configData (s : State) : List Byte :=
  u16 s.load.limit ++ u16 s.load.reserve ++ [u8 s.load.weight, u8 s.load.ramp] ++ u16 s.load.solo ++
    [flagByte s.load.safe, u8 s.course.lateQuanta, u8 s.ware.washZone, u8 s.ware.rinseZone] ++ i16 s.ware.sanMin ++
    i16 s.ware.washMin ++ u16 s.ware.maxDwell ++ u16 s.ware.high ++ u16 s.ware.low

/-- A rack record (R108). -/
def Rack.bytes (r : Rack) : List Byte :=
  u16 r.seq ++ u24 r.entry ++ [flagByte r.rinsed] ++ u16 r.running ++ tempBytes r.temp ++
    [match r.result with
      | some .clean => 0
      | some .rewash => 1
      | none => Config.absentByte .rackResult]

/-- A wash view entry (R122). -/
def WashEntry.bytes (e : WashEntry) : List Byte := u8 e.station :: u16 e.backlog ++ [u8 e.conveyor.code, u8 e.age]

/-- R124: the ware summary. -/
def State.wareSummary (s : State) : List Byte :=
  [u8 s.ware.conveyor.code,
    match s.ware.subCause with
    | some c => u8 c.code
    | none => Config.absentByte .faultSubCause,
    flagByte s.ware.margin, flagByte s.ware.heldLow, flagByte s.ware.enable] ++
    u16 s.ware.waiting ++ u16 s.backlog ++ [flagByte s.ware.levelHigh, flagByte s.backlogHigh] ++
    listBytes Rack.bytes s.ware.racks ++ listBytes WashEntry.bytes s.ware.wash

/-- A page record with its place in creation order (R142, R155). -/
def pageBytes (x : Page × Nat) : List Byte :=
  [u8 x.1.number, u8 x.1.attempt, u8 x.1.group, u8 x.1.priority, u8 x.1.code, u8 x.1.course, flagByte x.1.defer,
    flagByte x.1.expiredOrigin, u8 x.1.state.code, u8 x.1.timer, u8 x.2, flagByte x.1.current.isSome]

/-- R155: the page summary. -/
def PageBlock.summary (b : PageBlock) : List Byte :=
  listBytes (fun g => [u8 g.escalation, flagByte g.onDuty]) b.groups.toList ++
    u8 b.next :: listBytes pageBytes (placed b.pages)

/-- A transmission key; an absent origin reads 255 (R190). -/
def keyBytes : Option RelayKey → List Byte
  | some k => [u8 k.origin, u8 k.number, u8 k.attempt]
  | none => [255, Config.absentByte .keyPage, Config.absentByte .keyAttempt]

/-- A relay record with its arrival order (R158). -/
def relayBytes (r : RelayRec) (arrival : Nat) : List Byte :=
  [u8 r.key.origin, u8 r.key.number, u8 r.key.attempt, u8 r.group, u8 r.priority, u8 r.code, u8 r.course,
    flagByte r.inFlight, u8 arrival]

/-- R165: the relay summary, the records in list order. -/
def Relay.summary (r : Relay) : List Byte :=
  listBytes (fun p => [p.base.setWidth 8, p.mask.setWidth 8, flagByte p.valid]) r.pairs.toList ++
    u8 r.exchange.code :: keyBytes r.key ++ listBytes (fun x => relayBytes x (r.list.idxOf x)) r.ordered

/-- R168. -/
def State.statusData (s : State) : List Byte :=
  [u8 s.own, flagByte s.isPass, flagByte s.isRadio, flagByte s.isConveyor] ++ s.configData ++ s.wareSummary ++
    s.page.summary ++ s.relay.summary

/-! ### READ BOARD (R104) -/

def SchedEntry.bytes (e : SchedEntry) : List Byte := u8 e.course :: u24 e.time

def Member.bytes (m : Member) : List Byte := [u8 m.station, u8 m.standing.code] ++ u16 m.warm ++ [flagByte m.fireSeen]

/-- A course record with its place in creation order, and its member entries (R85). -/
def recBytes (x : CourseRec × Nat) : List Byte :=
  [u8 x.1.course, u8 x.1.state.code] ++ u16 x.1.plates ++ [flagByte x.1.auto, u8 x.1.clearDelay] ++ u16 x.1.hold ++
    [stationByte x.1.origin] ++ timeBytes x.1.releaseTime ++ u16 x.1.releaseAge ++
    [flagByte x.1.readyRaised, u8 x.1.repeatCount, u8 x.2,
      match x.1.releaseOrder with
      | some n => u8 n
      | none => Config.absentByte .releaseOrder] ++
    listBytes Member.bytes x.1.members

/-- A zone run record (R25). -/
def Run.bytes (r : Run) : List Byte :=
  [u8 r.state.code,
    match r.program with
    | some n => u8 n
    | none => Config.absentByte .runProgram,
    u8 r.course, u8 r.stage] ++
    u16 r.elapsed ++ [flagByte r.late] ++ u16 r.holdElapsed ++ [flagByte r.holdOver]

/-- R104. -/
def State.boardData (s : State) : List Byte :=
  u24 s.course.clock ++ listBytes SchedEntry.bytes s.course.schedule ++ listBytes recBytes (placed s.course.board) ++
    listBytes Run.bytes s.prog.runs.toList

/-! ### READ PEERS (R53) -/

def Peer.bytes (p : Peer) : List Byte :=
  u8 p.station :: u16 p.q ++ u16 p.f ++ [u8 p.w] ++ u16 p.d ++ u16 p.l ++ [u8 p.missed] ++ u16 p.grant

/-- R53: the own line and the entries' lines. -/
def State.peerData (s : State) : List Byte :=
  [u8 s.own, u8 s.bus.link.code] ++ u16 s.load.usable ++ u16 s.declaredQ ++ u16 s.declaredF ++ u16 s.heat.draw ++
    [u8 s.load.weight] ++ u16 s.load.grant ++ u16 s.load.applied ++ listBytes Peer.bytes s.load.peers

/-! ### READ ALERT and READ COUNTERS (R182, R186) -/

/-- R182. -/
def State.alertData (s : State) : List Byte :=
  (match s.topCause with
    | some c => [u8 c.level, u8 c.number]
    | none => [Config.absentByte .topLevel, Config.absentByte .topCause]) ++
    bytes16 s.pendingFlags ++ bytes16 s.port.mask

/-- R186, R190: each counter's value and its carry flag, in counter order. -/
def countersData (cs : Vector Counter 14) : List Byte := cs.toList.flatMap fun c => bytes16 c.value ++ [flagByte c.carry]

/-! ### READ REPORTS (R177) -/

/-- R177: a READ REPORTS leaves the mailbox with its bank READ; the answer names the bank returned. -/
def Mailbox.taken (m : Mailbox) : Option (Fin 2) × Mailbox :=
  match m.find .read with
  | some i => (some i, m)
  | none =>
    match m.fullOrder with
    | i :: rest => (some i, { m.setBank i { m.bank i with state := .read } with fullOrder := rest })
    | [] =>
      match m.find .filling with
      | some i =>
        if (m.bank i).reports.isEmpty then (none, m)
        else (some i, (m.setBank i { m.bank i with state := .read }).setBank (1 - i) (m.bank (1 - i)).opened)
      | none => (none, m)

/-- R177: the reports a READ REPORTS returns. -/
def Mailbox.returned (m : Mailbox) : List Report :=
  match m.taken.1 with
  | some i => (m.bank i).reports
  | none => []

/-- R178: the READ bank becomes EMPTY. -/
def Mailbox.freed (m : Mailbox) : Option Mailbox := (m.find .read).map fun i => m.setBank i Bank.reset

end Sys2Proof.Machine
end

