-- ==== Sys2Proof/Machine/HostCourses.lean ====
section
/-! DEFINITION. The meanings of the course commands (R83, R88, R89, R94, R96, R99, R104). -/

namespace Sys2Proof.Machine

/-! ### FIRE and SCHEDULE (R94, R83) -/

/-- FIRE (R94). -/
def execFire (p : List Byte) (s : State) : Answer :=
  unlessReset s
    (writeFrame (p.length == 1) false fun s =>
      match courseAt p 0 with
      | none => (s, .invalid)
      | some c =>
        if s.bus.link.bars || s.isReleased c then (s, .refusedState)
        else if !s.canHaveRec c then (s, .boardFull)
        else (fire c s, .ok))

/-- R83: an entry is appended to the fire schedule. -/
def appendEntry (c : CourseNo) (t : Nat) (s : State) : State :=
  { s with course := { s.course with schedule := s.course.schedule ++ [{ course := c, time := t }] } }

/-- SCHEDULE (R83). -/
def execSchedule (p : List Byte) (s : State) : Answer :=
  unlessReset s
    (writeFrame (p.length == 4) false fun s =>
      match courseAt p 0 with
      | none => (s, .invalid)
      | some c =>
        if 86399 < tripleAt p 1 then (s, .invalid)
        else if s.bus.link.bars then (s, .refusedState)
        else if 8 ≤ s.course.schedule.length then (s, .full)
        else (appendEntry c (tripleAt p 1) s, .ok))

/-! ### OPEN COURSE (R88) -/

/-- R88: a record takes the three values of an OPEN COURSE, clamped. -/
def CourseRec.withOpening (r : CourseRec) (p : List Byte) : CourseRec :=
  { r with plates := min 4000 (wordAt p 1), auto := flagAt p 3, clearDelay := min 60 (byteAt p 4) }

/-- R88, R100: a READY record whose auto-release flag is set is released at once. -/
def releaseIfAuto (c : CourseNo) (s : State) : State :=
  match s.recOf c with
  | some r => if r.state = .ready ∧ r.auto then releaseCourse c s.own true s else s
  | none => s

/-- R88: the settings are written or a record is made with them; the notice, the readiness and the release follow. DEDUCED: the
notice is handed whether or not a value changed (assumption log 33). -/
def openCourse (c : CourseNo) (p : List Byte) (s : State) : State :=
  let s1 :=
    if (s.recOf c).isSome then mapRec c (·.withOpening p) s else createRec ((CourseRec.new c).withOpening p) s
  releaseIfAuto c (evalReady c (handCourse c false false s1))

/-- OPEN COURSE (R88). -/
def execOpenCourse (p : List Byte) (s : State) : Answer :=
  unlessReset s
    (writeFrame (p.length == 5) false fun s =>
      if !s.isPass || s.bus.link.bars then (s, .refusedState)
      else
        match courseAt p 0 with
        | none => (s, .invalid)
        | some c =>
          if (s.recOf c).map (·.state) == some .released then (s, .refusedState)
          else if !s.canHaveRec c then (s, .boardFull)
          else (openCourse c p s, .ok))

/-! ### RELEASE, HOLD and CLOSE COURSE (R99, R96, R89) -/

/-- RELEASE (R99). -/
def execRelease (p : List Byte) (s : State) : Answer :=
  unlessReset s
    (writeFrame (p.length == 2) false fun s =>
      if !s.isPass || s.bus.link.bars then (s, .refusedState)
      else
        match courseAt p 0 with
        | none => (s, .invalid)
        | some c =>
          match s.recOf c with
          | none => (s, .refusedState)
          | some r =>
            if r.state = .released then (s, .refusedState)
            else if r.state = .ready || flagAt p 1 then (releaseCourse c s.own true s, .ok)
            else (s, .notReady))

/-- R96: the hold request on the own record, and its HOLD notice. -/
def holdCourse (c : CourseNo) (quanta : Nat) (s : State) : State := handHold c quanta (requestHold c quanta s.own s)

/-- HOLD (R96). -/
def execHold (p : List Byte) (s : State) : Answer :=
  unlessReset s
    (writeFrame (p.length == 3) false fun s =>
      match courseAt p 0 with
      | none => (s, .invalid)
      | some c =>
        if 255 < wordAt p 1 then (s, .invalid)
        else if s.bus.link.bars then (s, .refusedState)
        else
          match s.recOf c with
          | none => (s, .refusedState)
          | some r => if r.state = .released then (s, .refusedState) else (holdCourse c (wordAt p 1) s, .ok))

/-- CLOSE COURSE (R89). -/
def execCloseCourse (p : List Byte) (s : State) : Answer :=
  unlessReset s
    (writeFrame (p.length == 1) false fun s =>
      match courseAt p 0 with
      | none => (s, .invalid)
      | some c =>
        if (s.recOf c).map (·.state) == some .released then (removeRec c s, .ok) else (s, .refusedState))

/-- READ BOARD (R104). -/
def execReadBoard (p : List Byte) (s : State) : Answer :=
  unlessReset s (readFrame 17 0 p .ok s.boardData id)

end Sys2Proof.Machine
end

