-- ==== Sys2Proof/Machine/Routing.lean ====
section
/-! DEFINITION. The routing block's operations (chapter 7): taking an event, reading properties, masks, chains and clusters,
and the outcome of an evaluation. -/

namespace Sys2Proof.Machine

/-! ### Properties and comparison (R133) -/

/-- R133: what a property of the event under evaluation reads as. -/
def Evaluation.reads (e : Evaluation) : Property → Half
  | .kind => BitVec.ofNat 16 e.event.kind.code
  | .course => BitVec.ofNat 16 e.event.course
  | .zone =>
    match e.event.zone with
    | some z => BitVec.ofNat 16 z
    | none => 0xffff
  | .station =>
    match e.event.station with
    | some st => BitVec.ofNat 16 st
    | none => 0xffff
  | .value => e.event.value
  | .severity => BitVec.ofNat 16 e.event.kind.severity
  | .hour => BitVec.ofNat 16 e.hour
  | .backlog => if e.backlogHigh then 1 else 0

/-- R133: the comparison of unsigned numbers. -/
def Compare.holds (c : Compare) (x y : Half) : Bool :=
  match c with
  | .eq => x == y
  | .ne => x != y
  | .ge => y.toNat ≤ x.toNat
  | .lt => x.toNat < y.toNat

/-- R133: a rule's test of the event under a mask. -/
def Rule.passes (r : Rule) (e : Evaluation) (mask : Half) : Bool := r.compare.holds (e.reads r.property &&& mask) r.value

/-! ### Reading the table (R134–R136) -/

/-- What the reading is doing: reading rules, passing the rules left of a chain that has failed, or passing the rules of a
cluster whose test has failed. -/
inductive ReadMode where
  | reading | failed | skipping
  deriving DecidableEq, Repr

/-- Where a reading stands: the mask in force, the mask at the start of the chain that would come next (before its lead-in),
and the mask saved at the OPEN of the cluster being read or passed. -/
structure Reading where
  mask : Half
  start : Half
  saved : Option Half
  mode : ReadMode
  deriving DecidableEq, Repr

/-- R134: each evaluation starts with the mask at 65,535. -/
def Reading.begin : Reading := { mask := 0xffff, start := 0xffff, saved := none, mode := .reading }

/-- R136: the reading outside a cluster, with the mask saved at its OPEN returned. -/
def Reading.ended (st : Reading) : Reading :=
  let m := st.saved.getD st.mask
  { mask := m, start := m, saved := none, mode := .reading }

/-- R136: an OPEN rule is reached: a cluster being read ends first; the mask is saved and the test made under it. -/
def Reading.opened (st : Reading) (r : Rule) (e : Evaluation) : Reading :=
  let st := st.ended
  { st with saved := some st.mask, mode := if r.passes e st.mask then .reading else .skipping }

/-- R135: a chain has failed: the mask returns to its chain start. -/
def Reading.chainFailed (st : Reading) (more : Bool) : Reading :=
  { st with mask := st.start, mode := if more then .failed else .reading }

/-- R135: the chain goes on after a MATCH rule: its AND flag is set and the next rule is a MATCH rule. -/
def Rule.chainsTo (r : Rule) : List Rule → Bool
  | next :: _ => r.andFlag && next.type == .test
  | [] => false

/-- R134–R136: the rules, EMPTY ones left out, are read in order; the answer is the last rule of the first chain that
succeeds. -/
def readRules (e : Evaluation) : List Rule → Reading → Option Rule
  | [], _ => none
  | r :: rest, st =>
    match st.mode, r.type with
    | _, .opens => readRules e rest (st.opened r e)
    | _, .closes => readRules e rest st.ended
    | .skipping, _ => readRules e rest st
    | .failed, .test => readRules e rest (st.chainFailed (r.chainsTo rest))
    | .failed, _ => readRules e rest { st with mode := .reading }
    | .reading, .setMask => readRules e rest { st with mask := r.value }
    | .reading, .empty => readRules e rest st
    | .reading, .test =>
      if r.passes e st.mask then if r.chainsTo rest then readRules e rest st else some r
      else readRules e rest (st.chainFailed (r.chainsTo rest))

/-- The rule whose action decides the event, if any chain succeeds (R137). -/
def Evaluation.decided (e : Evaluation) : Option Rule :=
  readRules e (e.rules.toList.filter (·.type != .empty)) Reading.begin

/-! ### The outcome (R137, R138) -/

/-- R137: the page request of a rule that accepts. -/
def Evaluation.accepted (e : Evaluation) (r : Rule) : PageRequest :=
  { group := r.group, priority := r.priority, code := e.event.kind.code, course := e.event.course, defer := r.defer,
    expiredOrigin := e.event.kind == .pageExpired }

/-- R138: the page request of a critical event that no chain decides. -/
def Evaluation.fallback (e : Evaluation) : PageRequest :=
  { group := 0, priority := 7, code := e.event.kind.code, course := e.event.course, defer := false,
    expiredOrigin := false }

/-- The outcome of an evaluation: a page request, or `none` where the event is dropped. -/
def Evaluation.outcome (e : Evaluation) : Option PageRequest :=
  match e.decided with
  | some r => if r.reject then none else some (e.accepted r)
  | none => if e.event.kind.severity = 3 then some e.fallback else none

/-- R130: the oldest event is taken, the rule table, the hour and the backlog test being fixed for its evaluation. -/
def takeOldest (s : State) : State :=
  match s.route.evaluation, s.route.events with
  | none, e :: rest =>
    { s with route := { s.route with
        events := rest
        evaluation := some
          { event := e, rules := s.route.rules, hour := s.course.clock / 3600, backlogHigh := s.backlogHigh } } }
  | _, _ => s

/-- R137, R138: the evaluation in progress ends with its outcome. -/
def endEvaluation (s : State) : State :=
  match s.route.evaluation with
  | none => s
  | some e =>
    let s1 := { s with route := { s.route with evaluation := none } }
    match e.outcome with
    | some r => requestPage r s1
    | none => s1

end Sys2Proof.Machine
end

