-- ==== Sys2Proof/Machine/HostPaging.lean ====
section
/-! DEFINITION. The meanings of the commands of the rule table, the staff groups, the pages and the coverage pairs (R132,
R140, R141, R145, R157). -/

namespace Sys2Proof.Machine

/-! ### RULE WRITE and RULE READ (R132) -/

/-- Write one rule. -/
def setRule (i : Fin 32) (r : Rule) (s : State) : State :=
  { s with route := { s.route with rules := s.route.rules.set i r } }

/-- A rule index 0 to 31. -/
def indexAt (p : List Byte) (i : Nat) : Option (Fin 32) :=
  if byteAt p i ≤ 31 then some (Fin.ofNat 32 (byteAt p i)) else none

/-- RULE WRITE (R132). -/
def execRuleWrite (p : List Byte) (s : State) : Answer :=
  unlessReset s
    (writeFrame (p.length == 10) true fun s =>
      match indexAt p 0, ruleFrom p with
      | some i, some r => (setRule i r s, .ok)
      | _, _ => (s, .invalid))

/-- RULE READ (R132). -/
def execRuleRead (p : List Byte) (s : State) : Answer :=
  unlessReset s
    (match indexAt p 0 with
      | some i => readFrame 23 1 p .ok (ruleData s.route.rules[i]) id
      | none => readFrame 23 1 p .invalid [] id)

/-! ### GROUP WRITE and DUTY (R140, R141) -/

/-- R140: a group's entry is replaced; a changed duty flag moves its pages. -/
def writeGroup (g : GroupNo) (x : Group) (s : State) : State :=
  let s1 := setGroup g x s
  if x.onDuty = s.page.groups[g].onDuty then s1 else moveForDuty g s1

/-- GROUP WRITE (R140). -/
def execGroupWrite (p : List Byte) (s : State) : Answer :=
  unlessReset s
    (writeFrame (p.length == 3) true fun s =>
      match groupOf (byteAt p 0), groupOf (byteAt p 1) with
      | some g, some e => (writeGroup g { escalation := e, onDuty := flagAt p 2 } s, .ok)
      | _, _ => (s, .invalid))

/-- R141: a group's duty flag takes a value, and the group's pages move. -/
def setDuty (g : GroupNo) (on : Bool) (s : State) : State :=
  moveForDuty g (setGroup g { s.page.groups[g] with onDuty := on } s)

/-- DUTY (R141). -/
def execDuty (p : List Byte) (s : State) : Answer :=
  unlessReset s
    (writeFrame (p.length == 2) false fun s =>
      match groupOf (byteAt p 0) with
      | some g => (setDuty g (flagAt p 1) s, .ok)
      | none => (s, .invalid))

/-! ### PAGE (R145) -/

/-- R145: the page request of a PAGE command for a group. -/
def pageRequestOf (g : GroupNo) (p : List Byte) : PageRequest :=
  { group := g, priority := clamp 1 7 (byteAt p 1), code := byteAt p 2, course := Fin.ofNat 16 (byteAt p 3),
    defer := flagAt p 4, expiredOrigin := false }

/-- PAGE (R145). -/
def execPage (p : List Byte) (s : State) : Answer :=
  unlessReset s
    (writeFrame (p.length == 5) false fun s =>
      match groupOf (byteAt p 0) with
      | none => (s, .invalid)
      | some g =>
        if 15 < byteAt p 3 then (s, .invalid)
        else if !s.bus.link.takesEvents then (s, .refusedState)
        else (requestPage (pageRequestOf g p) s, if s.takesRequest (pageRequestOf g p) then .ok else .full))

/-! ### COVERAGE WRITE (R157) -/

/-- Write one coverage pair. -/
def setPair (i : Fin 4) (x : Pair) (s : State) : State :=
  { s with relay := { s.relay with pairs := s.relay.pairs.set i x } }

/-- COVERAGE WRITE (R157). -/
def execCoverageWrite (p : List Byte) (s : State) : Answer :=
  unlessReset s
    (writeFrame (p.length == 4) true fun s =>
      if 3 < byteAt p 0 || 31 < byteAt p 1 || 31 < byteAt p 2 then (s, .invalid)
      else
        (setPair (Fin.ofNat 4 (byteAt p 0))
          { base := BitVec.ofNat 5 (byteAt p 1), mask := BitVec.ofNat 5 (byteAt p 2), valid := flagAt p 3 } s, .ok))

end Sys2Proof.Machine
end

