-- ==== Sys2Proof/Machine/HostReports.lean ====
section
/-! DEFINITION. The meanings of the commands of the peer table, the report mailbox, the alert controller and the counters
(R53, R177, R178, R182, R183, R186). -/

namespace Sys2Proof.Machine

/-- READ PEERS (R53). -/
def execReadPeers (p : List Byte) (s : State) : Answer :=
  unlessReset s (readFrame 28 0 p .ok s.peerData id)

/-- The mailbox takes a value. -/
def setMailbox (m : Mailbox) (s : State) : State := { s with port := { s.port with mailbox := m } }

/-- READ REPORTS (R177). -/
def execReadReports (p : List Byte) (s : State) : Answer :=
  unlessReset s
    (readFrame 29 0 p .ok (listBytes Report.bytes s.port.mailbox.returned) (setMailbox s.port.mailbox.taken.2))

/-- FREE BANK (R178). -/
def execFreeBank (p : List Byte) (s : State) : Answer :=
  unlessReset s
    (writeFrame (p.length == 0) false fun s =>
      match s.port.mailbox.freed with
      | some m => (setMailbox m s, .ok)
      | none => (s, .refusedState))

/-- READ ALERT (R182). -/
def execReadAlert (p : List Byte) (s : State) : Answer :=
  unlessReset s (readFrame 31 0 p .ok s.alertData id)

/-- R183: the mask flags are replaced. -/
def setMask (m : Half) (s : State) : State := { s with port := { s.port with mask := m } }

/-- ALERT MASK (R183). -/
def execAlertMask (p : List Byte) (s : State) : Answer :=
  unlessReset s (writeFrame (p.length == 2) false fun s => (setMask (join16 (p.getD 0 0) (p.getD 1 0)) s, .ok))

/-- R183: the selected latched causes' pending flags are cleared; a condition cause follows its condition. -/
def clearLatched (select : Half) (s : State) : State :=
  { s with port := { s.port with latched := s.port.latched &&& ~~~(select &&& latchedCauses) } }

/-- CLEAR ALERT (R183). -/
def execClearAlert (p : List Byte) (s : State) : Answer :=
  unlessReset s (writeFrame (p.length == 2) false fun s => (clearLatched (join16 (p.getD 0 0) (p.getD 1 0)) s, .ok))

/-- R186: every counter and its carry flag are zeroed. -/
def zeroCounters (s : State) : State :=
  { s with port := { s.port with counters := Vector.replicate 14 { value := 0, carry := false } } }

/-- READ COUNTERS (R186). -/
def execReadCounters (p : List Byte) (s : State) : Answer :=
  unlessReset s
    (readFrame 34 1 p .ok (countersData s.port.counters) fun s => if flagAt p 0 then zeroCounters s else s)

end Sys2Proof.Machine
end

