-- ==== Sys2Proof/Machine/HostStation.lean ====
section
/-! DEFINITION. The meanings of reset, of the station's configuration and clock, of WITHDRAW and RESTART, and of UNKNOWN
(R64, R78, R81, R167, R168, R171–R173). -/

namespace Sys2Proof.Machine

/-! ### Reset (R173) -/

/-- The reset line holds: the outputs stand as R173 gives, and a frame in progress ends with no effect. -/
def execResetAsserted (s : State) : Answer :=
  .next { s with inReset := true, port := { s.port with dataOut := [] } }

/-- The straps are sampled and every block takes its reset values (R171, R173). The queue of waiting commands, the OE input and
the model's counter of random draws are no block's and stand; and so does a notice on the line, which is not taken (R75). -/
def execResetReleased (straps : Straps) (s : State) : Answer :=
  let r := State.resetWith straps s.oe
  .next { r with pending := s.pending, bus := { r.bus with draws := s.bus.draws, startMissed := s.bus.deafened.startMissed } }

/-! ### CONFIGURE (R172) -/

/-- R172: the station takes its settings and becomes configured. -/
def State.configuredBy (s : State) (p : List Byte) : State :=
  { s with
    load := { s.load.configured p with listenCount := 0 }
    course := { s.course with lateQuanta := lateQuantaOf p }
    ware := s.ware.configured p
    port := { s.port with configured := true } }

/-- R61: CONFIGURE moves OFF to LISTEN. The receiver comes on, and the line is sensed idle only once it has rested recessive
for eight bit times (R59). -/
def leaveOff (s : State) : State :=
  if s.bus.link = .off then changeLink .listen { s with bus := { s.bus with lineBusy := true } } else s

/-- R172. DEDUCED: the limit mismatch is not tested here, though a monitor station may already hold entries (R43; assumption log
34). -/
def configure (p : List Byte) (s : State) : State × Result :=
  if s.port.configured then (s, .locked) else (evalConveyor (leaveOff (s.configuredBy p)), .ok)

/-- CONFIGURE (R172). -/
def execConfigure (p : List Byte) (s : State) : Answer :=
  unlessReset s (writeFrame (p.length == 20) true (configure p))

/-- READ STATUS (R168). -/
def execReadStatus (p : List Byte) (s : State) : Answer :=
  unlessReset s (readFrame 2 0 p .ok s.statusData id)

/-! ### SET CLOCK (R81, R84) -/

/-- R81, R84: the clock takes a value; moved forward, it fires the schedule entries it crosses. -/
def setClock (t : Nat) (s : State) : State :=
  let old := s.course.clock
  fireEntries (fun e => old < e.time && e.time ≤ t) (setClockTo t s)

/-- SET CLOCK (R81). -/
def execSetClock (p : List Byte) (s : State) : Answer :=
  unlessReset s
    (writeFrame (p.length == 3) false fun s =>
      if 86399 < tripleAt p 0 then (s, .invalid) else (setClock (tripleAt p 0) s, .ok))

/-! ### WITHDRAW and RESTART (R78, R64) -/

/-- WITHDRAW (R78). -/
def execWithdraw (p : List Byte) (s : State) : Answer :=
  unlessReset s
    (writeFrame (p.length == 0) false fun s =>
      if s.bus.link.heats then (enterLeaving s, .ok) else (s, .refusedState))

/-- R64: the link states in which RESTART is taken. -/
def LinkState.restarts : LinkState → Bool
  | .listen | .joined | .alone | .left => true
  | _ => false

/-- RESTART (R64, R173). -/
def execRestart (p : List Byte) (s : State) : Answer :=
  unlessReset s
    (writeFrame (p.length == 0) false fun s =>
      if s.bus.link.restarts then (restartBlocks s, .ok) else (s, .refusedState))

/-! ### UNKNOWN (R167) -/

/-- A frame whose command code the part does not have (R167). A code of the list is not such a frame, and nothing comes of
it. -/
def execUnknown (code : Byte) (p : List Byte) (s : State) : Answer :=
  unlessReset s fun s =>
    if code.toNat == 0 || 36 < code.toNat then answerFrame s.statusByte (openOuts code p p.length) .unknown s else s

end Sys2Proof.Machine
end

