-- ==== Sys2Proof/Machine/HostWare.lean ====
section
/-! DEFINITION. The meanings of the ware commands (R107, R113, R119) and of the conveyor's sensors and the OE input (R20,
R109–R112, R115). -/

namespace Sys2Proof.Machine

/-! ### The host's commands -/

/-- R107: the host's controls are replaced; the conveyor and the backlog are evaluated again. -/
def setWare (enable : Bool) (waiting : Nat) (s : State) : State :=
  watchBacklog (fun s => evalLevel (evalConveyor (mapWare (fun w => { w with enable := enable, waiting := waiting }) s))) s

/-- WARE SET (R107). -/
def execWareSet (p : List Byte) (s : State) : Answer :=
  unlessReset s
    (writeFrame (p.length == 3) false fun s =>
      if !s.isConveyor || s.bus.link == .left then (s, .refusedState)
      else (setWare (flagAt p 0) (min 999 (wordAt p 1)) s, .ok))

/-- R119: the fault is cleared and the racks' running seconds return to 0. -/
def Ware.unfaulted (w : Ware) : Ware :=
  { w with subCause := none, racks := w.racks.map fun r => { r with running := 0 } }

/-- CONVEYOR RESET (R119). -/
def execConveyorReset (p : List Byte) (s : State) : Answer :=
  unlessReset s
    (writeFrame (p.length == 0) false fun s =>
      if !s.isConveyor || s.ware.conveyor != .fault then (s, .refusedState)
      else (driveConveyor (mapWare Ware.unfaulted s), .ok))

/-- SANITIZE ACK (R113). -/
def execSanitizeAck (p : List Byte) (s : State) : Answer :=
  unlessReset s
    (writeFrame (p.length == 0) false fun s =>
      if !s.isConveyor then (s, .refusedState)
      else (mapWare (fun w => { w with heldLow := false }) s, .ok))

/-! ### Inputs -/

/-- R20, R116: the OE input takes a level; low, every heater output goes off at once. -/
def setOe (high : Bool) (s : State) : State :=
  let s1 := { s with oe := high }
  evalConveyor (if high then s1 else outputsOff s1)

/-- A change of the OE interlock input (R20). The input is seen in reset too, when no block acts on it. -/
def execOeInterlockChange (high : Bool) (s : State) : Answer :=
  .next (if s.inReset then { s with oe := high } else setOe high s)

/-- An ENTRY sensor edge (R109). -/
def execEntryEdge (s : State) : Answer := unlessReset s fun s => if s.wareActive then takeEntry s else s

/-- A RINSE sensor edge (R110). -/
def execRinseEdge (s : State) : Answer := unlessReset s fun s => if s.wareActive then takeRinse s else s

/-- An EXIT sensor edge (R111, R112). -/
def execExitEdge (s : State) : Answer := unlessReset s fun s => if s.wareActive then takeExit s else s

end Sys2Proof.Machine
end

