-- ==== Sys2Proof/Machine/HostZones.lean ====
section
/-! DEFINITION. The meanings of the zone, program and run commands (R1–R4, R22–R24, R27, R35), and of a sample as every
block takes it. -/

namespace Sys2Proof.Machine

/-- Take the zones given one after another. -/
def overZones (zs : List ZoneNo) (f : ZoneNo → State → State) (s : State) : State := zs.foldl (fun s z => f z s) s

/-! ### ZONE SET (R1, R2) -/

/-- The five settings of a ZONE SET, clamped (R1). -/
structure ZoneSettings where
  rating : Nat
  band : Nat
  limit : Int
  floor : Nat
  probeFitted : Bool
  deriving DecidableEq, Repr

def zoneSettingsOf (p : List Byte) : ZoneSettings :=
  { rating := byteAt p 1
    band := clamp 1 100 (byteAt p 2)
    limit := clampTemp (signedAt p 3)
    floor := min (byteAt p 1) (byteAt p 5)
    probeFitted := flagAt p 6 }

/-- R1: a zone with new settings, its over condition tested again; a changed probe fitted setting discards the probe
temperature. -/
def Zone.withSettings (zn : Zone) (x : ZoneSettings) : Zone :=
  let zn1 : Zone :=
    { zn with
      rating := x.rating
      band := x.band
      limit := x.limit
      floor := x.floor
      probeFitted := x.probeFitted
      probe := if x.probeFitted = zn.probeFitted then zn.probe else none }
  { zn1 with isOver := zn1.overTest }

/-- R1, R2, R16: one zone takes new settings; a changed rating, or a zone that becomes over, leaves the window. -/
def setZone (x : ZoneSettings) (z : ZoneNo) (s : State) : State :=
  let old := s.heat.zones[z]
  let new := old.withSettings x
  mapZone z (fun _ => if x.rating ≠ old.rating ∨ (new.isOver ∧ !old.isOver) then new.leaves s.heat.step else new) s

/-- R1, R2, R7: the settings act on every selected zone at once. DESIGN CHOICE: the faults and events of several zones come in
ascending zone number, and the member states are derived once, at the end (assumption log 15). -/
def setZones (x : ZoneSettings) (zs : List ZoneNo) (s : State) : State :=
  followDemand (deriveAll (overZones zs faultCheck (overZones zs (setZone x) s)))

/-- ZONE SET (R1). -/
def execZoneSet (p : List Byte) (s : State) : Answer :=
  unlessReset s
    (writeFrame (p.length == 7) true fun s =>
      let zs := zonesAt p
      if zs.isEmpty then (s, .invalid)
      else if byteAt p 1 == 0 && zs.any (fun z => s.prog.runs[z].state.live) then (s, .refusedState)
      else (setZones (zoneSettingsOf p) zs s, .ok))

/-- ZONE READ (R3). -/
def execZoneRead (p : List Byte) (s : State) : Answer :=
  unlessReset s (readFrame 5 1 p .ok (s.zoneData (zonesAt p)) id)

/-! ### SAMPLE (R4–R6, R30) -/

/-- R4–R6: a zone takes a sample. -/
def Zone.sampled (zn : Zone) (temp : Int) (probe : Option Int) : Zone :=
  let zn1 : Zone := { zn with temp := some temp, probe := if probe.isSome then probe else zn.probe, age := 0 }
  { zn1 with isOver := zn1.overTest }

/-- R4, R16: one zone takes its reading; a zone that becomes over leaves the window. -/
def storeSample (x : ZoneNo × Int × Option Int) (s : State) : State :=
  let old := s.heat.zones[x.1]
  let new := old.sampled x.2.1 x.2.2
  mapZone x.1 (fun _ => if new.isOver ∧ !old.isOver then new.leaves s.heat.step else new) s

/-- What a sample does to a zone's run: over, the run faults (R7); otherwise its HEAT or PROBE stage is tested (R30). -/
def sampleRun (z : ZoneNo) (s : State) : State := sampleStage z (faultCheck z s)

/-- R4: the readings act on every selected zone at once, and every block takes the change (R30, R37, R55, R115). -/
def takeSamples (xs : List (ZoneNo × Int × Option Int)) (s : State) : State :=
  let s1 := xs.foldl (fun s x => storeSample x s) s
  evalConveyor (followDemand (deriveAll (overZones (xs.map (·.1)) sampleRun s1)))

/-- The readings of a SAMPLE at the station, by its probe fitted settings; `none` for a frame of the wrong length. -/
def State.readingsOf (s : State) : List Byte → Option (List (ZoneNo × Int × Option Int))
  | [] => none
  | m :: rest => readings (fun z => s.heat.zones[z].probeFitted) (maskZones m) rest

/-- SAMPLE (R4). -/
def execSample (p : List Byte) (s : State) : Answer :=
  unlessReset s
    (writeFrame (s.readingsOf p).isSome false fun s =>
      match s.readingsOf p with
      | some (x :: xs) => (takeSamples (x :: xs) s, .ok)
      | _ => (s, .invalid))

/-! ### PROGRAM WRITE and PROGRAM READ (R23, R24) -/

/-- The program a PROGRAM WRITE carries, clamped; `none` where a check of R23 on its stages fails. -/
def programOf (p : List Byte) : Option Program :=
  match (stagesFrom (p.drop 7)).mapM stageOf with
  | some stages =>
    if stages.length ≤ 8 && validStages stages then
      some
        { stages := stages, heatLimit := clamp 30 3600 (wordAt p 2), holdLimit := clamp 60 3600 (wordAt p 4),
          plate := flagAt p 6 }
    else none
  | none => none

/-- R23, check 3: a run in ARMED, HEATING, COOKING or HOLDING names the entry. -/
def State.entryInUse (s : State) (n : Fin 16) : Bool :=
  s.prog.runs.toList.any fun r => r.state.live && r.program == some n

/-- Write one entry of the program table. -/
def setEntry (n : Fin 16) (x : Option Program) (s : State) : State :=
  { s with prog := { s.prog with table := s.prog.table.set n x } }

/-- A program number 0 to 15. -/
def entryAt (p : List Byte) (i : Nat) : Option (Fin 16) :=
  if byteAt p i ≤ 15 then some (Fin.ofNat 16 (byteAt p i)) else none

/-- R23: the checks in order, then the write. -/
def writeProgram (p : List Byte) (s : State) : State × Result :=
  match entryAt p 0, byteAt p 1 == 0, programOf p with
  | none, _, _ => (s, .invalid)
  | some n, true, _ => if s.entryInUse n then (s, .inUse) else (setEntry n none s, .ok)
  | some _, false, none => (s, .invalid)
  | some n, false, some x => if s.entryInUse n then (s, .inUse) else (setEntry n (some x) s, .ok)

/-- PROGRAM WRITE (R23). -/
def execProgramWrite (p : List Byte) (s : State) : Answer :=
  unlessReset s (writeFrame (programLengthOk p) true (writeProgram p))

/-- PROGRAM READ (R24). -/
def execProgramRead (p : List Byte) (s : State) : Answer :=
  unlessReset s
    (match entryAt p 0 with
      | some n => readFrame 8 1 p .ok (programData s.prog.table[n]) id
      | none => readFrame 8 1 p .invalid [] id)

/-! ### ASSIGN and ABORT (R27, R35) -/

/-- R27: a run set afresh, ARMED. -/
def Run.fresh (c : CourseNo) (n : Fin 16) (body : Program) : Run :=
  { state := .armed, program := some n, course := c, stage := 0, elapsed := 0, late := false, holdElapsed := 0,
    holdOver := false, body := body }

/-- R27: a selected run is set afresh, and enters stage 0 at once on a course already fired. -/
def assignRun (c : CourseNo) (n : Fin 16) (body : Program) (fired : Bool) (z : ZoneNo) (s : State) : State :=
  let s1 := setRun z (Run.fresh c n body) s
  if fired then enterStage 0 z s1 else s1

/-- R27: the course has been fired. -/
def State.hasFired (s : State) (c : CourseNo) : Bool := ((s.recOf c).map (·.state.isFired)).getD false

/-- R27, R37: the assignment is taken. DESIGN CHOICE: at a course already fired the selected runs enter stage 0, and raise the events of
those that fault at once, in ascending zone number (assumption log 15). -/
def assign (zs : List ZoneNo) (c : CourseNo) (n : Fin 16) (body : Program) (s : State) : State :=
  let s1 := ensureRec c s
  followDemand (derive c (overZones zs (assignRun c n body (s1.hasFired c)) s1))

/-- R27, check 2: a program with a PROBE stage for a zone without a probe. -/
def State.lacksProbe (s : State) (zs : List ZoneNo) (body : Program) : Bool :=
  body.stages.any (·.kind == .probe) && zs.any fun z => !s.heat.zones[z].probeFitted

/-- R27, check 3: a selected zone that is absent, or whose run may not be assigned. -/
def State.unfit (s : State) (zs : List ZoneNo) : Bool :=
  zs.any fun z => s.heat.zones[z].rating == 0 || s.prog.runs[z].state.live || s.prog.runs[z].state == .fault

/-- R27: the checks in order. -/
def assignFrame (p : List Byte) (s : State) : State × Result :=
  let zs := zonesAt p
  match courseAt p 1, entryAt p 2 with
  | some c, some n =>
    match s.prog.table[n] with
    | some body =>
      if zs.isEmpty || s.lacksProbe zs body then (s, .invalid)
      else if s.bus.link.bars || s.unfit zs || s.isReleased c then (s, .refusedState)
      else if !s.canHaveRec c then (s, .boardFull)
      else (assign zs c n body s, .ok)
    | none => (s, .invalid)
  | _, _ => (s, .invalid)

/-- ASSIGN (R27). -/
def execAssign (p : List Byte) (s : State) : Answer :=
  unlessReset s (writeFrame (p.length == 3) false (assignFrame p))

/-- R35: the selected runs become IDLE, and the standing on each course they were on is derived again, in ascending course
number. -/
def abort (zs : List ZoneNo) (s : State) : State :=
  let touched := courseNos.filter fun c => zs.any fun z => s.prog.runs[z].course == c
  followDemand (touched.foldl (fun s c => derive c s) (overZones zs (fun z => setRun z Run.idle) s))

/-- ABORT (R35). -/
def execAbort (p : List Byte) (s : State) : Answer :=
  unlessReset s
    (writeFrame (p.length == 1) false fun s =>
      if (zonesAt p).isEmpty then (s, .invalid) else (abort (zonesAt p) s, .ok))

/-! ### PLATES (R38) -/

/-- R38: the plate count of a course is replaced, and the warm plates are derived again. -/
def setPlates (c : CourseNo) (n : Nat) (s : State) : State :=
  derive c { s with prog := { s.prog with plates := s.prog.plates.set c n } }

/-- PLATES (R38). -/
def execPlates (p : List Byte) (s : State) : Answer :=
  unlessReset s
    (writeFrame (p.length == 3) false fun s =>
      match courseAt p 0 with
      | some c => (setPlates c (min 4000 (wordAt p 1)) s, .ok)
      | none => (s, .invalid))

end Sys2Proof.Machine
end

