-- ==== Sys2Proof/Machine/LineEvents.lean ====
section
/-! DEFINITION. The meanings of the line's events and of the access machine's (R59, R71–R74, R79). The times are measured by
whoever sends these commands; each is guarded by the state of the machine alone (assumption log 8). -/

namespace Sys2Proof.Machine

/-- The receiver is on: reset does not hold, and the station hears notices (R60, R75). -/
def State.receiverOn (s : State) : Bool := !s.inReset && s.bus.link.hears

/-- The line as it stands (R59). A start mark that appears while the receiver is off is missed; an idle line ends every notice
(R75). DEDUCED: assumption log 11. -/
def setBusy (b : Bool) (s : State) : State :=
  { s with bus := { s.bus with lineBusy := b, startMissed := b && !s.receiverOn } }

/-- LINE_IDLE out of reset (R71): from DEFERRED the machine goes to GAP with a fresh draw. The station's own transmission holds
the line busy. -/
def lineIdle (s : State) : State :=
  if s.bus.access = .sending then s
  else if s.bus.access = .deferred then seekLine (setBusy false s)
  else setBusy false s

/-- LINE_IDLE (R71): the line becomes idle. While reset holds the line's own level alone is followed (R75; assumption log 13). -/
def execLineIdle (s : State) : Answer := .next (if s.inReset then setBusy false s else lineIdle s)

/-- During the access gap a line that turns busy takes the machine to DEFERRED (R71). -/
def deferGap (s : State) : State :=
  if s.bus.access = .gap then { s with bus := { s.bus with access := .deferred } } else s

/-- LINE_BUSY (R71): the line turns busy. While reset holds the line's own level alone is followed (R75; assumption log 13). -/
def execLineBusy (s : State) : Answer := .next (if s.inReset then setBusy true s else deferGap (setBusy true s))

/-- ACCESS_GAP_EXPIRY (R71): the gap has run, and the head goes into transmission. -/
def execAccessGapExpiry (s : State) : Answer :=
  unlessReset s fun s => if s.bus.access = .gap then startSending s else s

/-- BACKOFF_EXPIRY (R72): the backoff has run. -/
def execBackoffExpiry (s : State) : Answer :=
  unlessReset s fun s => if s.bus.access = .backoff then seekLine s else s

/-- R72: a collision of the notice in transmission. One left by RESTART stops, is not sent again and counts nothing (R64). -/
def collide (e : TxEntry) (s : State) : State :=
  let n := e.attempts + 1
  if e.orphan then dropEntry e s
  else if 8 ≤ n then dropEntry e (bump .contentionDrop s)
  else { s with bus := { s.bus with queue := afterCollision e n s.bus.queue }.backOff n }

/-- COLLISION (R72). -/
def execCollision (s : State) : Answer :=
  unlessReset s fun s =>
    match s.bus.access, onLineOf s.bus.queue with
    | .sending, some e => collide e s
    | _, _ => s

/-- R70, R79, R146: the owner of a completed notice is told it was sent; a LEAVE takes the station to LEFT. -/
def completed (e : TxEntry) (s : State) : State :=
  if e.orphan then seekLine s
  else if e.body = .leave then enterLeft s
  else pageSent e.id (seekLine s)

/-- R73: a notice completes: it leaves the queue and is counted, and the line is idle from its closing mark on. -/
def complete (e : TxEntry) (s : State) : State :=
  completed e
    (bump .noticesSent { s with bus := { s.bus with queue := withoutId e.id s.bus.queue, lineBusy := false } })

/-- NOTICE_COMPLETED (R73). -/
def execNoticeCompleted (s : State) : Answer :=
  unlessReset s fun s =>
    match s.bus.access, onLineOf s.bus.queue with
    | .sending, some e => complete e s
    | _, _ => s

/-- R74: one more millisecond brings the wait time of the head to 500 ms. -/
def Bus.brinkDefer (b : Bus) : Bool := (b.waiter.map fun e => decide (499 ≤ e.waitMs)).getD false

/-- DEFER_DROP (R74): the head's wait time, one millisecond short, reaches 500 ms (assumption log 7). -/
def execDeferDrop (s : State) : Answer := unlessReset s fun s => if s.bus.brinkDefer then waitMilli s else s

end Sys2Proof.Machine
end

