-- ==== Sys2Proof/Machine/LoadSharing.lean ====
section
/-! DEFINITION. The load block's operations (chapter 3): the computation over the live set, the peer table, the ramp and the
curtailment test. -/

namespace Sys2Proof.Machine

/-! ### The computation over the live set (R49–R52) -/

/-- A station of the live set with its figures. -/
structure LiveRow where
  station : Station
  q : Nat
  f : Nat
  w : Nat
  deriving DecidableEq, Repr

/-- What a station wants beyond its floor; the stations that want something form E (R51). -/
def LiveRow.want (r : LiveRow) : Nat := r.q - r.f

/-- R51: the weight of E. -/
def weightE (rows : List LiveRow) : Nat := ((rows.filter (0 < ·.want)).map (·.w)).sum

/-- R51: a station's share in the first pass. -/
def firstShare (rest weight : Nat) (r : LiveRow) : Nat := rest * r.w / weight

/-- R51: a station's first extra. -/
def firstExtra (rest weight : Nat) (r : LiveRow) : Nat := min (firstShare rest weight r) r.want

/-- R51: a station of E that is uncapped, and so of E2 (R52). -/
def uncapped (rest weight : Nat) (r : LiveRow) : Bool := firstShare rest weight r < r.want

/-- R51, R52: the grants of case 3, with `rest` the R that remains above the floors. -/
def weightedGrants (rest : Nat) (rows : List LiveRow) : List Nat :=
  let weight := weightE rows
  let slack := rest - (rows.map (firstExtra rest weight)).sum
  let weight2 := ((rows.filter (uncapped rest weight)).map (·.w)).sum
  let second (r : LiveRow) : Nat :=
    if uncapped rest weight r then min (slack * r.w / weight2) (r.want - firstExtra rest weight r) else 0
  let slack2 := slack - (rows.map second).sum
  sweep slack2
    (rows.map fun r =>
      (r.f + firstExtra rest weight r + second r, if uncapped rest weight r then r.q else 0))

/-- R49–R52: the grants of the live set, row by row, under the usable limit. -/
def liveGrants (usable : Nat) (rows : List LiveRow) : List Nat :=
  let floors := rows.map (·.f)
  if (rows.map (·.q)).sum ≤ usable then rows.map (·.q)
  else if usable ≤ floors.sum then topUp usable (floors.map fun f => f * usable / floors.sum) floors
  else weightedGrants (usable - floors.sum) rows

def Peer.row (p : Peer) : LiveRow := { station := p.station, q := p.q, f := p.f, w := p.w }

/-- R49: the live set in ascending station number, the own station with its own figures. -/
def State.liveRows (s : State) : List LiveRow :=
  (s.load.peers.filter (·.station < s.own)).map Peer.row ++
    { station := s.own, q := s.declaredQ, f := s.declaredF, w := s.load.weight } ::
      (s.load.peers.filter (s.own < ·.station)).map Peer.row

/-- Each station of the live set with its grant. -/
def State.liveTable (s : State) : List (Station × Nat) :=
  (s.liveRows.map (·.station)).zip (liveGrants s.load.usable s.liveRows)

/-- A station's grant in a live table. -/
def grantIn (t : List (Station × Nat)) (st : Station) : Nat := ((t.find? (·.1 == st)).map (·.2)).getD 0

/-- The live set is computed: in JOINED, and at a configured monitor station (R49, R53). -/
def State.sharesLive (s : State) : Bool :=
  s.bus.link == .joined || (s.bus.link == .monitor && s.port.configured)

/-- R47 step 3, R48, R53: the grant computation. -/
def computeGrant (s : State) : State :=
  let table := if s.sharesLive then s.liveTable else []
  let g := if s.bus.link = .joined then grantIn table s.own else s.stateGrant
  { s with load := { s.load with
      grant := g
      expiryGrant := g
      peers := s.load.peers.map fun p => { p with grant := grantIn table p.station } } }

/-! ### Curtailment and the ramp (R54, R56, R57) -/

/-- R57: the count of consecutive expiries with less than half the demand. -/
def State.curtailCountNow (s : State) : Nat :=
  if s.bus.link.heats && s.load.grant < s.declaredQ / 2 then min 5 (s.load.curtailCount + 1) else 0

/-- R57: the curtailment test. -/
def State.curtailTest (s : State) : Bool :=
  s.bus.link.heats && (s.load.grant < s.declaredF || s.curtailCountNow == 5)

/-- R47 step 4, R57. -/
def testCurtailed (s : State) : State :=
  let holds := s.curtailTest
  let s1 := { s with load := { s.load with curtailCount := s.curtailCountNow, curtailed := holds } }
  if holds && !s.load.curtailed then
    raise { kind := .curtailed, course := 0, zone := none, station := none, value := BitVec.ofNat 16 s.load.grant } s1
  else s1

/-- R54: the applied grant after the ramp. -/
def Load.ramped (l : Load) : Nat := if l.grant ≤ l.applied then l.grant else min l.grant (l.applied + l.ramp)

/-- R54. -/
def applyRamp (s : State) : State := applyGrant s.load.ramped s

/-- R56: the LOAD notice with the figures used at an expiry. -/
def State.loadNotice (s : State) : Body :=
  .load (BitVec.ofNat 16 s.declaredQ) (BitVec.ofNat 16 s.declaredF) (u8 s.load.weight) (BitVec.ofNat 16 s.heat.draw)
    (BitVec.ofNat 16 s.load.limit)

/-! ### The peer table (R40–R46) -/

/-- R43: the limit mismatch is tested again. -/
def testMismatch (s : State) : State :=
  match s.load.peers.find? (·.l != s.load.limit) with
  | some p =>
    if !s.port.configured then s
    else
      let s1 := { s with load := { s.load with mismatch := true } }
      if s.load.mismatch then s1
      else
        raise
          { kind := .limitMismatch, course := 0, zone := none, station := some p.station, value := BitVec.ofNat 16 p.l } s1
  | none => { s with load := { s.load with mismatch := false } }

/-- R46: a peer lost is told to the course block and the ware block, and the limit mismatch is tested again. -/
def peerLost (st : Station) (s : State) : State := testMismatch (mapWash (dropWash st) (loseMembers st s))

/-- R46: a removal that leaves the table empty is told to the Passbus controller. DESIGN CHOICE: R46 orders its three steps
alone, and the model tells the controller after them, once for all the peers one removal or one expiry loses
(assumption log 37). -/
def tellIfEmpty (s : State) : State := if s.load.peers.isEmpty then tableEmptied s else s

/-- The peer table without a station. -/
def removePeer (st : Station) (s : State) : State :=
  { s with load := { s.load with peers := s.load.peers.filter (·.station != st) } }

/-- R44, R46: one entry is removed as peer lost; that the controller is told of an emptied table last is a DESIGN CHOICE
(assumption log 37). -/
def losePeer (st : Station) (s : State) : State :=
  if s.load.peers.any (·.station == st) then tellIfEmpty (peerLost st (removePeer st s)) else s

/-- R46: an entry at an expiry. -/
def Peer.aged (p : Peer) : Peer := if p.heard then p else { p with missed := p.missed + 1 }

/-- R47 step 1: aging of the table, the lost peers told in ascending station number; that the controller is told of an emptied
table last, once after all the lost peers, is a DESIGN CHOICE (assumption log 37). -/
def ageTable (s : State) : State :=
  let aged := s.load.peers.map Peer.aged
  let lost := (aged.filter (3 ≤ ·.missed)).map (·.station)
  let s1 := { s with load := { s.load with
    peers := (aged.filter (·.missed < 3)).map fun p => { p with heard := false } } }
  let s2 := lost.foldl (fun s st => peerLost st s) s1
  if lost.isEmpty then s2 else tellIfEmpty s2

/-- R42: at an expiry a clash episode whose flag is clear ends, and the flag is cleared. -/
def Load.endClash (l : Load) : Load := { l with clash := l.clash && l.clashHeard, clashHeard := false }

/-- R47 step 2, R45: the third expiry since LISTEN was entered ends the listen interval. -/
def countListen (s : State) : State :=
  if s.bus.link = .listen then
    let s1 := { s with load := { s.load with listenCount := s.load.listenCount + 1 } }
    if 3 ≤ s1.load.listenCount then endListen s1 else s1
  else s

/-- R41: the figures of a LOAD notice clamped to the ranges of R40. -/
def Peer.ofLoad (st : Station) (q f w d l : Nat) : Peer :=
  let q := min 2040 q
  { station := st, q := q, f := min q f, w := max 1 (min 15 w), d := min 2040 d, l := max 10 (min 6000 l),
    missed := 0, heard := true, grant := 0 }

/-- R41: insert in station-number order, or refresh the entry there, keeping its computed grant. -/
def putPeer (p : Peer) (l : List Peer) : List Peer :=
  if l.any (·.station == p.station) then
    l.map fun x => if x.station = p.station then { p with grant := x.grant } else x
  else l.filter (·.station < p.station) ++ p :: l.filter (p.station < ·.station)

/-- R41: a LOAD heard from another station. -/
def takeLoad (p : Peer) (s : State) : State :=
  if s.load.peers.any (·.station == p.station) || s.load.peers.length < 30 then
    let s1 := { s with load := { s.load with peers := putPeer p s.load.peers } }
    testMismatch (if s.load.peers.isEmpty then tableFilled s1 else s1)
  else s

/-- R42: a LOAD heard with the station's own number. -/
def takeClash (q : Nat) (s : State) : State :=
  let s1 := latch .numberClash { s with load := { s.load with clash := true, clashHeard := true } }
  if s.load.clash then s1
  else raise { kind := .numberClash, course := 0, zone := none, station := some s.own, value := BitVec.ofNat 16 q } s1

end Sys2Proof.Machine
end

