-- ==== Sys2Proof/Machine/LoadEvents.lean ====
section
/-! DEFINITION. The meanings of the load period (R45–R57, R62). -/

namespace Sys2Proof.Machine

/-- R47, steps 1 to 4: aging, listen end, grant computation, curtailment test. -/
def loadPeriodFigures (s : State) : State :=
  let s1 := ageTable s
  testCurtailed (computeGrant (countListen { s1 with load := s1.load.endClash }))

/-- R47, steps 5 and 6: the ramp, and the LOAD notice with the figures used at this expiry. -/
def loadPeriodEnd (s : State) : State :=
  let s1 := applyRamp s
  if s.bus.link.sends then hand s.loadNotice s1 else s1

/-- LOAD_PERIOD_EXPIRY (R47). -/
def execLoadPeriodExpiry (s : State) : Answer := unlessReset s fun s => loadPeriodEnd (loadPeriodFigures s)

/-- The peer table holds an entry for a station that one more expiry unheard removes (R46). -/
def State.brinkPeer (s : State) (st : Station) : Bool :=
  s.load.peers.any fun p => p.station == st && !p.heard && 2 ≤ p.missed

/-- PEER_AGED_OUT (R46): an entry whose missed count stands at 2, not heard, reaches 3. -/
def execPeerAgedOut (st : Station) (s : State) : Answer :=
  unlessReset s fun s => if s.brinkPeer st then losePeer st s else s

/-- LISTEN_END (R62): the third expiry since LISTEN was entered. -/
def execListenEnd (s : State) : Answer :=
  unlessReset s fun s => if s.bus.link = .listen ∧ s.load.listenCount = 2 then countListen s else s

end Sys2Proof.Machine
end

