-- ==== Sys2Proof/Machine/NoticeEvents.lean ====
section
/-! DEFINITION. The meanings of the notices heard (R41, R42, R44, R75–R77, R92, R93, R96, R122, R150, R159, R164). -/

namespace Sys2Proof.Machine

/-! ### LOAD and LEAVE (R41, R42, R44) -/

/-- R41, R42: a LOAD passed to the load block; its figures are clamped first. -/
def takeLoadNotice (sender : Station) (q f : Half) (w : Byte) (d l : Half) (s : State) : State :=
  if sender = 0 then s
  else
    let p := Peer.ofLoad sender q.toNat f.toNat w.toNat d.toNat l.toNat
    if sender = s.own then takeClash p.q s else takeLoad p s

/-- LOAD_HEARD (R41). -/
def execLoadHeard (sender : Station) (seq : Byte) (q f : Half) (w : Byte) (d l : Half) (s : State) : Answer :=
  unlessReset s
    (hearing { sender := sender, seq := seq, body := .load q f w d l } (takeLoadNotice sender q f w d l))

/-- LEAVE_HEARD (R44). -/
def execLeaveHeard (sender : Station) (seq : Byte) (s : State) : Answer :=
  unlessReset s (hearing { sender := sender, seq := seq, body := .leave } (losePeer sender))

/-! ### COURSE (R92, R93, R101) -/

/-- What a COURSE's member state code says (R189). -/
inductive MemberSaid where
  | stands (st : Standing)
  | withdrawn
  | atPass
  | release
  deriving DecidableEq, Repr

/-- R189: the member state codes; `none` for a code that is none of the eight. -/
def memberSaid (code : Byte) : Option MemberSaid :=
  match code.toNat with
  | 6 => some .withdrawn
  | 7 => some .atPass
  | 8 => some .release
  | n => (Standing.ofCode n).map .stands

/-- A COURSE notice's fields, decoded (R92). -/
structure CourseSaid where
  sender : Station
  course : CourseNo
  said : MemberSaid
  fire : Bool
  plates : Option Half
  warm : Option Half
  deriving DecidableEq, Repr

/-- R92, step 4. -/
def takePlates (x : CourseSaid) (s : State) : State :=
  match x.plates with
  | some n => if n = 0 then s else mapRec x.course (fun r => { r with plates := min 4000 n.toNat }) s
  | none => s

/-- R93: the sender may have a member entry: it stands in the peer table and is neither 0 nor the own number. -/
def State.isMemberPeer (s : State) (st : Station) : Bool :=
  st != 0 && st != s.own && s.load.peers.any (·.station == st)

/-- R93: the warm plates of a notice. -/
def warmOf : Option Half → Nat
  | some n => min 4000 n.toNat
  | none => 0

/-- R93: the member entry a notice gives its sender. -/
def CourseSaid.member (x : CourseSaid) (st : Standing) : Member :=
  { station := x.sender, standing := st, warm := warmOf x.warm, fireSeen := false }

/-- R92, step 5, and R93: the member list after the sender's notice. -/
def CourseSaid.membersAfter (x : CourseSaid) (l : List Member) : List Member :=
  match x.said with
  | .stands st => putMember (x.member st) l
  | .withdrawn | .atPass | .release => dropMember x.sender l

/-- R92, step 5, and R93. -/
def takeMember (x : CourseSaid) (s : State) : State :=
  if s.isMemberPeer x.sender then mapRec x.course (fun r => { r with members := x.membersAfter r.members }) s else s

/-- R92, step 6: the sender's entry has its fire-flag-seen flag set. -/
def markFire (st : Station) (r : CourseRec) : CourseRec :=
  { r with members := r.members.map fun m => if m.station = st then { m with fireSeen := true } else m }

/-- R92, step 6. -/
def takeFire (x : CourseSaid) (s : State) : State :=
  if x.fire then
    fireOrder x.course (if s.isMemberPeer x.sender then mapRec x.course (markFire x.sender) s else s)
  else s

/-- R101: a COURSE heard for a RELEASED record: at a PASS station a member that has not heard the release is sent it once
more. -/
def reRelease (x : CourseSaid) (s : State) : State :=
  match x.said with
  | .stands _ => if s.isPass then handCourse x.course true false s else s
  | .withdrawn | .atPass | .release => s

/-- R92, steps 4 to 7, on a record that is not RELEASED. -/
def takeStandingHeard (x : CourseSaid) (s : State) : State :=
  followDemand (evalReady x.course (takeFire x (takeMember x (takePlates x s))))

/-- R92: a COURSE notice in its order. -/
def takeCourse (x : CourseSaid) (s : State) : State :=
  if x.said = .release then releaseCourse x.course x.sender false s
  else
    match s.recOf x.course with
    | some r => if r.state = .released then reRelease x s else takeStandingHeard x s
    | none =>
      if x.said = .withdrawn then s
      else if s.boardHasRoom then takeStandingHeard x (createRec (CourseRec.new x.course) s)
      else bump .boardMiss s

/-- R92: a COURSE passed to the course block; one whose course or member state is out of range is ignored. -/
def takeCourseNotice (sender : Station) (course member : Byte) (fire : Bool) (plates warm : Option Half) (s : State) :
    State :=
  match courseOf course.toNat, memberSaid member with
  | some c, some said =>
    takeCourse { sender := sender, course := c, said := said, fire := fire, plates := plates, warm := warm } s
  | _, _ => s

/-- COURSE_HEARD (R92). -/
def execCourseHeard (sender : Station) (seq course member : Byte) (fire : Bool) (spare : BitVec 5)
    (plates warm : Option Half) (s : State) : Answer :=
  unlessReset s
    (hearing { sender := sender, seq := seq, body := .course course member fire spare plates warm }
      (takeCourseNotice sender course member fire plates warm))

/-! ### HOLD (R96) -/

/-- R96: a HOLD passed to the course block. -/
def takeHoldNotice (sender : Station) (course quanta : Byte) (s : State) : State :=
  if sender = 0 ∨ course.toNat = 0 ∨ 15 < course.toNat then s
  else requestHold (Fin.ofNat 16 course.toNat) quanta.toNat sender s

/-- HOLD_HEARD (R96). -/
def execHoldHeard (sender : Station) (seq course quanta : Byte) (s : State) : Answer :=
  unlessReset s
    (hearing { sender := sender, seq := seq, body := .hold course quanta } (takeHoldNotice sender course quanta))

/-! ### WARE (R122) -/

/-- R122: a WARE passed to the ware block. -/
def takeWareNotice (sender : Station) (level : Byte) (backlog : Half) (conveyor : Byte) (s : State) : State :=
  match Conveyor.ofCode conveyor.toNat, level.toNat with
  | some _, 0 => if sender = 0 ∨ sender = s.own then s else mapWash (dropWash sender) s
  | some c, 1 =>
    if sender = 0 ∨ sender = s.own then s
    else mapWash (noteWash { station := sender, backlog := min 999 backlog.toNat, conveyor := c, age := 0 }) s
  | _, _ => s

/-- WARE_HEARD (R122). -/
def execWareHeard (sender : Station) (seq level : Byte) (backlog : Half) (conveyor : Byte) (s : State) : Answer :=
  unlessReset s
    (hearing { sender := sender, seq := seq, body := .ware level backlog conveyor }
      (takeWareNotice sender level backlog conveyor))

/-! ### PAGE and ANSWER (R159, R150, R164) -/

/-- R159: the relay record a heard PAGE offers; `none` for one whose sender or fields are out of range. -/
def offeredPage (sender own : Station) (number attempt group priority code course : Byte) : Option RelayRec :=
  if sender = 0 ∨ sender = own ∨ number.toNat = 0 ∨ 2 < attempt.toNat ∨ 31 < group.toNat ∨ priority.toNat = 0 ∨
      7 < priority.toNat ∨ 15 < course.toNat then none
  else
    some
      { key := { origin := sender, number := number.toNat, attempt := attempt.toNat }
        group := Fin.ofNat 32 group.toNat
        priority := priority.toNat
        code := code.toNat
        course := Fin.ofNat 16 course.toNat
        inFlight := false }

/-- R159: a PAGE passed to the radio relay. -/
def takePageNotice (sender : Station) (number attempt group priority code course : Byte) (s : State) : State :=
  match offeredPage sender s.own number attempt group priority code course with
  | some r => offerRelay r s
  | none => s

/-- PAGE_HEARD (R159). -/
def execPageHeard (sender : Station) (seq number attempt group priority code course : Byte) (s : State) : Answer :=
  unlessReset s
    (hearing { sender := sender, seq := seq, body := .page number attempt group priority code course }
      (takePageNotice sender number attempt group priority code course))

/-- R150: the page block takes an ANSWER that names its station as origin. -/
def answerPages (origin number attempt : Byte) (pager : Half) (accept : Bool) (s : State) : State :=
  if origin.toNat = s.own.val then takeAnswer number.toNat attempt.toNat pager.toNat accept s else s

/-- R164: an active relay drops the page's records. -/
def answerRelay (origin number attempt : Byte) (s : State) : State :=
  if s.relayActive && origin.toNat ≤ 31 then
    forgetPage { origin := Fin.ofNat 32 origin.toNat, number := number.toNat, attempt := attempt.toNat } s
  else s

/-- R150, R164, R189: an ANSWER passed to the page block and the relay; one whose reply is neither 0 nor 1 is ignored by
both. -/
def takeAnswerNotice (origin number attempt : Byte) (pager : Half) (reply : Byte) (s : State) : State :=
  if 1 < reply.toNat then s
  else answerRelay origin number attempt (answerPages origin number attempt pager (reply.toNat == 0) s)

/-- ANSWER_HEARD (R150). -/
def execAnswerHeard (sender : Station) (seq origin number attempt : Byte) (pager : Half) (reply : Byte) (s : State) :
    Answer :=
  unlessReset s
    (hearing { sender := sender, seq := seq, body := .answer origin number attempt pager reply }
      (takeAnswerNotice origin number attempt pager reply))

/-! ### Any notice from its bytes (R75) -/

/-- R77: a notice that passes the receiver's checks, passed to the blocks that take its kind. -/
def passOn (n : Notice) : State → State :=
  match n.body with
  | .leave => losePeer n.sender
  | .hold c q => takeHoldNotice n.sender c q
  | .answer o num a p r => takeAnswerNotice o num a p r
  | .page num a g p m c => takePageNotice n.sender num a g p m c
  | .course c m fire _ plates warm => takeCourseNotice n.sender c m fire plates warm
  | .ware l b c => takeWareNotice n.sender l b c
  | .load q f w d l => takeLoadNotice n.sender q f w d l

/-- R75: the bytes of a notice at a receiver that takes it. -/
def receiveBytes (bytes : List Byte) (s : State) : State :=
  if !s.takes then s
  else
    match receive bytes with
    | .truncated => bump .truncated s
    | .badCheck => bump .badCheck s
    | .unknownKind => s
    | .good n => hearing n (passOn n) s

/-- NOTICE_DISCARDED (R75). Bytes that pass every check are no discarded notice, and are taken as the notice they spell. -/
def execNoticeDiscarded (bytes : List Byte) (s : State) : Answer := unlessReset s (receiveBytes bytes)

end Sys2Proof.Machine
end

