-- ==== Sys2Proof/Machine/RadioEvents.lean ====
section
/-! DEFINITION. The meanings of the radio link's messages and times (R161–R163, R191). -/

namespace Sys2Proof.Machine

/-- The key a message names (R161, R163). -/
def keyNamed (origin number attempt : Byte) : Option RelayKey :=
  if origin.toNat ≤ 31 then
    some { origin := Fin.ofNat 32 origin.toNat, number := number.toNat, attempt := attempt.toNat }
  else none

/-- R161: a DONE with the transmission key ends the exchange, and the next WAITING record is sent at once. -/
def takeDone (origin number attempt : Byte) (s : State) : State :=
  if s.relayActive && s.relay.exchange != .idle && s.relay.key.isSome && s.relay.key == keyNamed origin number attempt then
    kick { s with relay := s.relay.finish }
  else s

/-- DONE (R161). -/
def execDone (origin number attempt : Byte) (s : State) : Answer := unlessReset s (takeDone origin number attempt)

/-- R162: in FIRST the TRANSMIT is sent once more, if the list still holds its record. -/
def retry (s : State) : State :=
  match s.relay.list.find? (·.inFlight) with
  | some r =>
    { s with relay := { s.relay with exchange := .retry, timerOn := false, transmit := transmitBytes r } }
  | none => kick { s with relay := s.relay.idle }

/-- R162: the second timeout drops the record and latches RADIO_FAULT. -/
def giveUp (s : State) : State := kick (latch .radioFault { s with relay := s.relay.finish })

/-- COMPLETION_TIMEOUT (R162): the completion timer, which runs, expires. -/
def execCompletionTimeout (s : State) : Answer :=
  unlessReset s fun s =>
    if !s.relay.timerOn then s
    else
      match s.relay.exchange with
      | .first => retry s
      | .retry => giveUp s
      | .idle => s

/-- R163: the fields of a REPLY lie in their ranges. -/
def replyInRange (pager : Half) (origin number attempt answer : Byte) : Bool :=
  pager.toNat ≤ 1023 && 1 ≤ origin.toNat && origin.toNat ≤ 31 && 1 ≤ number.toNat && attempt.toNat ≤ 2 &&
    answer.toNat ≤ 1

/-- R163: a REPLY at an active relay: the ANSWER notice, the records of the page, and an own page's answer. -/
def takeReply (pager : Half) (origin number attempt answer : Byte) (s : State) : State :=
  match keyNamed origin number attempt with
  | some k =>
    if s.relayActive && replyInRange pager origin number attempt answer then
      let s1 := forgetPage k (hand (.answer origin number attempt pager answer) s)
      if k.origin = s.own then takeAnswer number.toNat attempt.toNat pager.toNat (answer.toNat == 0) s1 else s1
    else s
  | none => s

/-- REPLY (R163). -/
def execReply (pager : Half) (origin number attempt answer : Byte) (s : State) : Answer :=
  unlessReset s (takeReply pager origin number attempt answer)

/-- RADIO_MESSAGE_DISCARDED (R191). Bytes that pass every check are no discarded message, and are taken as the message they
spell. -/
def execRadioMessageDiscarded (bytes : List Byte) (s : State) : Answer :=
  unlessReset s fun s =>
    match receiveRadio bytes with
    | .discarded => s
    | .done o n a => takeDone o n a s
    | .reply p o n a r => takeReply p o n a r s

/-- RADIO_BYTE_TIMEOUT (R191): the message in progress is discarded; the relay waits for the next sync byte. -/
def execRadioByteTimeout (s : State) : Answer := unlessReset s id

/-- TRANSMIT_SENT (R161, R191): the TRANSMIT's check byte has ended, and the completion timer starts. -/
def execTransmitSent (s : State) : Answer :=
  unlessReset s fun s =>
    if s.relay.exchange = .idle then s else { s with relay := { s.relay with timerOn := true } }

end Sys2Proof.Machine
end

