-- ==== Sys2Proof/Machine/RouteEvents.lean ====
section
/-! DEFINITION. The meanings of the routing block's own moments (R130, R137, R138). -/

namespace Sys2Proof.Machine

/-- TAKE_EVENT (R130). -/
def execTakeEvent (s : State) : Answer := unlessReset s takeOldest

/-- EVALUATION_END (R137). -/
def execEvaluationEnd (s : State) : Answer := unlessReset s endEvaluation

end Sys2Proof.Machine
end

