-- ==== Sys2Proof/Machine/TickEvents.lean ====
section
/-! DEFINITION. The meanings of the one-second tick and of what it brings to one course, rack, peer or page (R81, R82, R84,
R89, R91, R95, R102, R117, R121, R122, R147–R149). A row that names one moment inside a tick acts when its item stands one
count short of that moment, and changes nothing otherwise (assumption log 7). -/

namespace Sys2Proof.Machine

/-! ### The tick (R82, R25, R117, R149) -/

/-- R25: each tick is taken by the runs that were active at the moment it was taken. DESIGN CHOICE: they take it in ascending
zone number, and the member states are derived once, after all of them (assumption log 15). -/
def programTick (before : State) (s : State) : State :=
  deriveAll (zoneNos.foldl (fun s z => if before.prog.runs[z].state.active then tickRun z s else s) s)

/-- R81, R82: the course block takes the tick, then the program, ware and page blocks. -/
def serviceTick (s : State) : State :=
  pageTick (wareTick (followDemand (programTick s (courseTick (ageRepeats RepeatRec.tick s)))))

/-- SERVICE_CLOCK_TICK (R82). -/
def execServiceClockTick (s : State) : Answer := unlessReset s serviceTick

/-! ### One course's moments -/

/-- A test of a course's record, false where there is none. -/
def State.recPasses (s : State) (c : CourseNo) (f : CourseRec → Bool) : Bool :=
  match s.recOf c with
  | some r => f r
  | none => false

/-- HOLD_EXPIRY (R95): the countdown brings a hold of 1 s to 0. -/
def execHoldExpiry (c : CourseNo) (s : State) : Answer :=
  unlessReset s fun s => if s.recPasses c fun r => r.state != .released && r.hold == 1 then tickHold c s else s

/-- R84: one entry fires and leaves the schedule. -/
def fireEntryAt (i : Nat) (e : SchedEntry) (s : State) : State :=
  fireScheduled e.course { s with course := { s.course with schedule := s.course.schedule.eraseIdx i } }

/-- SCHEDULE_ENTRY_FIRES (R84): the entry in that place has the time the next tick makes the clock equal to. -/
def execScheduleEntryFires (i : Fin 8) (s : State) : Answer :=
  unlessReset s fun s =>
    match s.course.schedule[i.val]? with
    | some e => if e.time = nextSecond s.course.clock then fireEntryAt i e s else s
    | none => s

/-- RELEASE_AGE_EXPIRY (R89): a release age of 299 reaches 300. -/
def execReleaseAgeExpiry (c : CourseNo) (s : State) : Answer :=
  unlessReset s fun s => if s.recPasses c fun r => r.state == .released && 299 ≤ r.releaseAge then tickAge c s else s

/-- R102: the clearing list without the entry of a course. -/
def dropClearing (c : CourseNo) (s : State) : State :=
  { s with course := { s.course with clearing := s.course.clearing.filter (·.course != c) } }

/-- CLEAR_CALL (R102): a time remaining of 1 s reaches 0. -/
def execClearCall (c : CourseNo) (s : State) : Answer :=
  unlessReset s fun s =>
    match s.course.clearing.find? (·.course == c) with
    | some e => if e.remaining ≤ 1 then raiseClearCall e (dropClearing c s) else s
    | none => s

/-- COURSE_REPEAT (R91): the repeat count of an involved record would reach 4. -/
def execCourseRepeat (c : CourseNo) (s : State) : Answer :=
  unlessReset s fun s => if s.recPasses c fun r => s.involved r && 3 ≤ r.repeatCount then handCourse c false false s else s

/-! ### The ware block's moments -/

/-- The oldest rack stands at the maximum dwell on a RUNNING conveyor (R117). -/
def State.brinkDwell (s : State) : Bool :=
  s.ware.conveyor == .running &&
    match s.ware.racks with
    | r :: _ => s.ware.maxDwell < r.running + 1
    | [] => false

/-- DWELL_FAULT (R117): the running seconds rise, and the oldest rack's exceed the maximum dwell. -/
def execDwellFault (s : State) : Answer := unlessReset s fun s => if s.brinkDwell then tickDwell (tickRacks s) else s

/-- WARE_REPEAT (R121): the WARE repeat count would reach 10. -/
def execWareRepeat (s : State) : Answer :=
  unlessReset s fun s =>
    if s.wareActive && s.bus.link.sends && 9 ≤ s.ware.repeatCount then handWare s else s

/-- WASH_VIEW_AGE_OUT (R122): an age of 29 reaches 30. -/
def execWashViewAgeOut (st : Station) (s : State) : Answer :=
  unlessReset s fun s =>
    if s.ware.wash.any fun e => e.station == st && 29 ≤ e.age then mapWash (dropWash st) s else s

/-! ### The page block's moments -/

/-- PAGE_TIMEOUT (R147): an answer time of 1 s reaches 0, and the page escalates. -/
def execPageTimeout (number : Byte) (s : State) : Answer :=
  unlessReset s fun s =>
    match s.pageOf number.toNat with
    | some p =>
      if p.state = .sent ∧ p.timer ≤ 1 then escalate p.number (mapPage p.number (fun x => { x with timer := 0 }) s)
      else s
    | none => s

/-- DEFERRAL_LIMIT (R148): a deferral of 119 s reaches 120 s, and the page leaves DEFERRED. -/
def execDeferralLimit (number : Byte) (s : State) : Answer :=
  unlessReset s fun s =>
    match s.pageOf number.toNat with
    | some p => if p.state = .deferred ∧ 119 ≤ p.timer then undefer p.number s else s
    | none => s

end Sys2Proof.Machine
end

