-- ==== Sys2Proof/Machine/Dispatch.lean ====
section
/-! DEFINITION. The meaning of every command: one arm a row of spec/opcode_table.json. -/

namespace Sys2Proof.Machine

/-- The command's effect on everything but the queue of waiting commands. -/
def exec (i : Instr) (s : State) : Host.Outcome State Fault Refusal :=
  match i with
  | .resetAsserted => Sys2Proof.Machine.execResetAsserted s
  | .resetReleased straps => Sys2Proof.Machine.execResetReleased straps s
  | .configure params => Sys2Proof.Machine.execConfigure params s
  | .readStatus params => Sys2Proof.Machine.execReadStatus params s
  | .setClock params => Sys2Proof.Machine.execSetClock params s
  | .zoneSet params => Sys2Proof.Machine.execZoneSet params s
  | .zoneRead params => Sys2Proof.Machine.execZoneRead params s
  | .sample params => Sys2Proof.Machine.execSample params s
  | .programWrite params => Sys2Proof.Machine.execProgramWrite params s
  | .programRead params => Sys2Proof.Machine.execProgramRead params s
  | .assign params => Sys2Proof.Machine.execAssign params s
  | .fire params => Sys2Proof.Machine.execFire params s
  | .abort params => Sys2Proof.Machine.execAbort params s
  | .schedule params => Sys2Proof.Machine.execSchedule params s
  | .openCourse params => Sys2Proof.Machine.execOpenCourse params s
  | .release params => Sys2Proof.Machine.execRelease params s
  | .hold params => Sys2Proof.Machine.execHold params s
  | .closeCourse params => Sys2Proof.Machine.execCloseCourse params s
  | .readBoard params => Sys2Proof.Machine.execReadBoard params s
  | .plates params => Sys2Proof.Machine.execPlates params s
  | .wareSet params => Sys2Proof.Machine.execWareSet params s
  | .conveyorReset params => Sys2Proof.Machine.execConveyorReset params s
  | .sanitizeAck params => Sys2Proof.Machine.execSanitizeAck params s
  | .ruleWrite params => Sys2Proof.Machine.execRuleWrite params s
  | .ruleRead params => Sys2Proof.Machine.execRuleRead params s
  | .groupWrite params => Sys2Proof.Machine.execGroupWrite params s
  | .duty params => Sys2Proof.Machine.execDuty params s
  | .page params => Sys2Proof.Machine.execPage params s
  | .coverageWrite params => Sys2Proof.Machine.execCoverageWrite params s
  | .readPeers params => Sys2Proof.Machine.execReadPeers params s
  | .readReports params => Sys2Proof.Machine.execReadReports params s
  | .freeBank params => Sys2Proof.Machine.execFreeBank params s
  | .readAlert params => Sys2Proof.Machine.execReadAlert params s
  | .alertMask params => Sys2Proof.Machine.execAlertMask params s
  | .clearAlert params => Sys2Proof.Machine.execClearAlert params s
  | .readCounters params => Sys2Proof.Machine.execReadCounters params s
  | .withdraw params => Sys2Proof.Machine.execWithdraw params s
  | .restart params => Sys2Proof.Machine.execRestart params s
  | .unknown code params => Sys2Proof.Machine.execUnknown code params s
  | .oeInterlockChange high => Sys2Proof.Machine.execOeInterlockChange high s
  | .entryEdge => Sys2Proof.Machine.execEntryEdge s
  | .rinseEdge => Sys2Proof.Machine.execRinseEdge s
  | .exitEdge => Sys2Proof.Machine.execExitEdge s
  | .stepBoundary => Sys2Proof.Machine.execStepBoundary s
  | .windowStart => Sys2Proof.Machine.execWindowStart s
  | .sampleStale zone => Sys2Proof.Machine.execSampleStale zone s
  | .timedStageEnd zone => Sys2Proof.Machine.execTimedStageEnd zone s
  | .zoneLate zone => Sys2Proof.Machine.execZoneLate zone s
  | .holdOver zone => Sys2Proof.Machine.execHoldOver zone s
  | .loadPeriodExpiry => Sys2Proof.Machine.execLoadPeriodExpiry s
  | .peerAgedOut station => Sys2Proof.Machine.execPeerAgedOut station s
  | .listenEnd => Sys2Proof.Machine.execListenEnd s
  | .loadHeard sender seq q f w d l => Sys2Proof.Machine.execLoadHeard sender seq q f w d l s
  | .leaveHeard sender seq => Sys2Proof.Machine.execLeaveHeard sender seq s
  | .courseHeard sender seq course member fire spare plates warm => Sys2Proof.Machine.execCourseHeard sender seq course member fire spare plates warm s
  | .holdHeard sender seq course quanta => Sys2Proof.Machine.execHoldHeard sender seq course quanta s
  | .wareHeard sender seq level backlog conveyor => Sys2Proof.Machine.execWareHeard sender seq level backlog conveyor s
  | .pageHeard sender seq number attempt group priority code course => Sys2Proof.Machine.execPageHeard sender seq number attempt group priority code course s
  | .answerHeard sender seq origin number attempt pager reply => Sys2Proof.Machine.execAnswerHeard sender seq origin number attempt pager reply s
  | .noticeDiscarded bytes => Sys2Proof.Machine.execNoticeDiscarded bytes s
  | .lineIdle => Sys2Proof.Machine.execLineIdle s
  | .lineBusy => Sys2Proof.Machine.execLineBusy s
  | .accessGapExpiry => Sys2Proof.Machine.execAccessGapExpiry s
  | .collision => Sys2Proof.Machine.execCollision s
  | .backoffExpiry => Sys2Proof.Machine.execBackoffExpiry s
  | .noticeCompleted => Sys2Proof.Machine.execNoticeCompleted s
  | .deferDrop => Sys2Proof.Machine.execDeferDrop s
  | .serviceClockTick => Sys2Proof.Machine.execServiceClockTick s
  | .holdExpiry course => Sys2Proof.Machine.execHoldExpiry course s
  | .scheduleEntryFires entry => Sys2Proof.Machine.execScheduleEntryFires entry s
  | .releaseAgeExpiry course => Sys2Proof.Machine.execReleaseAgeExpiry course s
  | .clearCall course => Sys2Proof.Machine.execClearCall course s
  | .courseRepeat course => Sys2Proof.Machine.execCourseRepeat course s
  | .dwellFault => Sys2Proof.Machine.execDwellFault s
  | .wareRepeat => Sys2Proof.Machine.execWareRepeat s
  | .washViewAgeOut station => Sys2Proof.Machine.execWashViewAgeOut station s
  | .takeEvent => Sys2Proof.Machine.execTakeEvent s
  | .evaluationEnd => Sys2Proof.Machine.execEvaluationEnd s
  | .pageTimeout number => Sys2Proof.Machine.execPageTimeout number s
  | .deferralLimit number => Sys2Proof.Machine.execDeferralLimit number s
  | .done origin number attempt => Sys2Proof.Machine.execDone origin number attempt s
  | .completionTimeout => Sys2Proof.Machine.execCompletionTimeout s
  | .reply pager origin number attempt answer => Sys2Proof.Machine.execReply pager origin number attempt answer s
  | .radioMessageDiscarded bytes => Sys2Proof.Machine.execRadioMessageDiscarded bytes s
  | .radioByteTimeout => Sys2Proof.Machine.execRadioByteTimeout s
  | .transmitSent => Sys2Proof.Machine.execTransmitSent s

end Sys2Proof.Machine
end

