-- ==== Sys2Proof/Safety.lean ====
section
/-! DEFINITION. What counts as a safe state, in the terms the statements use: the conditions the spec says always hold, one
definition for each group of them; what a frame refused leaves; and the commands' frame forms (R169, R190) and the command
that carries a notice, written from the tables apart from the meanings. -/

namespace Sys2Proof.Machine

/-! ### Frames -/

/-- The station is out of reset and configured. -/
def State.isUp (s : State) : Prop := s.inReset = false ∧ s.port.configured = true

/-- A frame with no read data and no effect but its last result (R166, R167). -/
def State.refusedWith (s : State) (r : Result) : State :=
  { s with port := { s.port with lastResult := r, dataOut := [s.statusByte] } }

/-- A command as the table of R169 has it, with the length its frame needs (R190): its parameter bytes, whether it is a read,
whether it is taken before CONFIGURE, and the count of its parameter bytes where that does not depend on its own fields. -/
structure FrameForm where
  params : List Byte
  reads : Bool
  before : Bool
  length : Option Nat
  deriving DecidableEq, Repr

/-- R169, R190: the 36 commands of the list. -/
def frameForm : Instr → Option FrameForm
  | .configure p => some ⟨p, false, true, some 20⟩
  | .readStatus p => some ⟨p, true, true, some 0⟩
  | .setClock p => some ⟨p, false, false, some 3⟩
  | .zoneSet p => some ⟨p, false, true, some 7⟩
  | .zoneRead p => some ⟨p, true, true, some 1⟩
  | .sample p => some ⟨p, false, false, none⟩
  | .programWrite p => some ⟨p, false, true, none⟩
  | .programRead p => some ⟨p, true, true, some 1⟩
  | .assign p => some ⟨p, false, false, some 3⟩
  | .fire p => some ⟨p, false, false, some 1⟩
  | .abort p => some ⟨p, false, false, some 1⟩
  | .schedule p => some ⟨p, false, false, some 4⟩
  | .openCourse p => some ⟨p, false, false, some 5⟩
  | .release p => some ⟨p, false, false, some 2⟩
  | .hold p => some ⟨p, false, false, some 3⟩
  | .closeCourse p => some ⟨p, false, false, some 1⟩
  | .readBoard p => some ⟨p, true, true, some 0⟩
  | .plates p => some ⟨p, false, false, some 3⟩
  | .wareSet p => some ⟨p, false, false, some 3⟩
  | .conveyorReset p => some ⟨p, false, false, some 0⟩
  | .sanitizeAck p => some ⟨p, false, false, some 0⟩
  | .ruleWrite p => some ⟨p, false, true, some 10⟩
  | .ruleRead p => some ⟨p, true, true, some 1⟩
  | .groupWrite p => some ⟨p, false, true, some 3⟩
  | .duty p => some ⟨p, false, false, some 2⟩
  | .page p => some ⟨p, false, false, some 5⟩
  | .coverageWrite p => some ⟨p, false, true, some 4⟩
  | .readPeers p => some ⟨p, true, true, some 0⟩
  | .readReports p => some ⟨p, true, true, some 0⟩
  | .freeBank p => some ⟨p, false, false, some 0⟩
  | .readAlert p => some ⟨p, true, true, some 0⟩
  | .alertMask p => some ⟨p, false, false, some 2⟩
  | .clearAlert p => some ⟨p, false, false, some 2⟩
  | .readCounters p => some ⟨p, true, true, some 1⟩
  | .withdraw p => some ⟨p, false, false, some 0⟩
  | .restart p => some ⟨p, false, false, some 0⟩
  | _ => none

/-- R4: the bytes a SAMPLE needs after its mask: 2 for each selected zone and 2 more for each with a probe fitted. -/
def State.sampleLength (s : State) (mask : Byte) : Nat :=
  ((maskZones mask).map fun z => if s.heat.zones[z].probeFitted then 4 else 2).sum

/-- The frame is of the length its command needs: exactly, for a write; at least, for a read (R4, R23, R167, R190). -/
def State.lengthFits (s : State) (f : FrameForm) (c : Instr) : Bool :=
  match f.length, c with
  | some n, _ => if f.reads then n ≤ f.params.length else f.params.length == n
  | none, .programWrite p => p.length == 7 + 5 * (p.getD 1 0).toNat
  | none, .sample (m :: rest) => rest.length == s.sampleLength m
  | none, _ => false

/-! ### What only a few commands write -/

/-- A zone's five settings (R1). -/
def Zone.settings (zn : Zone) : ZoneSettings :=
  { rating := zn.rating, band := zn.band, limit := zn.limit, floor := zn.floor, probeFitted := zn.probeFitted }

/-- The settings, straps and tables of the part: what the blocks work by and no event of time, line or pin writes (R1, R22,
R39, R106, R132, R140, R157, R171, R172, R180). -/
structure Settings where
  straps : Straps
  configured : Bool
  mask : Half
  zones : List ZoneSettings
  limit : Nat
  reserve : Nat
  weight : Nat
  ramp : Nat
  solo : Nat
  safe : Bool
  lateQuanta : Nat
  washZone : ZoneNo
  rinseZone : ZoneNo
  sanMin : Nat
  washMin : Nat
  maxDwell : Nat
  high : Nat
  low : Nat
  table : Vector (Option Program) 16
  rules : Vector Rule 32
  groups : Vector Group 32
  pairs : Vector Pair 4
  deriving DecidableEq, Repr

def State.settings (s : State) : Settings :=
  { straps := s.port.straps, configured := s.port.configured, mask := s.port.mask,
    zones := zoneNos.map fun z => s.heat.zones[z].settings,
    limit := s.load.limit, reserve := s.load.reserve, weight := s.load.weight, ramp := s.load.ramp, solo := s.load.solo,
    safe := s.load.safe, lateQuanta := s.course.lateQuanta, washZone := s.ware.washZone, rinseZone := s.ware.rinseZone,
    sanMin := s.ware.sanMin, washMin := s.ware.washMin, maxDwell := s.ware.maxDwell, high := s.ware.high,
    low := s.ware.low, table := s.prog.table, rules := s.route.rules, groups := s.page.groups, pairs := s.relay.pairs }

/-- What a change of zones, runs or course records leaves as it was: the step and the window's place in it, the load block but its
applied grant, the link, the service clock and the schedule, the plate counts, the ware block but the conveyor's state and its margin
flag, the evaluation in progress, the pages but for which notice is their current one, and the radio relay. -/
structure Steady where
  step : Nat
  load : Load
  link : LinkState
  lineBusy : Bool
  startMissed : Bool
  repeats : Vector (Option RepeatRec) 32
  clock : Nat
  schedule : List SchedEntry
  plates : Vector Nat 16
  ware : Ware
  evaluation : Option Evaluation
  pages : List Page
  next : Nat
  relay : Relay
  deriving DecidableEq, Repr

def State.steady (s : State) : Steady :=
  { step := s.heat.step, load := { s.load with applied := 0 }, link := s.bus.link, lineBusy := s.bus.lineBusy,
    startMissed := s.bus.startMissed, repeats := s.bus.repeats, clock := s.course.clock, schedule := s.course.schedule,
    plates := s.prog.plates,
    ware := { s.ware with conveyor := .off, margin := false }, evaluation := s.route.evaluation,
    pages := s.page.pages.map fun p => { p with current := none }, next := s.page.next, relay := s.relay }

/-- The zones' samples and the conditions that stand on them (R4–R6). -/
def State.samples (s : State) : List (Option Int × Option Int × Nat × Bool) :=
  zoneNos.map fun z => (s.heat.zones[z].temp, s.heat.zones[z].probe, s.heat.zones[z].age, s.heat.zones[z].isOver)

/-- The commands that write the settings, straps and tables: the release of reset and the writes of R1, R23, R132, R140,
R141, R157, R172 and R183. -/
def writesSettings : Instr → Bool
  | .resetReleased _ | .configure _ | .zoneSet _ | .programWrite _ | .ruleWrite _ | .groupWrite _ | .duty _
  | .coverageWrite _ | .alertMask _ => true
  | _ => false

/-! ### Allotments -/

/-- R12, R13: shares that one sweep tops up to a total, in closed form: a share below its cap takes one unit if the shares below
their caps before it are fewer than the units to give. -/
def sweptOver (total : Nat) (shares caps : List Nat) : List Nat :=
  let pairs := shares.zip caps
  pairs.zipIdx.map fun x =>
    if x.1.1 < x.1.2 ∧ ((pairs.take x.2).filter fun y => y.1 < y.2).length < total - shares.sum then x.1.1 + 1 else x.1.1

/-- R2, R16: since `s`, the zone has left the output window: its output is off, and its plan is cut to the plan steps begun, the
step in progress included. -/
def State.hasLeft (t s : State) (z : ZoneNo) : Prop :=
  t.heat.zones[z].on = false ∧ t.heat.zones[z].plan = s.heat.zones[z].plan.filter (· ≤ t.heat.step)

/-! ### Ware return and duty -/

/-- R114: the state the conveyor takes out of FAULT for the inputs as they stand, written from the rule: OFF where the ware block is
not active or not enabled, RUNNING where every run condition holds, WAITING otherwise. -/
def State.conveyorFor (s : State) : Conveyor :=
  let hotEnough (z : ZoneNo) (least : Nat) : Bool :=
    s.heat.zones[z].age < 6 && (s.heat.zones[z].temp.map fun x => decide ((least : Int) ≤ x)).getD false
  let least := if s.ware.conveyor ≠ .running ∧ s.ware.margin = true then s.ware.sanMin + 2 else s.ware.sanMin
  if !(s.isConveyor && s.port.configured && s.bus.link != .left) || !s.ware.enable then .off
  else if s.oe && (s.bus.link == .joined || s.bus.link == .alone) && hotEnough s.ware.rinseZone least &&
    hotEnough s.ware.washZone s.ware.washMin then .running
  else .waiting

/-- R114, R115: after a change of the conveyor's inputs from `s`, the conveyor of `t` is in FAULT as it was, or stands as R114 gives
for the inputs of `t`; leaving RUNNING sets the restart margin flag and entering it clears it. -/
def State.conveyorStands (t s : State) : Prop :=
  if s.ware.conveyor = .fault then t.ware.conveyor = .fault ∧ t.ware.margin = s.ware.margin
  else
    t.ware.conveyor = { t with ware := { t.ware with conveyor := s.ware.conveyor, margin := s.ware.margin } }.conveyorFor ∧
      t.ware.margin =
        (if t.ware.conveyor = .running then false else if s.ware.conveyor = .running then true else s.ware.margin)

/-- R120: the backlog level of `t`, evaluated again after a change from `s`. -/
def State.levelStands (t s : State) : Prop :=
  t.ware.levelHigh = if s.ware.levelHigh then !decide (t.backlog ≤ s.ware.low) else decide (s.ware.high ≤ t.backlog)

/-- R118: after an anomaly the conveyor is in FAULT, with the sub-cause given unless it was in FAULT before; a move from RUNNING sets
the restart margin flag. -/
def State.faultedBy (t : State) (c : SubCause) (s : State) : Prop :=
  t.ware.conveyor = .fault ∧
    if s.ware.conveyor = .fault then t.ware.subCause = s.ware.subCause ∧ t.ware.margin = s.ware.margin
    else t.ware.subCause = some c ∧ t.ware.margin = (s.ware.conveyor == .running || s.ware.margin)

/-- R141, R146: since `s`, the page `p` of a group whose duty flag has been set or cleared has become `q`. On duty, a WAITING page is
QUEUED, its notice being that of its offering or none; off duty, a QUEUED page below priority 7 is WAITING with no current
notice; and any other page stands, as does any page of another group (its current notice being a PAGE, as a page's is). -/
def Page.movedFor (p q : Page) (s : State) (g : GroupNo) (onDuty : Bool) : Prop :=
  if p.group = g ∧ onDuty = true ∧ p.state = .waiting then
    q = { p with state := .queued, timer := 0, current := q.current }
  else if p.group = g ∧ onDuty = false ∧ p.state = .queued ∧ p.priority < 7 then
    q = { p with state := .waiting, current := none }
  else
    q = { p with current := q.current } ∧
      ((∀ e ∈ s.bus.queue, p.current = some e.id → e.body.txClass = .b) → q = p)

/-- R141: since `s`, every page has moved as the duty flag of the group in `t` has it. -/
def State.dutyFollowed (t s : State) (g : GroupNo) : Prop :=
  List.Forall₂ (fun p q => p.movedFor q s g t.page.groups[g].onDuty) s.page.pages t.page.pages

/-! ### Holds -/

/-- R95: the record after a hold request of some quanta from a station: its hold and origin, and the state that follows from the
state it had. -/
def CourseRec.holds (r : CourseRec) (quanta : Nat) (origin : Station) (old : CourseRec) : Prop :=
  r.hold = quanta * 4 ∧ r.origin = (if quanta = 0 then none else some origin) ∧
    (old.state = .opened → r.state = .opened) ∧
    (old.state.isFired = true → (0 < quanta → r.state = .held) ∧ (quanta = 0 → r.state ≠ .held ∧ r.state ≠ .opened))

/-- R95: what a request for a hold of some quanta on the record `r` of `s` has reported in `t`: above 0 quanta a FIRED or READY record
enters HELD, with its report of the course, the origin and the hold; an OPEN or a HELD one takes the hold with no report. -/
def State.reportsHeld (t s : State) (r : CourseRec) (quanta : Nat) (origin : Station) : Prop :=
  (0 < quanta → r.state = .fired ∨ r.state = .ready → t.port.mailbox =
      s.port.mailbox.put s.course.clock (.courseHeld r.course (some origin) (quanta * 4))) ∧
    (r.state = .opened ∨ (0 < quanta ∧ r.state = .held) → t.port.mailbox = s.port.mailbox)

/-! ### Notices -/

/-- R90, R189: the COURSE notice that tells, without the fire flag, of a record that is not RELEASED: the own entry's member state
and warm plates where the station has one, else PASS or WITHDRAWN with none; and at a PASS station the plates needed. -/
def State.tells (s : State) (r : CourseRec) : Body :=
  let own : Option Member := r.members.find? (·.station == s.own)
  .course (u8 r.course)
    (match own with
      | some m => match m.standing with | .armed => 1 | .firing => 2 | .late => 3 | .ready => 4 | .fault => 5
      | none => if s.isPass then 7 else 6)
    false 0 (if s.isPass then some (BitVec.ofNat 16 r.plates) else none) (own.map fun m => BitVec.ofNat 16 m.warm)

/-- The command by which a notice is heard. -/
def Notice.heardAs (n : Notice) : Instr :=
  match n.body with
  | .leave => .leaveHeard n.sender n.seq
  | .hold c q => .holdHeard n.sender n.seq c q
  | .answer o num a p r => .answerHeard n.sender n.seq o num a p r
  | .page num a g p m c => .pageHeard n.sender n.seq num a g p m c
  | .course c m fire spare plates warm => .courseHeard n.sender n.seq c m fire spare plates warm
  | .ware l b c => .wareHeard n.sender n.seq l b c
  | .load q f w d l => .loadHeard n.sender n.seq q f w d l

/-- The receiver takes the notice: it is on, the notice's start mark appeared while it was on, the station is not itself sending,
and the notice is no repeat (R75, R76). -/
def State.takesNotice (s : State) (n : Notice) : Prop :=
  s.inReset = false ∧ s.bus.link.hears = true ∧ s.bus.startMissed = false ∧ s.bus.access ≠ .sending ∧ s.isRepeat n = false

/-- A notice is counted and recorded (R76, R77). -/
def State.counted (s : State) (n : Notice) : State := bump .noticesHeard (recordNotice n s)

/-- A counter as it stands. -/
def State.counter (s : State) (k : CounterName) : Counter := s.port.counters[k.index]

/-! ### Events raised -/

/-- R128: since `s`, exactly the events given have joined the queue, in that order, where it had room for them all; in LEAVING and
LEFT none has. -/
def State.queues (t s : State) (es : List Event) : Prop :=
  (s.bus.link.takesEvents = false → t.route.events = s.route.events) ∧
    (s.bus.link.takesEvents = true → s.route.events.length + es.length ≤ 16 → t.route.events = s.route.events ++ es)

/-- R128: since `s`, the events given have joined the queue first, in that order, and others may have joined after them, unless the
queue has filled. -/
def State.queuesFirst (t s : State) (es : List Event) : Prop :=
  s.bus.link.takesEvents = true → (s.route.events ++ es) <+: t.route.events ∨ 16 ≤ t.route.events.length

/-- R128: the event given has joined the queue of `t` last, unless the queue has filled. -/
def State.queuedLast (t s : State) (e : Event) : Prop :=
  s.bus.link.takesEvents = true → t.route.events.getLast? = some e ∨ 16 ≤ t.route.events.length

/-- R7, R127: the events of the runs active in `s` whose zones, among those given, are over or stale in `t`. -/
def State.faultEvents (t s : State) (zs : List ZoneNo) : List Event :=
  (zs.filter fun z => s.prog.runs[z].state.active && (t.heat.zones[z].isOver || 6 ≤ t.heat.zones[z].age)).map fun z =>
    { kind := if t.heat.zones[z].isOver then .zoneOver else .zoneStale, course := s.prog.runs[z].course, zone := some z,
      station := none, value := BitVec.ofInt 16 (t.heat.zones[z].temp.getD (-32768)) }

/-- R115, R127: the CONVEYOR_STOP of a move from RUNNING in `s` to WAITING in `t` with a rack in the queue: the rinse zone where the
rinse condition has failed, else the wash zone where only the wash condition has, else no zone. -/
def State.stopEvents (t s : State) : List Event :=
  let hotEnough (z : ZoneNo) (least : Nat) : Bool :=
    t.heat.zones[z].age < 6 && (t.heat.zones[z].temp.map fun x => decide ((least : Int) ≤ x)).getD false
  if s.ware.conveyor = .running ∧ t.ware.conveyor = .waiting ∧ s.ware.racks ≠ [] then
    [{ kind := .conveyorStop, course := 0, station := none, value := BitVec.ofNat 16 s.ware.racks.length,
       zone :=
        if !hotEnough s.ware.rinseZone s.ware.sanMin then some s.ware.rinseZone
        else if t.oe && (t.bus.link == .joined || t.bus.link == .alone) then some s.ware.washZone
        else none }]
  else []

/-- R118, R127: the CONVEYOR_FAULT of a conveyor that was not in FAULT. -/
def State.anomalyEvents (s : State) (c : SubCause) : List Event :=
  if s.ware.conveyor = .fault then []
  else
    [{ kind := .conveyorFault, course := 0, zone := none, station := none,
       value := match c with | .rackLost => 1 | .sensor => 2 | .untracked => 3 | .dwell => 4 }]

/-- R120, R127: the BACKLOG_HIGH of a level that has turned HIGH. -/
def State.highEvents (t s : State) : List Event :=
  if t.ware.levelHigh = true ∧ s.ware.levelHigh = false then
    [{ kind := .backlogHigh, course := 0, zone := none, station := none, value := BitVec.ofNat 16 t.backlog }]
  else []

/-! ### Courses fired and ready -/

/-- R84: what is left once a schedule entry has fired: the state of its FIRE without a result; where FIRE is refused the entry is
spent, BOARD_MISS rising where the board had no room. -/
def State.afterFire (s : State) (e : SchedEntry) : State :=
  match exec (.fire [u8 e.course]) s with
  | .next t =>
    if t.port.lastResult = .boardFull then bump .boardMiss s
    else { t with port := { t.port with lastResult := s.port.lastResult, dataOut := s.port.dataOut } }
  | _ => s

/-- R98: what makes a fired course ready: no hold, at least one member entry, every one READY, and the warm plates of all of them
together at least the plates needed, where any are. -/
def CourseRec.meetsReady (r : CourseRec) : Prop :=
  r.hold = 0 ∧ r.members ≠ [] ∧ (∀ m ∈ r.members, m.standing = .ready) ∧
    (r.plates = 0 ∨ r.plates ≤ (r.members.map (·.warm)).sum)

/-- R98: the readiness of a record has been evaluated: it is READY, and not FIRED, where the course is ready. -/
def CourseRec.settled (r : CourseRec) : Prop := (r.state = .fired → ¬ r.meetsReady) ∧ (r.state = .ready → r.meetsReady)

/-- R37: a zone is within plate tolerance: not stale, and its latest temperature within 5 °C of the setpoint of its active run's
stage. -/
def State.isNear (s : State) (z : ZoneNo) : Bool :=
  let r := s.prog.runs[z]
  (r.state == .heating || r.state == .cooking || r.state == .holding) && s.heat.zones[z].age < 6 &&
    ((r.body.stages[r.stage]?.bind fun st => s.heat.zones[z].temp.map fun x =>
      decide (st.setpoint - 5 ≤ x ∧ x ≤ st.setpoint + 5)).getD false)

/-- R29, R30: a HEAT or PROBE stage has ended by the samples given: the temperature at or above its setpoint less 2 °C, or the probe
temperature at or above its target. -/
def Stage.reached (st : Stage) (temp probe : Option Int) : Bool :=
  (st.kind == .heat && (temp.map fun x => decide (st.setpoint - 2 ≤ x)).getD false) ||
    (st.kind == .probe && (probe.map fun x => decide (st.param ≤ x)).getD false)

/-- R29: a fired run has entered its program: it is active, or has faulted at once, or its course has been released. -/
def RunState.entered (r : RunState) : Prop := r.active = true ∨ r = .fault ∨ r = .done

/-! ### The radio relay -/

/-- R159, R160: the relay list after a covered page is offered to it: refused behind a later attempt of the page or its own attempt in
flight, in place of the page's WAITING record, last in arrival order while there is room, and at a full list in place of the
WAITING record of lowest priority, the latest of those, where its own priority is higher. -/
def offeredTo (l : List RelayRec) (r : RelayRec) (after : List RelayRec) : Prop :=
  let same := fun x : RelayRec => x.key.origin == r.key.origin && x.key.number == r.key.number
  if l.any (fun x => same x && r.key.attempt < x.key.attempt) then after = l
  else if l.any (fun x => x.key == r.key && x.inFlight) then after = l
  else if l.any (fun x => same x && !x.inFlight) then
    ∀ l1 x l2, l = l1 ++ x :: l2 → same x = true → x.inFlight = false → after = l1 ++ r :: l2
  else if l.length < 8 then after = l ++ [r]
  else
    (∀ l1 x l2, l = l1 ++ x :: l2 → x.inFlight = false → x.priority < r.priority →
      (∀ y ∈ l1, y.inFlight = false → x.priority ≤ y.priority) →
      (∀ y ∈ l2, y.inFlight = false → x.priority < y.priority) → after = l1 ++ l2 ++ [r]) ∧
    ((∀ x ∈ l, x.inFlight = false → r.priority ≤ x.priority) → after = l)

/-- R158, R161: an active relay with its exchange IDLE sends at once the first WAITING record, in order of priority and then of
arrival: it is IN FLIGHT, the exchange is FIRST, the transmission key is its own, and its TRANSMIT is on the link. With none
WAITING, or an exchange in progress, the relay stands. -/
def Relay.sends (before after : Relay) : Prop :=
  if before.exchange = .idle then
    ((∀ x ∈ before.list, x.inFlight = true) → after = before) ∧
    ∀ l1 x l2, before.list = l1 ++ x :: l2 → x.inFlight = false →
      (∀ y ∈ l1, y.inFlight = false → y.priority < x.priority) →
      (∀ y ∈ l2, y.inFlight = false → y.priority ≤ x.priority) →
      after = { before with
        list := l1 ++ { x with inFlight := true } :: l2, exchange := .first, key := some x.key, timerOn := false,
        transmit := transmitBytes x }
  else after = before

/-- R161: the relay once an exchange has ended: IDLE, with no transmission key and no timer, over the list given. -/
def Relay.freed (r : Relay) (l : List RelayRec) : Relay := { r with exchange := .idle, key := none, timerOn := false, list := l }

/-! ### Safe states -/

/-- R68: the transmit queue holds at most 12 notices with at most one waiting for each key, and at most one notice is in
transmission, only while the access machine is SENDING. The identities the model gives its entries are its own. -/
structure TxSafe (s : State) : Prop where
  room : s.bus.queue.length ≤ 12
  keys : ((s.bus.queue.filter (·.waiting)).filterMap (·.body.key)).Nodup
  line : (s.bus.queue.filter (·.onLine)).length ≤ 1
  sending : s.bus.access ≠ .sending → s.bus.queue.all (·.waiting) = true
  ids : (s.bus.queue.map (·.id)).Nodup
  fresh : ∀ e ∈ s.bus.queue, e.id < s.bus.nextId

/-- R55: the applied grant never exceeds the declared demand; JOINED, the usable limit; LISTEN or ALONE, the solo share; in
every other link state it is 0. The other lines are what keeps this so: the settings' ranges (R39) and what an unconfigured
station is (R61). -/
structure GrantSafe (s : State) : Prop where
  demand : s.load.applied ≤ s.declaredQ
  joined : s.bus.link = .joined → s.load.applied ≤ s.load.usable
  solo : s.bus.link = .listen ∨ s.bus.link = .alone → s.load.applied ≤ s.load.solo
  other : s.bus.link.heats = false → s.load.applied = 0
  settings : s.load.solo ≤ s.load.usable
  expiry : s.load.expiryGrant ≤ s.load.usable
  unconfigured : s.port.configured = false →
    (s.bus.link = .off ∨ s.bus.link = .monitor) ∧ s.load.expiryGrant = 0 ∧ s.bus.queue = []

/-- R85, R93: the course board: at most 4 records, no two of one course, each with its member entries in ascending station number,
and every member entry is the station itself or a station in its peer table. -/
structure BoardSafe (s : State) : Prop where
  room : s.course.board.length ≤ 4
  courses : (s.course.board.map (·.course)).Nodup
  order : ∀ r ∈ s.course.board, r.members.Pairwise fun a b => a.station < b.station
  members : ∀ r ∈ s.course.board, ∀ m ∈ r.members,
    m.station = s.own ∨ s.load.peers.any (·.station == m.station) = true

/-- R85, R95, R101: the ranges of a course record. Its release order, 0 the earliest, is below the number of RELEASED records
(so 0 to 3, the board holding at most 4) and no two have one; a record not yet RELEASED has no release time, release age or
release order; it has a hold origin just while it has a hold. Its creation order is its place on the board. The last three lines
are what keeps this so: the late quanta (R97) and the plate counts (R38) keep their own ranges, and a station of number 0 stays
in MONITOR, where it takes no part in a course (R60, R61). -/
structure RecordsSafe (s : State) : Prop where
  course : ∀ r ∈ s.course.board, r.course ≠ 0
  released : ∀ r ∈ s.course.board, r.state = .released →
    r.hold = 0 ∧ r.releaseTime.isSome = true ∧ r.releaseOrder.isSome = true
  unreleased : ∀ r ∈ s.course.board, r.state ≠ .released → r.releaseTime = none ∧ r.releaseAge = 0 ∧ r.releaseOrder = none
  held : ∀ r ∈ s.course.board, r.state = .held → 0 < r.hold
  hold : ∀ r ∈ s.course.board, r.hold ≤ 1020
  origin : ∀ r ∈ s.course.board, r.origin ≠ some 0 ∧ (r.origin = none ↔ r.hold = 0)
  plates : ∀ r ∈ s.course.board, r.plates ≤ 4000
  delay : ∀ r ∈ s.course.board, r.clearDelay ≤ 60
  repeats : ∀ r ∈ s.course.board, r.repeatCount ≤ 3
  time : ∀ r ∈ s.course.board, ∀ k, r.releaseTime = some k → k ≤ 86399
  age : ∀ r ∈ s.course.board, r.releaseAge ≤ 300
  order : ∀ r ∈ s.course.board, ∀ k, r.releaseOrder = some k → k < s.releasedCount
  orders : (s.course.board.filterMap (·.releaseOrder)).Nodup
  members : ∀ r ∈ s.course.board, ∀ m ∈ r.members, m.station ≠ 0 ∧ m.warm ≤ 4000
  quanta : s.course.lateQuanta ≤ 255
  counts : ∀ c : CourseNo, s.prog.plates[c] ≤ 4000
  monitor : s.own = 0 →
    s.bus.link = .monitor ∧ s.bus.queue = [] ∧ ∀ z : ZoneNo, s.prog.runs[z].state = .idle

/-- R15, R16, R20: a heater output is on only at a step of the zone's plan, while the zone's run is active, its samples are fresh
and it is not over, OE is high and the link is LISTEN, JOINED or ALONE. -/
def HeatSafe (s : State) : Prop :=
  ∀ z : ZoneNo, s.heaterOut z = true →
    s.heat.step ∈ s.heat.zones[z].plan ∧ s.prog.runs[z].state.active = true ∧ s.heat.zones[z].stale = false ∧
      s.heat.zones[z].isOver = false ∧ s.oe = true ∧ s.bus.link.heats = true

/-- R114: the conveyor is RUNNING only while the ware block is active and enabled, OE is high, the link is JOINED or ALONE,
and the rinse and wash zones' samples are fresh and hot enough. -/
def ConveyorSafe (s : State) : Prop :=
  s.inReset = false → s.ware.conveyor = .running →
    s.wareActive = true ∧ s.ware.enable = true ∧ s.oe = true ∧ s.bus.link.sends = true ∧
      s.heat.zones[s.ware.rinseZone].freshAtLeast s.ware.sanMin = true ∧
      s.heat.zones[s.ware.washZone].freshAtLeast s.ware.washMin = true

/-- R108, R111: the rack queue holds at most 24 racks with consecutive numbers that end before the next sequence, the RINSED
before the LOADED, and a CLEAN rack's temperature is at least the sanitize minimum; an unconfigured station has no racks and its
conveyor is OFF (R107, R114). -/
structure RacksSafe (s : State) : Prop where
  room : s.ware.racks.length ≤ 24
  next : s.ware.nextSeq < 65536
  numbers : s.ware.racks.map (·.seq) =
    (List.range s.ware.racks.length).map fun i => (s.ware.nextSeq + 65536 - s.ware.racks.length + i) % 65536
  order : s.ware.racks.Pairwise fun a b => b.rinsed = true → a.rinsed = true
  clean : ∀ r ∈ s.ware.racks, r.result = some .clean → ∃ t, r.temp = some t ∧ (s.ware.sanMin : Int) ≤ t
  configured : s.port.configured = false → s.ware.racks = [] ∧ s.ware.conveyor = .off ∧ s.ware.enable = false

/-- R174, R175, R178: the report mailbox: at most one bank FILLING and at most one READ, a FULL bank holds 8 reports and stands
once in the FULL order, an EMPTY one none, and a FILLING one fewer than 8. -/
structure MailboxSafe (m : Mailbox) : Prop where
  filling : m.bank0.state ≠ .filling ∨ m.bank1.state ≠ .filling
  reading : m.bank0.state ≠ .read ∨ m.bank1.state ≠ .read
  size : ∀ i, (m.bank i).reports.length ≤ 8
  full : ∀ i, (m.bank i).state = .full → (m.bank i).reports.length = 8
  notFull : ∀ i, (m.bank i).state = .filling → (m.bank i).reports.length < 8
  empty : ∀ i, (m.bank i).state = .empty → (m.bank i).reports = []
  order : ∀ i, i ∈ m.fullOrder ↔ (m.bank i).state = .full
  once : m.fullOrder.Nodup

/-- R132: a rule that accepts asks for a priority of 1 to 7. -/
def Rule.inRange (r : Rule) : Bool := r.type != .test || r.reject || (1 ≤ r.priority && r.priority ≤ 7)

/-- R142, R143: the page queue: at most 16 pages with distinct numbers 1 to 255, never two with the same group, message code
and course, no attempt above 2 and every priority 1 to 7, which the rules of the table and of the evaluation ask for too
(R132). -/
structure PagesSafe (s : State) : Prop where
  room : s.page.pages.length ≤ 16
  numbers : (s.page.pages.map (·.number)).Nodup
  range : ∀ p ∈ s.page.pages, 1 ≤ p.number ∧ p.number ≤ 255
  next : 1 ≤ s.page.next ∧ s.page.next ≤ 255
  calls : (s.page.pages.map fun p => (p.group, p.code, p.course)).Nodup
  attempts : ∀ p ∈ s.page.pages, p.attempt ≤ 2
  priorities : ∀ p ∈ s.page.pages, 1 ≤ p.priority ∧ p.priority ≤ 7
  rules : s.route.rules.toList.all Rule.inRange = true
  taken : s.route.evaluation.all (fun e => e.rules.toList.all Rule.inRange) = true

/-- R158, R159, R161: the relay list: at most 8 records, no two with one key, at most one WAITING for each page, at most one IN
FLIGHT and that only during an exchange, every priority 1 to 7; and an inactive relay holds nothing. -/
structure RelaySafe (s : State) : Prop where
  room : s.relay.list.length ≤ 8
  keys : (s.relay.list.map (·.key)).Nodup
  pages : ((s.relay.list.filter (!·.inFlight)).map fun r => (r.key.origin, r.key.number)).Nodup
  flight : (s.relay.list.filter (·.inFlight)).length ≤ 1
  idle : s.relay.exchange = .idle → s.relay.list.all (!·.inFlight) = true ∧ s.relay.key = none
  inactive : s.relayActive = false → s.relay.list = [] ∧ s.relay.exchange = .idle
  priorities : ∀ r ∈ s.relay.list, 1 ≤ r.priority ∧ r.priority ≤ 7

/-- The bounds, orders and ranges of the other tables: the event queue (R128), the fire schedule (R83), the clearing list (R102), the
peer table (R40), the wash view (R122), the clock (R81), the step (R14) and the sample ages (R5). -/
structure TablesSafe (s : State) : Prop where
  events : s.route.events.length ≤ 16
  schedule : s.course.schedule.length ≤ 8
  entries : ∀ e ∈ s.course.schedule, e.course ≠ 0 ∧ e.time ≤ 86399
  clearing : s.course.clearing.length ≤ 4 ∧ (s.course.clearing.map (·.course)).Nodup
  peers : s.load.peers.length ≤ 30
  peerOrder : s.load.peers.Pairwise fun a b => a.station < b.station
  peerOthers : ∀ p ∈ s.load.peers, p.station ≠ 0 ∧ p.station ≠ s.own
  peerRanges : ∀ p ∈ s.load.peers, p.q ≤ 2040 ∧ p.f ≤ p.q ∧ 1 ≤ p.w ∧ p.w ≤ 15 ∧ p.missed ≤ 2
  peerFigures : ∀ p ∈ s.load.peers, p.d ≤ 2040 ∧ 10 ≤ p.l ∧ p.l ≤ 6000 ∧ p.grant ≤ 6000
  wash : s.ware.wash.length ≤ 4
  washOrder : s.ware.wash.Pairwise fun a b => a.station < b.station
  washOthers : ∀ e ∈ s.ware.wash, e.station ≠ 0 ∧ e.station ≠ s.own
  washRanges : ∀ e ∈ s.ware.wash, e.backlog ≤ 999 ∧ e.age < 30
  clock : s.course.clock ≤ 86399
  step : s.heat.step < 20
  ages : ∀ z : ZoneNo, s.heat.zones[z].age ≤ 6

end Sys2Proof.Machine
end

