-- ==== Sys2Proof/WellFormed.lean ====
section
/-! DEFINITION. Which terms of `Instr` are commands the part can meet. The operands' types keep most ill-formed terms out;
what is left is checked here. -/

namespace Sys2Proof

/-- `true` for a command the part can meet: UNKNOWN carries a code outside the command list (R167, R190), and an event
about a course, a peer or a page names a number that a course (1–15, R85), a peer (1–31, R40) or a page (1–255, R142)
can have. -/
def Instr.wellFormed : Instr → Bool
  | .unknown code _ => code.toNat == 0 || 36 < code.toNat
  | .holdExpiry c | .releaseAgeExpiry c | .clearCall c | .courseRepeat c => c != 0
  | .peerAgedOut st | .washViewAgeOut st => st != 0
  | .pageTimeout n | .deferralLimit n => n != 0
  | _ => true

end Sys2Proof
end

