-- ==== Sys2Proof/Certificates/Slice0/Obligations.lean ====
section
/-! DEFINITION. The statements for the provers, by blocks: the machine as a whole, the formats of the wire, the conditions that
every step keeps, and then the commands block by block. A statement that a command has an effect says what its next state holds,
and its frame: `settings` are the settings, straps and tables, and `answerFrame` is the end of a frame with its status byte, its
read data and its last result. -/

open Sys2Proof Sys2Proof.Machine

/-! ### The machine as a whole -/

/-- A step runs the command at the front of the queue with the queue's rest. With no command waiting (the model's choice,
assumption log 2) a millisecond passes, out of reset: every repeat record is one older, with nothing else of it changed, and
the wait time of the head of the transmit queue, while the access machine is in GAP, DEFERRED or BACKOFF, is 1 ms longer, with
nothing else of the queue changed; where that brings it to 500 ms, the step is DEFER_DROP's (R74). -/
def Obligations.StepTakesFront : Prop :=
  (∀ (c : Instr) (s : State), step { s with pending := c :: s.pending } = exec c s) ∧
  ∀ s : State, s.pending = [] →
    let aged : State := { s with bus := { s.bus with
      repeats := Vector.ofFn fun st => s.bus.repeats[st].map fun r => { r with idleMs := min 1001 (r.idleMs + 1) } } }
    (s.inReset = true → step s = .next s) ∧
    (s.inReset = false →
      ((s.bus.access.waits = false ∨ headOf s.bus.queue = none) → step s = .next aged) ∧
      ∀ h, s.bus.access.waits = true → headOf s.bus.queue = some h →
        (499 ≤ h.waitMs → step s = exec .deferDrop aged) ∧
        (h.waitMs < 499 → TxSafe s → ∀ l1 l2, s.bus.queue = l1 ++ h :: l2 →
          step s = .next { aged with bus := { aged.bus with queue := l1 ++ { h with waitMs := h.waitMs + 1 } :: l2 } }))

/-- R173: RESET_ASSERTED makes reset hold and ends a frame in progress with no effect. While it holds, the heater outputs and
the conveyor run output are off, the sanitize output is low and the alert output high, and no command but the release of
reset, a change of the OE input and the line's own level has any effect. That the levels of the OE input and of the line are
followed while reset holds, a line that turns busy being one whose start mark is missed (R75), is the model's choice
(assumption log 13). -/
def Obligations.HeldInReset : Prop :=
  (∀ s : State, ∃ t, exec .resetAsserted s = .next t ∧
    t = { s with inReset := true, port := { s.port with dataOut := [] } }) ∧
  ∀ s : State, s.inReset = true →
    (∀ z, s.heaterOut z = false) ∧ s.conveyorOut = false ∧ s.sanitizeOut = false ∧ s.alertLow = false ∧
    (∀ high, exec (.oeInterlockChange high) s = .next { s with oe := high }) ∧
    exec .lineIdle s = .next { s with bus := { s.bus with lineBusy := false, startMissed := false } } ∧
    exec .lineBusy s = .next { s with bus := { s.bus with lineBusy := true, startMissed := true } } ∧
    ∀ c, (∀ straps, c ≠ .resetReleased straps) → (∀ high, c ≠ .oeInterlockChange high) → c ≠ .resetAsserted →
      c ≠ .lineIdle → c ≠ .lineBusy → exec c s = .next s

/-- R171, R173: at the release of reset the straps are sampled and every block takes its reset values (R21, R25, R38, R58,
R80, R105, R125, R132, R139, R140, R156, R165, R184, R187, R188); the link state is MONITOR at station number 0 and OFF at
every other (R60). The commands waiting and the OE input stand, and a notice then on the line, its start mark missed, is not
taken later (R75). Those last three are the model's choice (assumption log 13). -/
def Obligations.ResetReleased : Prop :=
  ∀ (straps : Straps) (s : State), ∃ t, exec (.resetReleased straps) s = .next t ∧
    t.pending = s.pending ∧ t.oe = s.oe ∧ t.inReset = false ∧
    t.port.straps = straps ∧ t.port.configured = false ∧ t.port.lastResult = .ok ∧
    t.port.latched = 0 ∧ t.port.mask = 0xffff ∧ (∀ i : Fin 14, t.port.counters[i] = { value := 0, carry := false }) ∧
    t.port.mailbox = { bank0 := ⟨.empty, []⟩, bank1 := ⟨.empty, []⟩, fullOrder := [], nextNumber := 0 } ∧
    (∀ z : ZoneNo, t.heat.zones[z] =
      { rating := 0, band := 1, limit := -40, floor := 0, probeFitted := false, temp := none, probe := none, age := 6,
        isOver := false, allot := 0, plan := [], on := false }) ∧
    t.heat.step = 0 ∧ t.heat.windowGrant = 0 ∧ t.heat.draw = 0 ∧
    (∀ n : Fin 16, t.prog.table[n] = none ∧ t.prog.plates[n] = 0) ∧
    (∀ z : ZoneNo, (t.prog.runs[z].state, t.prog.runs[z].program, t.prog.runs[z].course, t.prog.runs[z].stage) =
        (.idle, none, 0, 0) ∧
      (t.prog.runs[z].elapsed, t.prog.runs[z].late, t.prog.runs[z].holdElapsed, t.prog.runs[z].holdOver) =
        (0, false, 0, false)) ∧
    (t.load.limit, t.load.reserve, t.load.weight, t.load.ramp, t.load.solo, t.load.safe) = (0, 0, 0, 0, 0, false) ∧
    (t.load.peers, t.load.grant, t.load.applied, t.load.listenCount) = ([], 0, 0, 0) ∧
    (t.load.clash, t.load.clashHeard, t.load.mismatch, t.load.curtailCount, t.load.curtailed) =
      (false, false, false, 0, false) ∧
    t.bus.link = (if straps.number = 0 then .monitor else .off) ∧
    (t.bus.queue, t.bus.access, t.bus.seq) = ([], .empty, 0) ∧ (∀ st : Station, t.bus.repeats[st] = none) ∧
    t.bus.startMissed = (s.bus.startMissed || s.bus.lineBusy) ∧
    (t.course.clock, t.course.schedule, t.course.board, t.course.clearing, t.course.lateQuanta) = (0, [], [], [], 0) ∧
    (t.ware.washZone, t.ware.rinseZone, t.ware.sanMin, t.ware.washMin, t.ware.maxDwell, t.ware.high, t.ware.low) =
      (0, 0, 0, 0, 0, 0, 0) ∧
    (t.ware.enable, t.ware.waiting, t.ware.racks, t.ware.nextSeq, t.ware.wash) = (false, 0, [], 0, []) ∧
    (t.ware.conveyor, t.ware.subCause, t.ware.margin, t.ware.heldLow, t.ware.levelHigh, t.ware.repeatCount) =
      (.off, none, false, false, false, 0) ∧
    (∀ i : Fin 32, t.route.rules[i] =
      { type := .empty, property := .kind, compare := .eq, value := 0, andFlag := false, reject := false, group := 0,
        priority := 0, defer := false }) ∧
    t.route.events = [] ∧ t.route.evaluation = none ∧
    (∀ g : GroupNo, t.page.groups[g] = { escalation := g, onDuty := true }) ∧ t.page.pages = [] ∧ t.page.next = 1 ∧
    (∀ i : Fin 4, t.relay.pairs[i] = { base := 0, mask := 0, valid := false }) ∧
    (t.relay.list, t.relay.exchange, t.relay.key, t.relay.timerOn) = ([], .idle, none, false)

/-- Every command is taken in every state with a next state, and keeps the queue of waiting commands; only reset moves the
reset line and the straps, and only the OE input's own change moves it; a command that is no frame and no reset leaves the
last result and data out (R167). -/
def Obligations.EveryCommandCompletes : Prop :=
  ∀ (c : Instr) (s : State), ∃ t, exec c s = .next t ∧
    t.pending = s.pending ∧
    ((∀ straps, c ≠ .resetReleased straps) → t.port.straps = s.port.straps) ∧
    ((∀ straps, c ≠ .resetReleased straps) → c ≠ .resetAsserted → t.inReset = s.inReset) ∧
    ((∀ high, c ≠ .oeInterlockChange high) → t.oe = s.oe) ∧
    (frameForm c = none → (∀ code p, c ≠ .unknown code p) → (∀ straps, c ≠ .resetReleased straps) → c ≠ .resetAsserted →
      t.port.lastResult = s.port.lastResult ∧ t.port.dataOut = s.port.dataOut)

/-- Only reset, CONFIGURE, ZONE SET, PROGRAM WRITE, RULE WRITE, GROUP WRITE, DUTY, COVERAGE WRITE and ALERT MASK write the
settings, the straps and the tables. -/
def Obligations.SettingsKept : Prop :=
  ∀ (c : Instr) (s t : State), writesSettings c = false → exec c s = .next t → t.settings = s.settings

/-- R170: at an unconfigured station every command that is not taken before CONFIGURE is refused NOT_CONFIGURED and has no
effect; a frame of the wrong length gives FRAME whether or not the station is configured, and comes first; at a configured
station no frame gives NOT_CONFIGURED. -/
def Obligations.FrameRefusals : Prop :=
  ∀ (c : Instr) (f : FrameForm) (s : State), frameForm c = some f → s.inReset = false →
    (s.lengthFits f c = false → exec c s = .next (s.refusedWith .frame)) ∧
    (s.lengthFits f c = true → f.before = false → s.port.configured = false →
      exec c s = .next (s.refusedWith .notConfigured)) ∧
    (s.port.configured = true → ∃ t, exec c s = .next t ∧ t.port.lastResult ≠ .notConfigured)

/-! ### The formats of the wire -/

/-- R75, R189: the receiver accepts exactly the bytes a notice is sent as, and reads from them that notice and no other:
every field at every value a byte holds, the header and the check. -/
def Obligations.NoticesAreRead : Prop :=
  ∀ (bytes : List Byte) (n : Notice), receive bytes = .good n ↔ bytes = n.bytes

/-- R190: the frame of every host command carries its code byte and then its parameters, and spells that command and no
other. -/
def Obligations.FramesAreRead : Prop :=
  ∀ (bytes : List Byte) (i : Instr), decodeFrame bytes = some i ↔ (frameBytes i = some bytes ∧ i.wellFormed = true)

/-! ### What every step keeps -/

/-- R68: the transmit queue holds at most 12 notices, with at most one waiting notice for each supersede key, and at most one
notice is in transmission. -/
def Obligations.TransmitQueueKept : Prop := ∀ s t : State, TxSafe s → step s = .next t → TxSafe t

/-- R55: the applied grant never exceeds the declared demand; JOINED it never exceeds U, LISTEN or ALONE the solo share S; in
OFF, MONITOR, LEAVING and LEFT it is 0. -/
def Obligations.AppliedGrantKept : Prop := ∀ s t : State, GrantSafe s → step s = .next t → GrantSafe t

/-- R85, R93: the board holds at most 4 records, no two of one course, its member entries in ascending station number, and
every member entry is the station itself or a station in its peer table. -/
def Obligations.BoardKept : Prop := ∀ s t : State, BoardSafe s → step s = .next t → BoardSafe t

/-- R85, R95, R101: a RELEASED record has no hold, a HELD one has a hold remaining, and a record has a hold origin just
while it has a hold; a record has a release time and a release order once it is RELEASED and not before, no two the same order;
and every record keeps the ranges of R85: its course number 1 to 15, plates needed to 4,000, clear delay to 60, hold remaining
to 1,020, hold origin 1 to 31, release time to 86,399, release age to 300, repeat count to 3, release order to 3, and its
members' station numbers 1 to 31 and warm plates to 4,000. -/
def Obligations.RecordsKept : Prop :=
  ∀ s t : State, BoardSafe s → TablesSafe s → RecordsSafe s → step s = .next t → RecordsSafe t

/-- R114: the conveyor is RUNNING only while every run condition holds. R15, R16, R20: a heater output is on only at a step of
its zone's plan, while the zone's run is active, its samples are fresh and it is not over, OE is high and the link is LISTEN,
JOINED or ALONE. -/
def Obligations.ConveyorKept : Prop :=
  (∀ s t : State, ConveyorSafe s → step s = .next t → ConveyorSafe t) ∧
  ∀ s t : State, HeatSafe s → step s = .next t → HeatSafe t

/-- R108, R111: the rack queue keeps its bound, its numbers and its order, and a CLEAN rack's temperature is at least the
sanitize minimum. -/
def Obligations.RacksKept : Prop := ∀ s t : State, RacksSafe s → step s = .next t → RacksSafe t

/-- R174, R175, R178: the mailbox holds at most 16 reports, and at most one bank is FILLING and at most one READ. -/
def Obligations.MailboxKept : Prop :=
  ∀ s t : State, MailboxSafe s.port.mailbox → step s = .next t → MailboxSafe t.port.mailbox

/-- R142, R143: the page queue holds at most 16 pages with distinct page numbers, never two with the same group, message code and
course, no attempt exceeds 2, and every priority, the rules' own among them (R132), is 1 to 7. -/
def Obligations.PagesKept : Prop := ∀ s t : State, PagesSafe s → step s = .next t → PagesSafe t

/-- R158, R159, R161: the relay list keeps its bound, holds no two records of one key, at most one WAITING record for each
page and at most one IN FLIGHT, every priority 1 to 7, beside a page queue that keeps its own (R146). -/
def Obligations.RelayKept : Prop := ∀ s t : State, PagesSafe s → RelaySafe s → step s = .next t → RelaySafe t

/-- The bounds, orders and ranges of the event queue (R128), the fire schedule (R83), the clearing list (R102), the peer table
with each peer's Q, F, W, D, L, missed count and computed grant (R40), the wash view with each backlog and age (R122), the clock
(R81), the step (R14) and the sample ages (R5). -/
def Obligations.TablesKept : Prop := ∀ s t : State, TablesSafe s → step s = .next t → TablesSafe t

/-- The state after reset, with any straps and either level of the OE input, meets every one of these conditions. -/
def Obligations.ResetMeetsAll : Prop :=
  ∀ (straps : Straps) (oe : Bool),
    let s := State.resetWith straps oe
    TxSafe s ∧ GrantSafe s ∧ BoardSafe s ∧ RecordsSafe s ∧ ConveyorSafe s ∧ HeatSafe s ∧ RacksSafe s ∧
      MailboxSafe s.port.mailbox ∧ PagesSafe s ∧ RelaySafe s ∧ TablesSafe s

/-! ### Operations that many commands share -/

/-- R66–R69: a block hands a notice. Outside JOINED and ALONE it is declined and nothing changes. Otherwise it takes the
place of the waiting notice with its key, with that notice's attempts and wait time; or it is appended where the queue holds
fewer than 12, an access machine that is EMPTY then going to DEFERRED on a busy line and to GAP on an idle one, with the class
gap of the head and 0 to 7 slots of 16 µs (R71); or, the queue being full, it displaces the latest waiting class C notice, or
failing that, for class A, the latest waiting class B notice, a page whose current notice that was keeping its state with none
(R146), or is refused, TXQ_DROP rising by 1. It carries the own number and the sender sequence, which then rises by 1. Each
draw is a free value (assumption log 4). -/
def Obligations.HandingNotice : Prop :=
  ∀ (b : Body) (s : State), TxSafe s →
    let q := s.bus.queue
    let new := s.newEntry b
    let t := hand b s
    (s.bus.link.sends = false → t = s) ∧
    (s.bus.link.sends = true →
      (∀ l1 old l2, q = l1 ++ old :: l2 → old.waiting = true → b.key.isSome = true → old.body.key = b.key →
        t = { s with bus := { s.bus with
          queue := l1 ++ { new with attempts := old.attempts, waitMs := old.waitMs } :: l2,
          seq := s.bus.seq + 1, nextId := s.bus.nextId + 1 } }) ∧
      ((∀ e ∈ q, e.waiting = true → b.key.isSome = true → e.body.key ≠ b.key) →
        (q.length < 12 →
          t.bus.queue = q ++ [new] ∧ t.bus.seq = s.bus.seq + 1 ∧
          t = { s with bus := { s.bus with queue := t.bus.queue, seq := t.bus.seq, nextId := t.bus.nextId,
                                           access := t.bus.access, gapUs := t.bus.gapUs, draws := t.bus.draws } } ∧
          (s.bus.access ≠ .empty → t.bus.access = s.bus.access ∧ t.bus.gapUs = s.bus.gapUs) ∧
          (s.bus.access = .empty → s.bus.lineBusy = true → t.bus.access = .deferred) ∧
          (s.bus.access = .empty → s.bus.lineBusy = false → t.bus.access = .gap ∧
            ∀ h, headOf (q ++ [new]) = some h →
              ∃ k, k < 8 ∧ t.bus.gapUs = (match h.body.txClass with | .a => 48 | .b => 96 | .c => 144) + 16 * k)) ∧
        (q.length = 12 →
          t.counter .txqDrop = (s.counter .txqDrop).bump ∧
          (∀ l1 v l2, q = l1 ++ v :: l2 → v.waiting = true →
            ((b.txClass ≠ .c ∧ v.body.txClass = .c ∧ ∀ e ∈ l2, e.waiting = true → e.body.txClass ≠ .c) ∨
              (b.txClass = .a ∧ v.body.txClass = .b ∧ (∀ e ∈ q, e.waiting = true → e.body.txClass ≠ .c) ∧
                ∀ e ∈ l2, e.waiting = true → e.body.txClass ≠ .b)) →
            t = { s with
              bus := { s.bus with queue := l1 ++ l2 ++ [new], seq := s.bus.seq + 1, nextId := s.bus.nextId + 1 }
              page := { s.page with
                pages := s.page.pages.map fun p => if p.current = some v.id then { p with current := none } else p }
              port := { s.port with counters := t.port.counters } }) ∧
          ((b.txClass = .c ∨ (b.txClass = .b ∧ ∀ e ∈ q, e.waiting = true → e.body.txClass ≠ .c) ∨
              (∀ e ∈ q, e.waiting = true → e.body.txClass = .a)) →
            t.bus = s.bus))))

/-- R128, R129: an event raised in LEAVING or LEFT does not join the queue and counts nothing. In any other link state it
joins at the tail of a queue of fewer than 16. At a full queue a critical event first removes the oldest non-critical event;
a critical event that finds all 16 critical, and any other event, is not queued; each event lost raises EVENTS_DROPPED by 1
and latches EVENT_DROP. Nothing else changes. -/
def Obligations.RaisingEvent : Prop :=
  ∀ (e : Event) (s : State), s.route.events.length ≤ 16 →
    let q := s.route.events
    let t := raise e s
    let lost : Port := { s.port with
      counters := s.port.counters.set 12 s.port.counters[12].bump, latched := s.port.latched ||| 0x1000 }
    ((s.bus.link = .leaving ∨ s.bus.link = .left) → t = s) ∧
    (s.bus.link ≠ .leaving → s.bus.link ≠ .left →
      (q.length < 16 → t = { s with route := { s.route with events := q ++ [e] } }) ∧
      (q.length = 16 →
        (∀ l1 x l2, e.kind.severity = 3 → q = l1 ++ x :: l2 → x.kind.severity ≠ 3 → (∀ y ∈ l1, y.kind.severity = 3) →
          t = { s with route := { s.route with events := l1 ++ l2 ++ [e] }, port := lost }) ∧
        ((e.kind.severity ≠ 3 ∨ ∀ y ∈ q, y.kind.severity = 3) → t = { s with port := lost })))

/-- R174, R175, R177, R178: a report made takes the next report number and the service clock; it goes after the reports of
the FILLING bank, an EMPTY bank (bank 0 first) becoming FILLING where none is, and a bank that it brings to 8 becomes FULL,
last in the FULL order, with the other bank, if EMPTY, FILLING; with both banks FULL or READ it is lost and MAILBOX_OVERRUN
is latched. READ REPORTS returns the READ bank, or the first FULL one, or the FILLING one where it holds a report, which
becomes READ, its data as far as the frame clocks bytes; FREE BANK makes the READ bank EMPTY. The layout of the report list
is as assumption log 17 gives. -/
def Obligations.ReportMailbox : Prop :=
  (∀ (b : ReportBody) (s : State), MailboxSafe s.port.mailbox →
    let m := s.port.mailbox
    let t := makeReport b s
    let r : Report := { number := m.nextNumber, clock := s.course.clock, body := b }
    t = { s with port := { s.port with mailbox := t.port.mailbox, latched := t.port.latched } } ∧
    t.port.mailbox.nextNumber = m.nextNumber + 1 ∧
    ((∀ i, (m.bank i).state = .full ∨ (m.bank i).state = .read) →
      t.port.mailbox = { m with nextNumber := m.nextNumber + 1 } ∧ t.port.latched = s.port.latched ||| 0x0040) ∧
    (∀ i, (m.bank i).state = .filling ∨
        ((m.bank i).state = .empty ∧ (m.bank (1 - i)).state ≠ .filling ∧ (i = 1 → (m.bank 0).state ≠ .empty)) →
      t.port.latched = s.port.latched ∧
      ((m.bank i).reports.length < 7 →
        t.port.mailbox.bank i = { state := .filling, reports := (m.bank i).reports ++ [r] } ∧
        t.port.mailbox.bank (1 - i) = m.bank (1 - i) ∧ t.port.mailbox.fullOrder = m.fullOrder) ∧
      ((m.bank i).reports.length = 7 →
        t.port.mailbox.bank i = { state := .full, reports := (m.bank i).reports ++ [r] } ∧
        t.port.mailbox.fullOrder = m.fullOrder ++ [i] ∧
        t.port.mailbox.bank (1 - i) =
          (if (m.bank (1 - i)).state = .empty then { state := .filling, reports := (m.bank (1 - i)).reports }
            else m.bank (1 - i))))) ∧
  (∀ (p : List Byte) (s : State), s.inReset = false → MailboxSafe s.port.mailbox →
    let m := s.port.mailbox
    ∃ t, exec (.readReports p) s = .next t ∧
      t.port.lastResult = .ok ∧
      t = { s with port := { s.port with
        mailbox := { t.port.mailbox with nextNumber := m.nextNumber }, lastResult := .ok, dataOut := t.port.dataOut } } ∧
      (∀ i, (m.bank i).state = .read →
        t.port.dataOut = s.statusByte :: (listBytes Report.bytes (m.bank i).reports).take p.length ∧ t.port.mailbox = m) ∧
      ((∀ i, (m.bank i).state ≠ .read) →
        (∀ i rest, m.fullOrder = i :: rest →
          t.port.dataOut = s.statusByte :: (listBytes Report.bytes (m.bank i).reports).take p.length ∧
          t.port.mailbox.bank i = { state := .read, reports := (m.bank i).reports } ∧
          t.port.mailbox.bank (1 - i) = m.bank (1 - i) ∧ t.port.mailbox.fullOrder = rest) ∧
        (m.fullOrder = [] →
          (∀ i, (m.bank i).state = .filling → (m.bank i).reports ≠ [] →
            t.port.dataOut = s.statusByte :: (listBytes Report.bytes (m.bank i).reports).take p.length ∧
            t.port.mailbox.bank i = { state := .read, reports := (m.bank i).reports } ∧
            t.port.mailbox.bank (1 - i) =
              (if (m.bank (1 - i)).state = .empty then { state := .filling, reports := (m.bank (1 - i)).reports }
                else m.bank (1 - i)) ∧
            t.port.mailbox.fullOrder = []) ∧
          ((∀ i, (m.bank i).state = .filling → (m.bank i).reports = []) →
            t.port.dataOut = s.statusByte :: [0].take p.length ∧ t.port.mailbox = m)))) ∧
  (∀ s : State, s.isUp → MailboxSafe s.port.mailbox →
    let m := s.port.mailbox
    (∀ i, (m.bank i).state = .read →
      ∃ t, exec (.freeBank []) s = .next t ∧
        t = answerFrame s.statusByte [] .ok { s with port := { s.port with mailbox := t.port.mailbox } } ∧
        t.port.mailbox.bank i = { state := .empty, reports := [] } ∧
        t.port.mailbox.bank (1 - i) = m.bank (1 - i) ∧ t.port.mailbox.fullOrder = m.fullOrder ∧
        t.port.mailbox.nextNumber = m.nextNumber) ∧
    ((∀ i, (m.bank i).state ≠ .read) → exec (.freeBank []) s = .next (s.refusedWith .refusedState)))

/-! ### Reset's companions: CONFIGURE, the clock, WITHDRAW and RESTART -/

/-- R39, R61, R106, R172: CONFIGURE at an unconfigured station takes the fourteen parameters, each clamped to its range, in the
order of R172; it makes the station configured, moves OFF to LISTEN (MONITOR stays), counts the listen interval afresh, and
gives OK. At a configured station it is refused LOCKED and changes nothing. That the line, from OFF, then counts as busy until
it is next idle is the model's choice (assumption log 11); so is that a monitor station's limit mismatch is not tested here (log
34); a flag parameter other than 0 is set (log 6), and the one-byte sanitize minimum and wash minimum are read unsigned, so that
128 to 255 clamp to the upper limit (log 38). -/
def Obligations.Configure : Prop :=
  ∀ (p : List Byte) (s : State), s.inReset = false → p.length = 20 →
    (s.port.configured = true → exec (.configure p) s = .next (s.refusedWith .locked)) ∧
    (s.port.configured = false → GrantSafe s → RacksSafe s →
      let limit := clamp 10 6000 (wordAt p 0)
      let reserve := clamp 0 (limit / 4) (wordAt p 2)
      let solo := clamp 0 (limit - reserve) (wordAt p 6)
      let high := clamp 1 999 (wordAt p 16)
      let low := clamp 0 998 (wordAt p 18)
      let off := s.bus.link = .off
      exec (.configure p) s = .next (answerFrame s.statusByte [] .ok
          { s with
            load := { s.load with
              limit := limit, reserve := reserve, weight := clamp 1 15 (byteAt p 4), ramp := clamp 1 255 (byteAt p 5),
              solo := solo, safe := byteAt p 8 != 0, listenCount := 0,
              grant := if off then min s.declaredF solo else s.load.grant }
            course := { s.course with lateQuanta := clamp 1 255 (byteAt p 9) }
            ware := { s.ware with
              washZone := Fin.ofNat 8 (min 7 (byteAt p 10)), rinseZone := Fin.ofNat 8 (min 7 (byteAt p 11)),
              sanMin := clamp 70 95 (byteAt p 12), washMin := clamp 55 80 (byteAt p 13),
              maxDwell := clamp 60 900 (wordAt p 14), high := high, low := if high ≤ low then high - 1 else low }
            bus := { s.bus with
              link := if off then .listen else s.bus.link, lineBusy := if off then true else s.bus.lineBusy }
            port := { s.port with configured := true } }))

/-- R81, R84: SET CLOCK takes a time up to 86,399; a later one is refused INVALID. Moved forward the clock crosses the schedule
entries after its old time and up to its new one: they leave the schedule, and each fires in entry order as its FIRE (or is
spent, where FIRE would be refused), and nothing else changes; moved back or not at all it fires nothing. A clock that crosses
no entry changes nothing else. That in MONITOR, LEAVING and LEFT each crossed entry is simply spent, with no BOARD_MISS even on
a full board, is the model's choice (assumption log 32), and so is the order of what one FIRE does, each entry being one
operation with its own following of the demand (log 27). -/
def Obligations.SetClock : Prop :=
  ∀ (p : List Byte) (s : State), s.isUp → p.length = 3 →
    let crossed := fun e : SchedEntry => s.course.clock < e.time && e.time ≤ tripleAt p 0
    let rest := s.course.schedule.filter fun e => !crossed e
    let moved : State := { s with course := { s.course with clock := tripleAt p 0, schedule := rest } }
    (86399 < tripleAt p 0 → exec (.setClock p) s = .next (s.refusedWith .invalid)) ∧
    (tripleAt p 0 ≤ 86399 → TablesSafe s →
      exec (.setClock p) s = .next (answerFrame s.statusByte [] .ok
        ((s.course.schedule.filter crossed).foldl State.afterFire moved)) ∧
      ∃ t, exec (.setClock p) s = .next t ∧
        t.port.lastResult = .ok ∧ t.port.dataOut = [s.statusByte] ∧
        t.course.clock = tripleAt p 0 ∧ t.course.schedule = rest ∧ t.settings = s.settings ∧
        (tripleAt p 0 ≤ s.course.clock → rest = s.course.schedule) ∧
        (s.course.schedule.all (fun e => !crossed e) = true ∨ s.bus.link.bars = true →
          t = answerFrame s.statusByte [] .ok moved))

/-- R78, with R54, R131 and R154: WITHDRAW in LISTEN, JOINED or ALONE removes every waiting notice and queues LEAVE with the
next sequence; the link becomes LEAVING, the outputs go off, the grants become 0, the events, the pages and the relay list
go, and each page makes a WITHDRAWN report in creation order. In any other link state it is refused REFUSED_STATE. -/
def Obligations.Withdraw : Prop :=
  ∀ s : State, s.isUp →
    (s.bus.link.heats = false → exec (.withdraw []) s = .next (s.refusedWith .refusedState)) ∧
    (s.bus.link.heats = true → TxSafe s →
      ∃ t, exec (.withdraw []) s = .next t ∧
        t.port.lastResult = .ok ∧ t.port.dataOut = [s.statusByte] ∧
        t.bus.link = .leaving ∧ t.bus.seq = s.bus.seq + 1 ∧
        t.bus.queue.map (fun e => (e.notice, e.onLine)) =
          (s.bus.queue.filter (·.onLine)).map (fun e => (e.notice, true)) ++
            [({ sender := s.own, seq := s.bus.seq, body := .leave }, false)] ∧
        t.load = { s.load with grant := 0, applied := 0 } ∧
        (∀ z : ZoneNo, t.heat.zones[z].on = false ∧ t.heat.zones[z].temp = s.heat.zones[z].temp ∧
          t.heat.zones[z].age = s.heat.zones[z].age) ∧
        t.route.events = [] ∧ t.route.evaluation = none ∧ t.page = { s.page with pages := [] } ∧
        t.relay.list = [] ∧ t.relay.exchange = .idle ∧
        t.port.mailbox = s.page.pages.foldl
          (fun m p => m.put s.course.clock (.withdrawn p.number p.attempt p.group p.code p.course p.state))
          s.port.mailbox ∧
        t.port.counters = s.port.counters ∧ t.prog = s.prog ∧ t.course = s.course ∧ t.settings = s.settings ∧
        t.ware = { s.ware with conveyor := t.ware.conveyor, margin := t.ware.margin } ∧ t.ware.conveyor ≠ .running)

/-- R64, with R21, R25, R38, R58, R80, R105, R125, R139, R156, R165, R184 and R188: RESTART in LISTEN, JOINED, ALONE or LEFT
returns the station to LISTEN with every block at what it holds after RESTART, the notice in transmission alone left in the
queue, to end without report, with the access machine EMPTY if none is; the zero grant takes effect as a decrease (R18). In
any other link state it is refused REFUSED_STATE. That the line counts as busy after LEFT until it is next idle is the model's
choice (assumption log 11). -/
def Obligations.Restart : Prop :=
  ∀ s : State, s.isUp →
    let taken := s.bus.link = .listen ∨ s.bus.link = .joined ∨ s.bus.link = .alone ∨ s.bus.link = .left
    (¬ taken → exec (.restart []) s = .next (s.refusedWith .refusedState)) ∧
    (taken →
      ∃ t, exec (.restart []) s = .next t ∧
        t.settings = s.settings ∧ t.oe = s.oe ∧
        t.port = { s.port with
          latched := 0, lastResult := .ok, dataOut := [s.statusByte],
          mailbox := { bank0 := ⟨.empty, []⟩, bank1 := ⟨.empty, []⟩, fullOrder := [],
                       nextNumber := s.port.mailbox.nextNumber } } ∧
        t.bus = { s.bus with
          link := .listen, lineBusy := s.bus.lineBusy || decide (s.bus.link = .left),
          access := if s.bus.access = .sending then .sending else .empty,
          queue := (s.bus.queue.filter (·.onLine)).map fun e => { e with orphan := true }, repeats := t.bus.repeats } ∧
        (∀ st : Station, t.bus.repeats[st] = none) ∧
        (∀ z : ZoneNo, t.prog.runs[z] = Run.idle) ∧ (∀ c : CourseNo, t.prog.plates[c] = 0) ∧
        t.heat.step = s.heat.step ∧ t.heat.windowGrant = 0 ∧
        t.heat.draw = (if s.heat.windowGrant = 0 then s.heat.draw
          else (zoneNos.map fun z => t.heat.zones[z].plan.length * s.heat.zones[z].rating).sum / 20) ∧
        (∀ z : ZoneNo,
          let a := s.heat.zones[z]
          let b := t.heat.zones[z]
          b.temp = a.temp ∧ b.probe = a.probe ∧ b.age = 6 ∧ b.on = false ∧ b.plan = a.plan.filter (· ≤ s.heat.step) ∧
            b.allot = (if s.heat.windowGrant = 0 then a.allot else 0) ∧
            b.isOver = (match a.temp with | some x => a.limit < x | none => false)) ∧
        t.load = { s.load with
          peers := [], grant := 0, applied := 0, expiryGrant := t.load.expiryGrant, listenCount := 0, clash := false,
          clashHeard := false, mismatch := false, curtailCount := 0, curtailed := false } ∧
        t.course = { s.course with schedule := [], board := [], clearing := [] } ∧
        t.ware = { s.ware with
          enable := false, waiting := 0, racks := [], conveyor := .off, subCause := none, margin := false,
          heldLow := false, levelHigh := false, repeatCount := 0, wash := [] } ∧
        t.route = { s.route with events := [], evaluation := none } ∧ t.page = { s.page with pages := [] } ∧
        t.relay.list = [] ∧ t.relay.exchange = .idle ∧ t.relay.key = none ∧ t.relay.timerOn = false)

/-! ### The command port -/

/-- The effect of a read frame: its data, its last result and nothing else (R166, R167). R3, R22, R24, R53, R104, R132, R155,
R165, R168, R186: each read gives what its rule lists, as it stands when select falls, from the byte after its last parameter
on and as far as the frame clocks bytes; PROGRAM READ and RULE READ of a number out of range are refused INVALID; READ
COUNTERS with the clear option zeroes every counter and carry flag; a frame whose code is none of the list is refused UNKNOWN.
The layouts that the spec leaves open are the model's choice (assumption log 17), a field that is absent with no byte stated
reads as a free value (log 5), and so does data out while a read's parameter, or a byte of an unknown frame, clocks in (log
30); a clear option other than 0 is set (log 6). -/
def Obligations.Reads : Prop :=
  ∀ (p : List Byte) (s : State), s.inReset = false →
    exec (.readStatus p) s = .next (answerFrame s.statusByte
      (([u8 s.own, flagByte s.isPass, flagByte s.isRadio, flagByte s.isConveyor] ++ s.configData ++ s.wareSummary ++
        s.page.summary ++ s.relay.summary).take p.length) .ok s) ∧
    exec (.readBoard p) s = .next (answerFrame s.statusByte
      ((u24 s.course.clock ++ listBytes SchedEntry.bytes s.course.schedule ++
        listBytes recBytes s.course.board.zipIdx ++ listBytes Run.bytes s.prog.runs.toList).take p.length) .ok s) ∧
    exec (.readPeers p) s = .next (answerFrame s.statusByte
      (([u8 s.own, u8 s.bus.link.code] ++ u16 (s.load.limit - s.load.reserve) ++ u16 s.declaredQ ++ u16 s.declaredF ++
        u16 s.heat.draw ++ [u8 s.load.weight] ++ u16 s.load.grant ++ u16 s.load.applied ++
        listBytes Peer.bytes s.load.peers).take p.length) .ok s) ∧
    (p ≠ [] →
      exec (.zoneRead p) s = .next (answerFrame s.statusByte
        ((Config.openOut 5 p 0 ::
          listBytes (fun z => s.heat.zones[z].record s.prog.runs[z] s.heat.step) (zonesAt p)).take p.length) .ok s) ∧
      (∀ n : Fin 16, byteAt p 0 = n.val →
        exec (.programRead p) s = .next (answerFrame s.statusByte
          ((Config.openOut 8 p 0 :: programData s.prog.table[n]).take p.length) .ok s)) ∧
      (15 < byteAt p 0 →
        exec (.programRead p) s = .next (answerFrame s.statusByte [Config.openOut 8 p 0] .invalid s)) ∧
      (∀ i : Fin 32, byteAt p 0 = i.val →
        let r := s.route.rules[i]
        exec (.ruleRead p) s = .next (answerFrame s.statusByte
          ((Config.openOut 23 p 0 ::
            [u8 r.type.code, u8 r.property.code, u8 r.compare.code] ++ bytes16 r.value ++
            [flagByte r.andFlag, flagByte r.reject, u8 r.group, u8 r.priority, flagByte r.defer]).take p.length) .ok s)) ∧
      (31 < byteAt p 0 →
        exec (.ruleRead p) s = .next (answerFrame s.statusByte [Config.openOut 23 p 0] .invalid s)) ∧
      (∃ t, exec (.readCounters p) s = .next t ∧
        t = answerFrame s.statusByte
          ((Config.openOut 34 p 0 ::
            s.port.counters.toList.flatMap fun c => bytes16 c.value ++ [flagByte c.carry]).take p.length) .ok
          { s with port := { s.port with counters := t.port.counters } } ∧
        ∀ i : Fin 14,
          t.port.counters[i] = if byteAt p 0 = 0 then s.port.counters[i] else { value := 0, carry := false })) ∧
    (∀ code : Byte, (Instr.unknown code p).wellFormed = true →
      exec (.unknown code p) s = .next (answerFrame s.statusByte
        ((List.range p.length).map (Config.openOut code p)) .unknown s))

/-- R182 and R183. READ ALERT returns the top cause (the pending unmasked cause of highest level, the lowest number within
it), the 16 pending flags and the 16 mask flags, as far as the frame clocks bytes, and clears nothing. ALERT MASK replaces the
mask flags together. CLEAR ALERT clears the pending flag of each selected latched cause and changes no condition cause and no
cause it does not select. Each gives OK. -/
def Obligations.AlertController : Prop :=
  ∀ (p : List Byte) (s : State),
    (s.inReset = false →
      (∃ t, exec (.readAlert p) s = .next t ∧
        t = { s with port := { s.port with lastResult := .ok, dataOut := t.port.dataOut } } ∧
        (∀ c, s.topCause = some c →
          t.port.dataOut = s.statusByte ::
            ([u8 c.level, u8 c.number] ++ bytes16 s.pendingFlags ++ bytes16 s.port.mask).take p.length) ∧
        t.port.dataOut.drop 3 = (bytes16 s.pendingFlags ++ bytes16 s.port.mask).take (p.length - 2) ∧
        ∀ i : Fin 16, s.pendingFlags.getLsbD i = (causes[i.val]?.map s.isPending).getD false) ∧
      (∀ c, s.topCause = some c ↔
        (s.isPending c = true ∧ s.port.mask.getLsbD (c.number - 1) = false ∧
          ∀ c', s.isPending c' = true → s.port.mask.getLsbD (c'.number - 1) = false →
            c'.level < c.level ∨ (c'.level = c.level ∧ c.number ≤ c'.number)))) ∧
    (s.isUp → p.length = 2 →
      exec (.alertMask p) s = .next (answerFrame s.statusByte [] .ok
        { s with port := { s.port with mask := join16 (p.getD 0 0) (p.getD 1 0) } }) ∧
      ∃ t, exec (.clearAlert p) s = .next t ∧
        t = answerFrame s.statusByte [] .ok { s with port := { s.port with latched := t.port.latched } } ∧
        ∀ c : Cause,
          t.isPending c = (s.isPending c && !(c.isLatched && (join16 (p.getD 0 0) (p.getD 1 0)).getLsbD (c.number - 1))))

/-! ### Heat zones -/

/-- R10–R13: the allotments of the zones under an applied grant. 0 everywhere under a grant of 0; the demands where they fit;
the bases scaled to the grant where it does not cover them; otherwise each base and a share of the excess in proportion to
the demand above it. What rounding leaves goes one LU at a time, in ascending zone number, to the zones still below their
base, or below their demand; in the second and third case the allotments then sum to the grant. -/
def Obligations.Allotments : Prop :=
  ∀ (s : State) (grant : Nat),
    let d := zoneNos.map s.demand
    let b := zoneNos.map s.base
    let a := s.allotments grant
    (grant = 0 → a = zoneNos.map fun _ => 0) ∧
    (0 < grant → s.declaredQ ≤ grant → a = d) ∧
    (0 < grant → grant < s.declaredQ → grant ≤ s.declaredF →
      a = sweptOver grant (b.map fun x => x * grant / s.declaredF) b ∧ a.sum = grant) ∧
    (0 < grant → grant < s.declaredQ → s.declaredF < grant →
      a = sweptOver grant
        ((d.zip b).map fun x => x.2 + (x.1 - x.2) * (grant - s.declaredF) / (s.declaredQ - s.declaredF)) d ∧
      a.sum = grant ∧ (a.zip d).all (fun x => x.1 ≤ x.2) = true)

/-- R15: a window start. Each zone's plan is n = floor(a × 20 / P) consecutive steps from step (2 × zone number) mod 20 on,
wrapping past step 19, and none for an absent zone; the window grant is the applied grant; the declared draw is floor(Σ n × P
/ 20), which the applied grant bounds (R17). The step boundary after step 19 leaves the state so, under the applied grant that
the demand then allows, unless the release of an auto-release course ends runs at that same moment (R10). A decrease of the
applied grant below the window grant re-allots at once: no plan is longer, the steps begun stay, and the further ones follow
the step in progress, those past step 19 lost (R10, R18); any other leaves the window as it is. WINDOW_START is that step
boundary. The model's choices: that it is nothing at any other step (assumption log 7), and the order within that boundary, the
window starting on the ages already risen and the grant that follows the demand they leave (log 16). -/
def Obligations.WindowStart : Prop :=
  (∀ s : State, s.inReset = false → s.heat.step ≠ 19 → exec .windowStart s = .next s) ∧
  (∀ s : State, s.inReset = false → s.heat.step = 19 →
    ∃ t, exec .windowStart s = .next t ∧ t.heat.step = 0 ∧ t.settings = s.settings ∧ exec .stepBoundary s = .next t ∧
      (s.isPass = false ∨ (∀ r ∈ s.course.board, r.auto = false) →
        t.load.applied = min s.load.applied t.declaredQ ∧ t.heat.windowGrant = t.load.applied ∧
        (∀ z : ZoneNo,
          let p := s.heat.zones[z].rating
          let a := (t.allotments t.load.applied).getD z 0
          let n := if p = 0 then 0 else a * 20 / p
          t.heat.zones[z].allot = a ∧ t.heat.zones[z].plan.length = n ∧
          ∀ k, k ∈ t.heat.zones[z].plan ↔ (k < 20 ∧ (k + 20 - 2 * z.val) % 20 < n)) ∧
        t.heat.draw = (zoneNos.map fun z => t.heat.zones[z].plan.length * s.heat.zones[z].rating).sum / 20)) ∧
  (∀ s : State,
    let t := windowStart s
    t = { s with heat := { s.heat with zones := t.heat.zones, windowGrant := s.load.applied, draw := t.heat.draw } } ∧
    (∀ z : ZoneNo,
      let p := s.heat.zones[z].rating
      let a := (s.allotments s.load.applied).getD z 0
      let n := if p = 0 then 0 else a * 20 / p
      t.heat.zones[z] = { s.heat.zones[z] with allot := a, plan := t.heat.zones[z].plan } ∧
      t.heat.zones[z].plan.length = n ∧
      ∀ k, k ∈ t.heat.zones[z].plan ↔ (k < 20 ∧ (k + 20 - 2 * z.val) % 20 < n)) ∧
    t.heat.draw = (zoneNos.map fun z => t.heat.zones[z].plan.length * s.heat.zones[z].rating).sum / 20 ∧
    (zoneNos.map fun z => t.heat.zones[z].plan.length * s.heat.zones[z].rating).sum ≤ 20 * s.load.applied) ∧
  ∀ (s : State) (grant : Nat),
    let t := applyGrant grant s
    let step := s.heat.step
    (s.heat.windowGrant ≤ grant → t = { s with load := { s.load with applied := grant } }) ∧
    (grant < s.heat.windowGrant →
      t = { s with load := { s.load with applied := grant },
                   heat := { s.heat with zones := t.heat.zones, windowGrant := grant, draw := t.heat.draw } } ∧
      (∀ z : ZoneNo,
        let p := s.heat.zones[z].rating
        let a := (s.allotments grant).getD z 0
        let n := min (if p = 0 then 0 else a * 20 / p) s.heat.zones[z].plan.length
        let begun := s.heat.zones[z].plan.filter (· ≤ step)
        t.heat.zones[z] = { s.heat.zones[z] with allot := a, plan := t.heat.zones[z].plan } ∧
        (t.heat.zones[z].plan.filter (· ≤ step)) = begun ∧
        t.heat.zones[z].plan.length = begun.length + min (n - begun.length) (19 - step) ∧
        ∀ k, step < k → (k ∈ t.heat.zones[z].plan ↔ (k ≤ step + (n - begun.length) ∧ k < 20))) ∧
      t.heat.draw = (zoneNos.map fun z => t.heat.zones[z].plan.length * s.heat.zones[z].rating).sum / 20)

/-- R5, R7, R14, R16: a step boundary begins the next step; each zone's age rises by 1 to at most 6; an active run of a zone
that is then stale or over faults, with its ZONE_STALE or ZONE_OVER event first in the queue; and a zone's output is on for the
step where, and only where, the step is in its plan, its run is active, it is neither stale nor over, OE is high and the link
state is LISTEN, JOINED or ALONE. A zone that becomes stale, or whose run leaves the active states, leaves the window: its output
is off and its plan is cut to the steps begun, the current one included (but at a window start, whose plans are new).
SAMPLE_STALE is that ageing of one zone whose age stands at 5, and is nothing at any other age. That last clause is the model's
choice (assumption log 7), and so is the order within a boundary (log 16). -/
def Obligations.StepBoundary : Prop :=
  ∀ s : State, s.inReset = false →
    (∃ t, exec .stepBoundary s = .next t ∧
      t.heat.step = (s.heat.step + 1) % 20 ∧ t.settings = s.settings ∧
      t.steady = { s.steady with step := t.heat.step, repeats := t.bus.repeats } ∧
      t.queuesFirst s (t.faultEvents s zoneNos) ∧
      ∀ z : ZoneNo,
        t.heat.zones[z].age = min 6 (s.heat.zones[z].age + 1) ∧
        t.heat.zones[z].temp = s.heat.zones[z].temp ∧ t.heat.zones[z].probe = s.heat.zones[z].probe ∧
        t.heat.zones[z].isOver = s.heat.zones[z].isOver ∧
        (s.prog.runs[z].state.active = true → (5 ≤ s.heat.zones[z].age ∨ s.heat.zones[z].isOver = true) →
          t.prog.runs[z].state = .fault) ∧
        (t.heat.step ≠ 0 → s.heat.zones[z].age = 5 → t.hasLeft s z) ∧
        (t.heat.step ≠ 0 → s.prog.runs[z].state.active = true → t.prog.runs[z].state.active = false → t.hasLeft s z) ∧
        (t.heat.zones[z].on = true ↔
          (t.heat.step ∈ t.heat.zones[z].plan ∧ t.prog.runs[z].state.active = true ∧ t.heat.zones[z].age < 6 ∧
            t.heat.zones[z].isOver = false ∧ s.oe = true ∧
            (s.bus.link = .listen ∨ s.bus.link = .joined ∨ s.bus.link = .alone)))) ∧
    (∀ z : ZoneNo,
      (s.heat.zones[z].age ≠ 5 → exec (.sampleStale z) s = .next s) ∧
      (s.heat.zones[z].age = 5 →
        ∃ t, exec (.sampleStale z) s = .next t ∧
          t.heat.zones[z].age = 6 ∧ t.heat.zones[z].stale = true ∧ t.hasLeft s z ∧
          t.heat.zones[z].temp = s.heat.zones[z].temp ∧ t.settings = s.settings ∧ t.steady = s.steady ∧
          t.queuesFirst s (t.faultEvents s [z]) ∧
          (s.prog.runs[z].state.active = true → t.prog.runs[z].state = .fault) ∧
          (s.prog.runs[z].state.active = false → t.prog.runs[z].state = .fault → s.prog.runs[z].state = .fault) ∧
          ∀ y : ZoneNo, y ≠ z →
            t.heat.zones[y].age = s.heat.zones[y].age ∧ t.heat.zones[y].temp = s.heat.zones[y].temp ∧
            (s.prog.runs[y].state.active = true → t.prog.runs[y].state.active = false → t.hasLeft s y)))

/-- R1, R2, R6, R7: ZONE SET with a mask that selects no zone is refused INVALID, and with a rating of 0 over a zone whose
run is ARMED or active REFUSED_STATE. Otherwise every selected zone takes the five settings, clamped; its over condition is
tested again against its latest temperature; a changed probe fitted setting discards the probe temperature; and an active run of
a zone that is over or stale faults, with its event first in the queue. A zone whose rating changes, that becomes over, or whose
run leaves the active states leaves the window, its output off and its plan cut to the steps begun (R2, R16). No other zone's
settings or samples change. A flag parameter other than 0 is set (assumption log 6), and the order of the faults
of several zones is the model's choice (log 15). -/
def Obligations.ZoneSet : Prop :=
  ∀ (p : List Byte) (s : State), s.inReset = false → p.length = 7 →
    let zs := zonesAt p
    let clears := byteAt p 1 = 0 ∧ ∃ z ∈ zs, s.prog.runs[z].state.live = true
    (zs = [] → exec (.zoneSet p) s = .next (s.refusedWith .invalid)) ∧
    (zs ≠ [] → clears → exec (.zoneSet p) s = .next (s.refusedWith .refusedState)) ∧
    (zs ≠ [] → ¬ clears →
      ∃ t, exec (.zoneSet p) s = .next t ∧
        t.port.lastResult = .ok ∧ t.port.dataOut = [s.statusByte] ∧ t.steady = s.steady ∧
        t.settings = { s.settings with zones := t.settings.zones } ∧ t.queuesFirst s (t.faultEvents s zs) ∧
        (∀ z ∈ zs,
          let a := s.heat.zones[z]
          let b := t.heat.zones[z]
          b.settings =
            { rating := byteAt p 1, band := max 1 (min 100 (byteAt p 2)), limit := max (-40) (min 400 (signedAt p 3)),
              floor := min (byteAt p 1) (byteAt p 5), probeFitted := byteAt p 6 != 0 } ∧
          b.temp = a.temp ∧ b.age = a.age ∧
          b.probe = (if (byteAt p 6 != 0) = a.probeFitted then a.probe else none) ∧
          b.isOver = (match a.temp with | some x => b.limit < x | none => false) ∧
          (byteAt p 1 ≠ a.rating → t.hasLeft s z) ∧ (b.isOver = true → a.isOver = false → t.hasLeft s z) ∧
          (s.prog.runs[z].state.active = true → b.isOver = true ∨ b.stale = true → t.prog.runs[z].state = .fault)) ∧
        (∀ z : ZoneNo, s.prog.runs[z].state.active = true → t.prog.runs[z].state.active = false → t.hasLeft s z) ∧
        ∀ z : ZoneNo, z ∉ zs →
          let a := s.heat.zones[z]
          let b := t.heat.zones[z]
          b.settings = a.settings ∧ b.temp = a.temp ∧ b.probe = a.probe ∧ b.age = a.age ∧ b.isOver = a.isOver)

/-- R4–R7, R29, R30: SAMPLE of a frame whose length fits its mask and the probe fitted settings; a mask that selects no zone is
refused INVALID. For each selected zone the reading becomes its latest temperature, clamped, and where its probe is fitted its
probe temperature; its age returns to 0 and its over condition is tested; an active run of a zone then over faults, with its
ZONE_OVER event first in the queue. Otherwise an active run in a HEAT stage whose setpoint less 2 °C the temperature has
reached, or in a PROBE stage whose target the probe temperature has reached, goes on to the next stage that the samples do not
end. Every other run stands, but that a release the sample brings about makes it DONE. A zone that becomes over, or whose run
leaves the active states, leaves the window, its output off and its plan cut to the steps begun (R16). No other zone's samples
change, and no settings. The order of the zones of one SAMPLE is the model's choice (assumption log 15). -/
def Obligations.Sample : Prop :=
  ∀ (m : Byte) (rest : List Byte) (s : State), s.isUp → rest.length = s.sampleLength m →
    (maskZones m = [] → exec (.sample (m :: rest)) s = .next (s.refusedWith .invalid)) ∧
    (maskZones m ≠ [] →
      ∃ t, exec (.sample (m :: rest)) s = .next t ∧
        t.port.lastResult = .ok ∧ t.port.dataOut = [s.statusByte] ∧ t.steady = s.steady ∧ t.settings = s.settings ∧
        t.queuesFirst s (t.faultEvents s (maskZones m)) ∧
        (∀ z : ZoneNo, s.prog.runs[z].state.active = true → t.prog.runs[z].state.active = false → t.hasLeft s z) ∧
        (∀ z : ZoneNo,
          let a := s.heat.zones[z]
          let b := t.heat.zones[z]
          let r := s.prog.runs[z]
          let r' := t.prog.runs[z]
          let ends := fun k : Nat => (r.body.stages[k]?.map fun st => st.reached b.temp b.probe) = some true
          let stands := r' = r ∨ r' = { r with state := .done, late := false }
          let at_ := ((zoneNos.filter fun y => y < z && m.getLsbD y).map fun y =>
            if s.heat.zones[y].probeFitted then 4 else 2).sum
          if m.getLsbD z then
            b.temp = some (clampTemp (signedAt rest at_)) ∧
            b.probe = (if a.probeFitted then some (clampTemp (signedAt rest (at_ + 2))) else a.probe) ∧
            b.age = 0 ∧ b.isOver = decide (a.limit < clampTemp (signedAt rest at_)) ∧
            (r.state.active = true → b.isOver = true → r'.state = .fault) ∧
            (b.isOver = true → a.isOver = false → t.hasLeft s z) ∧
            (r.state.active = true → b.isOver = false → ¬ ends r.stage → stands) ∧
            (r.state.active = true → b.isOver = false → ends r.stage →
                (∃ st ∈ r.body.stages.drop (r.stage + 1), st.kind = .hold) →
              r.stage < r'.stage ∧ (∀ k < r'.stage, r.stage < k → ends k) ∧ ¬ ends r'.stage ∧ r'.elapsed = 0 ∧
                r'.late = false ∧ r'.state.entered) ∧
            (r.state.active = false → stands)
          else b.temp = a.temp ∧ b.probe = a.probe ∧ b.age = a.age ∧ b.isOver = a.isOver ∧ stands))

/-! ### Programs and runs -/

/-- R22, R23: PROGRAM WRITE of the right length. A program number above 15 is refused INVALID; a stage count of 0 empties the
entry; otherwise more than 8 stages, a kind that is none of the four, a last stage that is not HOLD or a HOLD stage before
the last is refused INVALID; then an entry that a run in ARMED, HEATING, COOKING or HOLDING names is refused IN_USE. On a
refusal the table is unchanged; otherwise the entry alone changes, its figures clamped. A flag parameter other than 0 is set
(assumption log 6). -/
def Obligations.ProgramWrite : Prop :=
  ∀ (p : List Byte) (s : State), s.inReset = false → p.length = 7 + 5 * byteAt p 1 →
    let stage := fun k : Nat => p.drop (7 + 5 * k)
    let kind := fun k : Nat => byteAt (stage k) 0
    let good := byteAt p 1 ≤ 8 ∧ (∀ k < byteAt p 1, kind k ≤ 3) ∧ ∀ k < byteAt p 1, (kind k = 3 ↔ k + 1 = byteAt p 1)
    let inUse := fun n : Fin 16 => ∃ z : ZoneNo, s.prog.runs[z].state.live = true ∧ s.prog.runs[z].program = some n
    (15 < byteAt p 0 → exec (.programWrite p) s = .next (s.refusedWith .invalid)) ∧
    ∀ n : Fin 16, byteAt p 0 = n.val →
      (byteAt p 1 ≠ 0 → ¬ good → exec (.programWrite p) s = .next (s.refusedWith .invalid)) ∧
      ((byteAt p 1 = 0 ∨ good) → inUse n → exec (.programWrite p) s = .next (s.refusedWith .inUse)) ∧
      (byteAt p 1 = 0 → ¬ inUse n →
        exec (.programWrite p) s = .next (answerFrame s.statusByte [] .ok
          { s with prog := { s.prog with table := s.prog.table.set n none } })) ∧
      (byteAt p 1 ≠ 0 → good → ¬ inUse n →
        ∃ t, exec (.programWrite p) s = .next t ∧ ∃ x, t.prog.table[n] = some x ∧
          t = answerFrame s.statusByte [] .ok { s with prog := { s.prog with table := s.prog.table.set n (some x) } } ∧
          x.heatLimit = max 30 (min 3600 (wordAt p 2)) ∧ x.holdLimit = max 60 (min 3600 (wordAt p 4)) ∧
          x.plate = (byteAt p 6 != 0) ∧ x.stages.length = byteAt p 1 ∧
          ∀ k < byteAt p 1, (x.stages[k]?.map fun st => (st.kind.code, st.setpoint, st.param)) =
            some (kind k, max (-40) (min 400 (signedAt (stage k) 1)),
              if kind k = 1 then ((max 1 (min 7200 (wordAt (stage k) 3)) : Nat) : Int)
              else if kind k = 2 then max (-40) (min 400 (signedAt (stage k) 3)) else 0))

/-- R27: ASSIGN checks, in this order, the mask, the course, the program number and its entry and the probes its PROBE stages
need (INVALID); the link state, the selected zones' ratings and runs, and a RELEASED record (REFUSED_STATE); and room on the
board (BOARD_FULL). Taken, it sets every selected run afresh for the course and program: ARMED at stage 0 with its counts
clear, unless the course has been fired, when it has entered stage 0 and is active, or has faulted at once, or its record has
been released and the run is DONE. No other zone's run changes except that a release makes it DONE. -/
def Obligations.Assign : Prop :=
  ∀ (p : List Byte) (s : State), s.isUp → p.length = 3 →
    let zs := zonesAt p
    ((zs = [] ∨ byteAt p 1 = 0 ∨ 15 < byteAt p 1 ∨ 15 < byteAt p 2) →
      exec (.assign p) s = .next (s.refusedWith .invalid)) ∧
    (zs ≠ [] → ∀ (c : CourseNo) (n : Fin 16), c ≠ 0 → byteAt p 1 = c.val → byteAt p 2 = n.val →
      (s.prog.table[n] = none → exec (.assign p) s = .next (s.refusedWith .invalid)) ∧
      ∀ body, s.prog.table[n] = some body →
        let lacks := (∃ st ∈ body.stages, st.kind = .probe) ∧ ∃ z ∈ zs, s.heat.zones[z].probeFitted = false
        let barred := s.bus.link.bars = true ∨ s.isReleased c = true ∨
          ∃ z ∈ zs, s.heat.zones[z].rating = 0 ∨ s.prog.runs[z].state.live = true ∨ s.prog.runs[z].state = .fault
        let full := s.recOf c = none ∧ 4 ≤ s.course.board.length ∧ ∀ r ∈ s.course.board, r.state ≠ .released
        (lacks → exec (.assign p) s = .next (s.refusedWith .invalid)) ∧
        (¬ lacks → barred → exec (.assign p) s = .next (s.refusedWith .refusedState)) ∧
        (¬ lacks → ¬ barred → full → exec (.assign p) s = .next (s.refusedWith .boardFull)) ∧
        (¬ lacks → ¬ barred → s.canHaveRec c = true →
          ∃ t, exec (.assign p) s = .next t ∧
            t.port.lastResult = .ok ∧ t.port.dataOut = [s.statusByte] ∧ t.settings = s.settings ∧
            t.steady = s.steady ∧ t.samples = s.samples ∧
            (∀ z ∈ zs, t.prog.runs[z].program = some n ∧ t.prog.runs[z].course = c ∧ t.prog.runs[z].body = body ∧
              (s.hasFired c = false →
                t.prog.runs[z] =
                  { state := .armed, program := some n, course := c, stage := 0, elapsed := 0, late := false,
                    holdElapsed := 0, holdOver := false, body := body }) ∧
              (s.hasFired c = true → (∃ st ∈ body.stages, st.kind = .hold) → t.prog.runs[z].state.entered)) ∧
            ∀ z : ZoneNo, z ∉ zs → t.prog.runs[z] = s.prog.runs[z] ∨
              (t.prog.runs[z].state = .done ∧ s.prog.runs[z].state.live = true ∧ s.prog.runs[z].course = c)))

/-- R35: ABORT with a mask that selects no zone is refused INVALID. Otherwise every selected run becomes IDLE with its fields
clear, whatever its state, and a zone whose run was active leaves the window, its output off and its plan cut to the steps begun
(R16). No other run changes except that a release that the abort brings about makes it DONE, its zone leaving the window too
where it was active. -/
def Obligations.Abort : Prop :=
  ∀ (p : List Byte) (s : State), s.isUp → p.length = 1 →
    let zs := zonesAt p
    (zs = [] → exec (.abort p) s = .next (s.refusedWith .invalid)) ∧
    (zs ≠ [] →
      ∃ t, exec (.abort p) s = .next t ∧
        t.port.lastResult = .ok ∧ t.port.dataOut = [s.statusByte] ∧ t.settings = s.settings ∧
        t.steady = s.steady ∧ t.samples = s.samples ∧
        (∀ z ∈ zs, t.prog.runs[z] = Run.idle) ∧
        (∀ z : ZoneNo, s.prog.runs[z].state.active = true → t.prog.runs[z].state.active = false → t.hasLeft s z) ∧
        ∀ z : ZoneNo, z ∉ zs → t.prog.runs[z] = s.prog.runs[z] ∨
          (t.prog.runs[z].state = .done ∧ s.prog.runs[z].state.live = true))

/-- R30, R32, R33: the tick of one run that stands one count short. TIMED_STAGE_END enters the next stage of a COOKING run;
ZONE_LATE raises the run's stage elapsed and sets its late flag; HOLD_OVER raises its hold elapsed and sets its hold-over
flag, its state standing; the ZONE_LATE event, with the zone's latest temperature or −32,768, and the HOLD_OVER event, with the
hold elapsed, are first in the queue. At a run that does not stand so, each is nothing. That last clause is the model's choice
(assumption log 7). -/
def Obligations.RunTicks : Prop :=
  ∀ (z : ZoneNo) (s : State), s.inReset = false →
    let r := s.prog.runs[z]
    let stage := r.body.stages[r.stage]?
    let ends := r.state = .cooking ∧ ∃ st, stage = some st ∧ st.kind = .timed ∧ st.param ≤ (r.elapsed + 1 : Nat)
    let late := r.state = .heating ∧ r.late = false ∧ r.body.heatLimit < r.elapsed + 1
    let overdue := r.state = .holding ∧ r.holdOver = false ∧ r.body.holdLimit < r.holdElapsed + 1
    let event := fun (k : EventKind) (v : Half) =>
      ({ kind := k, course := r.course, zone := some z, station := none, value := v } : Event)
    (¬ ends → exec (.timedStageEnd z) s = .next s) ∧
    (ends →
      ∃ t, exec (.timedStageEnd z) s = .next t ∧ t.settings = s.settings ∧ t.steady = s.steady ∧ t.samples = s.samples ∧
        ((∃ st ∈ r.body.stages.drop (r.stage + 1), st.kind = .hold) →
          r.stage < t.prog.runs[z].stage ∧ t.prog.runs[z].elapsed = 0 ∧ t.prog.runs[z].late = false ∧
            t.prog.runs[z].state.entered)) ∧
    (¬ late → exec (.zoneLate z) s = .next s) ∧
    (late →
      ∃ t, exec (.zoneLate z) s = .next t ∧ t.settings = s.settings ∧ t.steady = s.steady ∧ t.samples = s.samples ∧
        t.queuesFirst s [event .zoneLate (BitVec.ofInt 16 (s.heat.zones[z].temp.getD (-32768)))] ∧
        t.prog.runs[z].elapsed = min 7200 (r.elapsed + 1) ∧ t.prog.runs[z].stage = r.stage ∧
        (t.prog.runs[z].state = .heating ∧ t.prog.runs[z].late = true ∨ t.prog.runs[z].state = .done)) ∧
    (¬ overdue → exec (.holdOver z) s = .next s) ∧
    (overdue →
      ∃ t, exec (.holdOver z) s = .next t ∧ t.settings = s.settings ∧ t.steady = s.steady ∧ t.samples = s.samples ∧
        t.queuesFirst s [event .holdOver (BitVec.ofNat 16 (r.holdElapsed + 1))] ∧
        t.prog.runs[z].holdElapsed = min 3601 (r.holdElapsed + 1) ∧ t.prog.runs[z].holdOver = true ∧
        (t.prog.runs[z].state = .holding ∨ t.prog.runs[z].state = .done))

/-! ### Courses -/

/-- R37, R38, R83, R87, R89: the member state the station has for a course: none with no run on it in ARMED, HEATING, COOKING,
HOLDING or FAULT; else FAULT with one in FAULT; READY with every one HOLDING and every plate program's zone within tolerance;
LATE with one late; ARMED with one ARMED; FIRING. Its warm plates are the plate count where plate programs run on it, all
within tolerance, else 0. PLATES replaces the plate count of its course, clamped to 4,000, and no other; where that changes
what was last given, the course's record takes it as the own entry, and a COURSE notice waits at a station that sends, where
its queue has room; a run changes only where a release that follows makes it DONE. SCHEDULE appends its entry, unless the
course or the time is out of range (INVALID), the link state is MONITOR, LEAVING or LEFT (REFUSED_STATE) or eight entries stand
(FULL). CLOSE COURSE removes a RELEASED record, the release orders after it falling by 1, and touches no schedule entry and no
clearing list entry; any other course is refused REFUSED_STATE. -/
def Obligations.CourseTables : Prop :=
  (∀ (c : CourseNo) (s : State),
    let on := fun z : ZoneNo =>
      s.prog.runs[z].course == c && s.prog.runs[z].state != .idle && s.prog.runs[z].state != .done
    let plated := zoneNos.filter fun z => on z && s.prog.runs[z].body.plate
    let warm := if plated ≠ [] ∧ plated.all s.isNear = true then s.prog.plates[c] else 0
    let zs := zoneNos.filter on
    (zs = [] → s.report c = none) ∧
    (zs ≠ [] → s.report c = some
      (if zs.any fun z => s.prog.runs[z].state == .fault then .fault
        else if zs.all fun z => s.prog.runs[z].state == .holding && (!s.prog.runs[z].body.plate || s.isNear z) then .ready
        else if zs.any fun z => s.prog.runs[z].late then .late
        else if zs.any fun z => s.prog.runs[z].state == .armed then .armed
        else .firing, warm))) ∧
  ∀ (p : List Byte) (s : State), s.isUp →
    ((byteAt p 0 = 0 ∨ 15 < byteAt p 0) →
      (p.length = 3 → exec (.plates p) s = .next (s.refusedWith .invalid)) ∧
      (p.length = 4 → exec (.schedule p) s = .next (s.refusedWith .invalid)) ∧
      (p.length = 1 → exec (.closeCourse p) s = .next (s.refusedWith .invalid))) ∧
    ∀ c : CourseNo, c ≠ 0 → byteAt p 0 = c.val →
      (p.length = 3 →
        ∃ t, exec (.plates p) s = .next t ∧
          t.port.lastResult = .ok ∧ t.port.dataOut = [s.statusByte] ∧ t.settings = s.settings ∧
          t.prog.plates = s.prog.plates.set c (min 4000 (wordAt p 1)) ∧
          t.steady = { s.steady with plates := t.prog.plates } ∧ t.samples = s.samples ∧
          (∀ z : ZoneNo, t.prog.runs[z] = s.prog.runs[z] ∨
            (t.prog.runs[z].state = .done ∧ s.prog.runs[z].state.live = true ∧ s.prog.runs[z].course = c)) ∧
          (let now := { s with prog := { s.prog with plates := t.prog.plates } }.report c
           (now = s.prog.given[c] ∨ s.recOf c = none →
             t = answerFrame s.statusByte [] .ok
               { s with prog := { s.prog with plates := t.prog.plates, given := s.prog.given.set c now } }) ∧
           ∀ r, s.recOf c = some r → now ≠ s.prog.given[c] →
             ∃ r', t.recOf c = some r' ∧ ((r'.member s.own).map fun m => (m.standing, m.warm)) = t.report c ∧
               (r.state ≠ .released → ((r.member s.own).map fun m => (m.standing, m.warm)) ≠ now →
                   s.bus.link.sends = true → s.bus.queue.length < 10 →
                 ∃ e ∈ t.bus.queue, e.waiting = true ∧ e.body.key = some (.course (u8 c))))) ∧
      (p.length = 4 →
        (86399 < tripleAt p 1 → exec (.schedule p) s = .next (s.refusedWith .invalid)) ∧
        (tripleAt p 1 ≤ 86399 → s.bus.link.bars = true → exec (.schedule p) s = .next (s.refusedWith .refusedState)) ∧
        (tripleAt p 1 ≤ 86399 → s.bus.link.bars = false → 8 ≤ s.course.schedule.length →
          exec (.schedule p) s = .next (s.refusedWith .full)) ∧
        (tripleAt p 1 ≤ 86399 → s.bus.link.bars = false → s.course.schedule.length < 8 →
          exec (.schedule p) s = .next (answerFrame s.statusByte [] .ok
            { s with course := { s.course with
              schedule := s.course.schedule ++ [{ course := c, time := tripleAt p 1 }] } }))) ∧
      (p.length = 1 →
        (s.isReleased c = false → exec (.closeCourse p) s = .next (s.refusedWith .refusedState)) ∧
        ∀ r n, s.recOf c = some r → r.state = .released → r.releaseOrder = some n →
          exec (.closeCourse p) s = .next (answerFrame s.statusByte [] .ok
            { s with course := { s.course with
              board := (s.course.board.filter fun x => x.course != c).map fun x =>
                { x with releaseOrder := x.releaseOrder.map fun m => if n < m then m - 1 else m } } }))

/-- R88, R98, R100: OPEN COURSE at a station without the PASS role, or in MONITOR, LEAVING or LEFT, or for a RELEASED record is
refused REFUSED_STATE, a course outside 1–15 INVALID, and a new course with no room BOARD_FULL. Otherwise the course's record
has the plates needed, auto-release flag and clear delay of the command, clamped; a new record is OPEN, and one that is not
fired keeps its state; one FIRED or READY is READY where its course is then ready and FIRED where it is not, and with the
auto-release flag set a READY one is released at once; and a COURSE notice for the course waits in the transmit queue of a
station that sends, where it has room. A flag parameter other than 0 is set (assumption log 6), and the notice is handed though
no value changed (log 33). -/
def Obligations.OpenCourse : Prop :=
  ∀ (p : List Byte) (s : State), s.isUp → p.length = 5 →
    let barred := s.isPass = false ∨ s.bus.link.bars = true
    (barred → exec (.openCourse p) s = .next (s.refusedWith .refusedState)) ∧
    (¬ barred → (byteAt p 0 = 0 ∨ 15 < byteAt p 0) → exec (.openCourse p) s = .next (s.refusedWith .invalid)) ∧
    ∀ c : CourseNo, ¬ barred → c ≠ 0 → byteAt p 0 = c.val →
      (s.isReleased c = true → exec (.openCourse p) s = .next (s.refusedWith .refusedState)) ∧
      (s.canHaveRec c = false → exec (.openCourse p) s = .next (s.refusedWith .boardFull)) ∧
      (s.isReleased c = false → s.canHaveRec c = true →
        ∃ t, exec (.openCourse p) s = .next t ∧
          t.port.lastResult = .ok ∧ t.port.dataOut = [s.statusByte] ∧ t.settings = s.settings ∧
          t.steady = s.steady ∧ t.samples = s.samples ∧
          (∃ r, t.recOf c = some r ∧
            r.plates = min 4000 (wordAt p 1) ∧ r.auto = (byteAt p 3 != 0) ∧ r.clearDelay = min 60 (byteAt p 4) ∧
            (s.recOf c = none → r.state = .opened) ∧
            ∀ old, s.recOf c = some old →
              (old.state.isFired = false → r.state = old.state) ∧ (old.state = .held → r.state = .held) ∧
              (old.state = .fired ∨ old.state = .ready →
                let set : CourseRec :=
                  { old with plates := min 4000 (wordAt p 1), auto := byteAt p 3 != 0, clearDelay := min 60 (byteAt p 4) }
                (¬ set.meetsReady → r.state = .fired) ∧
                (set.meetsReady → r.state = if set.auto then .released else .ready))) ∧
          (s.bus.link.sends = true → s.bus.queue.length < 10 →
            ∃ e ∈ t.bus.queue, e.waiting = true ∧ e.body.key = some (.course (u8 c))))

/-- R28, R84, R94: FIRE of a course outside 1–15 is refused INVALID; in MONITOR, LEAVING or LEFT, or for a RELEASED record,
REFUSED_STATE; for a new course with no room BOARD_FULL. Otherwise the course's record is past OPEN and its ARMED runs have
entered their programs: each is active, or has faulted at once, or is DONE by a release; no other run changes except where a
release that follows makes it DONE; on a record already past OPEN no run changes; and a COURSE notice with the fire flag set
waits at a station that sends, where its queue has room. A schedule entry that the next tick reaches leaves the schedule and
acts as that FIRE without a result, or is spent where FIRE would be refused, BOARD_MISS rising where the board had no room. That
SCHEDULE_ENTRY_FIRES is nothing at an entry that the next tick does not reach is the model's choice (assumption log 7), and so
are that a link state that bars FIRE comes before the want of room (log 32) and that the COURSE with the fire flag is handed
last, so that it waits in place of any COURSE or RELEASE that the FIRE has brought about (log 27). -/
def Obligations.Fire : Prop :=
  (∀ (p : List Byte) (s : State), s.isUp → p.length = 1 →
    ((byteAt p 0 = 0 ∨ 15 < byteAt p 0) → exec (.fire p) s = .next (s.refusedWith .invalid)) ∧
    ∀ c : CourseNo, c ≠ 0 → byteAt p 0 = c.val →
      let barred := s.bus.link.bars = true ∨ s.isReleased c = true
      (barred → exec (.fire p) s = .next (s.refusedWith .refusedState)) ∧
      (¬ barred → s.canHaveRec c = false → exec (.fire p) s = .next (s.refusedWith .boardFull)) ∧
      (¬ barred → s.canHaveRec c = true →
        ∃ t, exec (.fire p) s = .next t ∧
          t.port.lastResult = .ok ∧ t.port.dataOut = [s.statusByte] ∧ t.settings = s.settings ∧
          t.steady = s.steady ∧ t.samples = s.samples ∧
          (∃ r, t.recOf c = some r ∧ r.state ≠ .opened) ∧
          (∀ z : ZoneNo,
            let r := s.prog.runs[z]
            (r.state = .armed → r.course = c → s.hasFired c = false → (∃ st ∈ r.body.stages, st.kind = .hold) →
              t.prog.runs[z].state.entered ∧ t.prog.runs[z].body = r.body) ∧
            (¬ (r.state = .armed ∧ r.course = c) → t.prog.runs[z] = r ∨
              (t.prog.runs[z].state = .done ∧ r.state.live = true ∧ r.course = c))) ∧
          (s.hasFired c = true → s.load.applied ≤ s.declaredQ → t.prog = s.prog ∧ t.heat = s.heat ∧ t.route = s.route) ∧
          (s.bus.link.sends = true → s.bus.queue.length < 10 →
            ∃ e ∈ t.bus.queue, e.waiting = true ∧ ∃ m sp pl w, e.body = .course (u8 c) m true sp pl w))) ∧
  ∀ (i : Fin 8) (s : State), s.inReset = false →
    (∀ e, s.course.schedule[i.val]? = some e → e.time ≠ (s.course.clock + 1) % 86400 →
      exec (.scheduleEntryFires i) s = .next s) ∧
    (s.course.schedule[i.val]? = none → exec (.scheduleEntryFires i) s = .next s) ∧
    ∀ e, s.course.schedule[i.val]? = some e → e.time = (s.course.clock + 1) % 86400 →
      let s1 : State := { s with course := { s.course with schedule := s.course.schedule.eraseIdx i } }
      ((s.bus.link.bars = true ∨ s.isReleased e.course = true) → exec (.scheduleEntryFires i) s = .next s1) ∧
      (s.bus.link.bars = false → s.canHaveRec e.course = false →
        ∃ t, exec (.scheduleEntryFires i) s = .next t ∧
          t = { s1 with port := { s.port with counters := t.port.counters } } ∧
          ∀ k, t.counter k = if k = .boardMiss then (s.counter k).bump else s.counter k) ∧
      (e.course ≠ 0 → s.port.configured = true → exec (.scheduleEntryFires i) s = .next (s1.afterFire e))

/-- R34, R90, R99, R101, R102: RELEASE is refused REFUSED_STATE at a station without the PASS role, in MONITOR, LEAVING and LEFT,
and for a course with no record or a RELEASED one; INVALID for a course outside 1–15; NOT_READY without FORCE for a record
that is not READY. Taken, it makes the record RELEASED with no hold, the service clock as its release time and the next
release order; the other stations' member entries stay; the station's ARMED and active runs of the course, and no others,
become DONE; an EARLY_RELEASE event with the member entries not READY, where the record was not READY, and the COURSE_RELEASED
event with the member entries are first in the queue; the RELEASED report is made; a COURSE notice of RELEASE waits at a station
that sends, where its queue has room; and a clear delay above 0 puts the course in the clearing list. A FORCE other than 0 is
set (assumption log 6). -/
def Obligations.Release : Prop :=
  ∀ (p : List Byte) (s : State), s.isUp → p.length = 2 →
    let barred := s.isPass = false ∨ s.bus.link.bars = true
    (barred → exec (.release p) s = .next (s.refusedWith .refusedState)) ∧
    (¬ barred → (byteAt p 0 = 0 ∨ 15 < byteAt p 0) → exec (.release p) s = .next (s.refusedWith .invalid)) ∧
    ∀ c : CourseNo, ¬ barred → c ≠ 0 → byteAt p 0 = c.val →
      ((s.recOf c = none ∨ s.isReleased c = true) → exec (.release p) s = .next (s.refusedWith .refusedState)) ∧
      ∀ r, s.recOf c = some r → r.state ≠ .released → BoardSafe s →
        (r.state ≠ .ready → byteAt p 1 = 0 → exec (.release p) s = .next (s.refusedWith .notReady)) ∧
        ((r.state = .ready ∨ byteAt p 1 ≠ 0) →
          ∃ t, exec (.release p) s = .next t ∧
            t.port.lastResult = .ok ∧ t.port.dataOut = [s.statusByte] ∧ t.settings = s.settings ∧
            t.steady = s.steady ∧ t.samples = s.samples ∧
            (∃ r', t.recOf c = some r' ∧
              r' = { r with state := .released, hold := 0, origin := none, releaseTime := some s.course.clock,
                            releaseAge := 0, readyRaised := false, repeatCount := 0,
                            releaseOrder := some (s.course.board.filter fun x => x.state = .released).length,
                            members := r'.members } ∧
              (r'.members.filter fun m => m.station != s.own) = (r.members.filter fun m => m.station != s.own)) ∧
            (t.course.board.filter fun x => x.course != c) = (s.course.board.filter fun x => x.course != c) ∧
            (∀ z : ZoneNo, t.prog.runs[z] =
              if s.prog.runs[z].state.live = true ∧ s.prog.runs[z].course = c then
                { s.prog.runs[z] with state := .done, late := false }
              else s.prog.runs[z]) ∧
            t.queuesFirst s
              ((if r.state = .ready then []
                else [{ kind := .earlyRelease, course := c, zone := none, station := some s.own,
                        value := BitVec.ofNat 16 (r.members.filter fun m => m.standing != .ready).length }]) ++
                [{ kind := .courseReleased, course := c, zone := none, station := some s.own,
                   value := BitVec.ofNat 16 r.members.length }]) ∧
            t.port.mailbox =
              s.port.mailbox.put s.course.clock (.courseReleased c s.own (decide (r.state ≠ .ready))) ∧
            (s.bus.link.sends = true → s.bus.queue.length < 12 →
              ∃ e ∈ t.bus.queue, e.waiting = true ∧ ∃ pl w, e.body = .course (u8 c) 8 false 0 pl w) ∧
            (r.clearDelay = 0 → t.course.clearing = s.course.clearing) ∧
            (0 < r.clearDelay →
              t.course.clearing.getLast? = some { course := c, remaining := r.clearDelay * 60, delay := r.clearDelay }))

/-- R95–R98, R100: a hold request, by HOLD or by a HOLD notice, sets the record's hold to quanta × 4 s and its origin to the own
number or the sender; quanta 0 clears both; an OPEN record stays OPEN, and a fired one is HELD while its hold is above 0 and not
HELD at 0. A request above 0 that makes a FIRED or READY record HELD makes the HELD report with the course, the clock, the
origin and the hold; one on an OPEN or HELD record makes none. HOLD refuses a course outside 1–15 or quanta above 255 INVALID,
and MONITOR, LEAVING, LEFT, no record and a RELEASED record REFUSED_STATE; taken, its HOLD notice waits at a station that sends,
where its queue has room. A notice with sender 0, with a course outside 1–15, with no record or with a RELEASED one is counted
as heard and otherwise ignored. HOLD_EXPIRY ends a hold of 1 s: a HELD record is FIRED, or, its course ready, READY, with the
COURSE_READY event, its report and its alert cause, or at a PASS station with auto-release released. The automatic late hold:
ZONE_LATE at a run that makes the own entry of a record LATE requests the late quanta with the own number, and hands its HOLD.
That HOLD_EXPIRY is nothing otherwise is the model's choice (assumption log 7); warm plates out of an event's or report's range
are free values (log 31). -/
def Obligations.HoldRequests : Prop :=
  (∀ (p : List Byte) (s : State), s.isUp → p.length = 3 →
    ((byteAt p 0 = 0 ∨ 15 < byteAt p 0 ∨ 255 < wordAt p 1) → exec (.hold p) s = .next (s.refusedWith .invalid)) ∧
    ∀ c : CourseNo, c ≠ 0 → byteAt p 0 = c.val → wordAt p 1 ≤ 255 →
      ((s.bus.link.bars = true ∨ s.recOf c = none ∨ s.isReleased c = true) →
        exec (.hold p) s = .next (s.refusedWith .refusedState)) ∧
      ∀ r, s.bus.link.bars = false → s.recOf c = some r → r.state ≠ .released →
        ∃ t, exec (.hold p) s = .next t ∧
          t.port.lastResult = .ok ∧ t.port.dataOut = [s.statusByte] ∧ t.settings = s.settings ∧
          t.steady = s.steady ∧ t.samples = s.samples ∧
          (∃ r', t.recOf c = some r' ∧ r'.holds (wordAt p 1) s.own r) ∧
          t.reportsHeld s r (wordAt p 1) s.own ∧
          (t.course.board.filter fun x => x.course != c) = (s.course.board.filter fun x => x.course != c) ∧
          (s.bus.link.sends = true → s.bus.queue.length < 10 →
            ∃ e ∈ t.bus.queue, e.waiting = true ∧ e.body = .hold (u8 c) (u8 (wordAt p 1)))) ∧
  (∀ (sender : Station) (seq course quanta : Byte) (s : State),
    let n : Notice := { sender := sender, seq := seq, body := .hold course quanta }
    s.takesNotice n →
    ((sender = 0 ∨ course.toNat = 0 ∨ 15 < course.toNat) →
      exec (.holdHeard sender seq course quanta) s = .next (s.counted n)) ∧
    ∀ c : CourseNo, sender ≠ 0 → c ≠ 0 → course.toNat = c.val →
      ((s.recOf c = none ∨ s.isReleased c = true) →
        exec (.holdHeard sender seq course quanta) s = .next (s.counted n)) ∧
      ∀ r, s.recOf c = some r → r.state ≠ .released →
        ∃ t, exec (.holdHeard sender seq course quanta) s = .next t ∧
          t.settings = s.settings ∧ t.steady = (s.counted n).steady ∧ t.samples = s.samples ∧
          t.reportsHeld s r quanta.toNat sender ∧
          (∃ r', t.recOf c = some r' ∧ r'.holds quanta.toNat sender r ∧
            (quanta = 0 → r.state.isFired = true → r'.settled))) ∧
  (∀ (c : CourseNo) (s : State), s.inReset = false →
    ((∀ r, s.recOf c = some r → r.state = .released ∨ r.hold ≠ 1) → exec (.holdExpiry c) s = .next s) ∧
    ∀ r, s.recOf c = some r → r.state ≠ .released → r.hold = 1 →
      ∃ t, exec (.holdExpiry c) s = .next t ∧ t.settings = s.settings ∧ t.steady = s.steady ∧ t.samples = s.samples ∧
        (∃ r', t.recOf c = some r' ∧ r'.hold = 0 ∧ r'.origin = none ∧ r'.state ≠ .held ∧
          (r.state = .opened → r'.state = .opened) ∧
          (r.state = .held → ¬ { r with hold := 0 }.meetsReady → r'.state = .fired) ∧
          (r.state = .held → { r with hold := 0 }.meetsReady →
            r'.state = if s.isPass ∧ r.auto then .released else .ready)) ∧
        (r.state = .held → { r with hold := 0 }.meetsReady → r.readyRaised = false → ¬ (s.isPass = true ∧ r.auto = true) →
          let warm := (r.members.map (·.warm)).sum
          t.isPending .courseReady = true ∧
          ∃ v w, (warm ≤ 32767 → v = BitVec.ofNat 16 warm) ∧ (warm ≤ 65535 → w = BitVec.ofNat 16 warm) ∧
            t.queues s [{ kind := .courseReady, course := c, zone := none, station := none, value := v }] ∧
            t.port.mailbox = s.port.mailbox.put s.course.clock (.courseReady c w))) ∧
  ∀ (z : ZoneNo) (s : State), s.inReset = false → BoardSafe s →
    let run := s.prog.runs[z]
    let ticked : State := { s with prog := { s.prog with
      runs := s.prog.runs.set z { run with elapsed := min 7200 (run.elapsed + 1), late := true } } }
    run.state = .heating → run.late = false → run.body.heatLimit < run.elapsed + 1 → run.course ≠ 0 →
    ∀ r, s.recOf run.course = some r → r.state ≠ .released →
      s.prog.given[run.course] = ((r.member s.own).map fun m => (m.standing, m.warm)) →
      (r.member s.own).map (·.standing) ≠ some .late → (ticked.report run.course).map (·.1) = some .late →
      ∃ t, exec (.zoneLate z) s = .next t ∧
        (∃ r', t.recOf run.course = some r' ∧ r'.holds s.course.lateQuanta s.own r ∧
          (r'.member s.own).map (·.standing) = some .late) ∧
        ((∀ c : CourseNo, c ≠ run.course → s.report c = s.prog.given[c]) → t.reportsHeld s r s.course.lateQuanta s.own) ∧
        (s.bus.link.sends = true → s.bus.queue.length ≤ 4 →
          ∃ e ∈ t.bus.queue, e.waiting = true ∧ e.body = .hold (u8 run.course) (u8 s.course.lateQuanta))

/-- R87, R92, R93, R98, R100, R101: a COURSE notice heard, once counted. One whose course is outside 1–15 or whose member state is
none of the eight is ignored, and so is a RELEASE or a WITHDRAWN for a course with no record, and any notice for a RELEASED one
but that of a member at a PASS station, which hands the RELEASE again. A RELEASE for another record releases it, for the sender
(log 35). Any other notice makes a record where there is none (BOARD_MISS rises where the board has no room), takes its plates
needed above 0, clamped, and gives or takes the member entry of a sender in the peer table, no other but the own changing;
with the fire flag an OPEN record is fired; and the record's readiness is evaluated, an auto-release record being released at a
PASS station. That a sender outside the peer table changes no member entry but the own, and sets no fire-flag-seen flag, is the
model's choice (assumption log 23). -/
def Obligations.CourseHeard : Prop :=
  ∀ (sender : Station) (seq course member : Byte) (fire : Bool) (spare : BitVec 5) (plates warm : Option Half) (s : State),
    let n : Notice := { sender := sender, seq := seq, body := .course course member fire spare plates warm }
    let cmd := n.heardAs
    let others := fun (l : List Member) => l.filter fun m => m.station != s.own
    s.takesNotice n →
    ((course.toNat = 0 ∨ 15 < course.toNat ∨ member.toNat = 0 ∨ 8 < member.toNat) → exec cmd s = .next (s.counted n)) ∧
    ∀ c : CourseNo, c ≠ 0 → course.toNat = c.val →
      (s.recOf c = none → (member = 6 ∨ member = 8) → exec cmd s = .next (s.counted n)) ∧
      (s.isReleased c = true → (member = 6 ∨ member = 7 ∨ member = 8 ∨ s.isPass = false) →
        exec cmd s = .next (s.counted n)) ∧
      (∀ r, s.recOf c = some r → r.state = .released → 1 ≤ member.toNat → member.toNat ≤ 5 → s.isPass = true →
        ∃ t, exec cmd s = .next t ∧
          t = { s.counted n with
            course := { s.course with board := t.course.board }, bus := t.bus, page := t.page,
            port := { (s.counted n).port with counters := t.port.counters } } ∧
          t.steady = (s.counted n).steady ∧ t.recOf c = some { r with repeatCount := 0 } ∧
          (s.bus.link.sends = true → s.bus.queue.length < 12 →
            ∃ e ∈ t.bus.queue, e.waiting = true ∧
              ∃ w, e.body = .course (u8 c) 8 false 0 (some (BitVec.ofNat 16 r.plates)) w)) ∧
      (s.recOf c = none → 1 ≤ member.toNat → member.toNat ≤ 7 → member ≠ 6 → s.boardHasRoom = false →
        exec cmd s = .next (bump .boardMiss (s.counted n))) ∧
      (∀ r, s.recOf c = some r → r.state ≠ .released → member = 8 →
        ∃ t, exec cmd s = .next t ∧ t.settings = s.settings ∧ t.steady = (s.counted n).steady ∧ t.samples = s.samples ∧
          t.isReleased c = true ∧
          (∃ r', t.recOf c = some r' ∧ r'.releaseTime = some s.course.clock ∧ r'.hold = 0 ∧ r'.origin = none) ∧
          t.queuesFirst s
            ((if r.state = .ready then []
              else [{ kind := .earlyRelease, course := c, zone := none, station := some sender,
                      value := BitVec.ofNat 16 (r.members.filter fun m => m.standing != .ready).length }]) ++
              [{ kind := .courseReleased, course := c, zone := none, station := some sender,
                 value := BitVec.ofNat 16 r.members.length }]) ∧
          ∀ z : ZoneNo, t.prog.runs[z] =
            if s.prog.runs[z].state.live = true ∧ s.prog.runs[z].course = c then
              { s.prog.runs[z] with state := .done, late := false }
            else s.prog.runs[z]) ∧
      (s.isReleased c = false → s.canHaveRec c = true → (s.recOf c = none → member ≠ 6) →
          1 ≤ member.toNat → member.toNat ≤ 7 →
        ∃ t, exec cmd s = .next t ∧ t.settings = s.settings ∧ t.steady = (s.counted n).steady ∧ t.samples = s.samples ∧
          ∃ r', t.recOf c = some r' ∧
            (∀ k, plates = some k → k ≠ 0 → r'.plates = min 4000 k.toNat) ∧
            (∀ r, s.recOf c = some r → (plates = none ∨ plates = some 0) → r'.plates = r.plates) ∧
            (s.isMemberPeer sender = true →
              (∀ st, Standing.ofCode member.toNat = some st →
                ∃ m, r'.member sender = some m ∧ m.standing = st ∧
                  m.warm = (match warm with | some k => min 4000 k.toNat | none => 0) ∧
                  (fire = true → m.fireSeen = true)) ∧
              (6 ≤ member.toNat → r'.member sender = none)) ∧
            (BoardSafe s → ∀ r, s.recOf c = some r →
              (s.isMemberPeer sender = false → others r'.members = others r.members) ∧
              (s.isMemberPeer sender = true → ((others r'.members).filter fun m => m.station != sender) =
                ((others r.members).filter fun m => m.station != sender))) ∧
            (s.recOf c = none → s.isMemberPeer sender = false → others r'.members = []) ∧
            r'.settled ∧
            (∀ r, s.recOf c = some r → r.state ≠ .ready → s.isPass = true → r'.state = .ready → r'.auto = false) ∧
            (fire = true → r'.state ≠ .opened))

/-- R89, R91, R102: RELEASE_AGE_EXPIRY removes a RELEASED record whose release age stands at 299; CLEAR_CALL takes out a
clearing list entry whose last second has come and raises its CLEAR_CALL event with its delay as value; COURSE_REPEAT hands
the COURSE notice of an involved record whose repeat count stands at 3, and returns the count to 0. Each is nothing
otherwise. That last clause is the model's choice (assumption log 7). -/
def Obligations.CourseMoments : Prop :=
  ∀ (c : CourseNo) (s : State), s.inReset = false →
    ((∀ r, s.recOf c = some r → r.state ≠ .released ∨ r.releaseAge < 299) → exec (.releaseAgeExpiry c) s = .next s) ∧
    (∀ r, s.recOf c = some r → r.state = .released → 299 ≤ r.releaseAge →
      ∃ t, exec (.releaseAgeExpiry c) s = .next t ∧
        t = { s with course := { s.course with board := t.course.board } } ∧
        t.course.board.map (·.course) = (s.course.board.filter fun x => x.course != c).map (·.course)) ∧
    ((∀ e, s.course.clearing.find? (fun e => e.course == c) = some e → 1 < e.remaining) →
      exec (.clearCall c) s = .next s) ∧
    (∀ e, s.course.clearing.find? (fun e => e.course == c) = some e → e.remaining ≤ 1 →
      exec (.clearCall c) s = .next
        (raise { kind := .clearCall, course := c, zone := none, station := none, value := BitVec.ofNat 16 e.delay }
          { s with course := { s.course with clearing := s.course.clearing.filter fun e => e.course != c } })) ∧
    ((∀ r, s.recOf c = some r → s.involved r = false ∨ r.repeatCount < 3) → exec (.courseRepeat c) s = .next s) ∧
    (∀ r, s.recOf c = some r → s.involved r = true → 3 ≤ r.repeatCount →
      ∃ t, exec (.courseRepeat c) s = .next t ∧
        t = { s with course := { s.course with board := t.course.board }, bus := t.bus, page := t.page,
                     port := { s.port with counters := t.port.counters } } ∧
        t.recOf c = some { r with repeatCount := 0 } ∧ t.steady = s.steady ∧
        (s.bus.link.sends = true → s.bus.queue.length < 12 →
          ∃ e ∈ t.bus.queue, e.waiting = true ∧ e.body.key = some (.course (u8 c))))

/-- R25, R30, R33, R81, R82, R84, R89, R91, R95, R97, R102, R117, R121, R122, R147, R148: a tick. The clock rises by 1, past
86,399 to 0; the schedule entries of the new time leave it, and no record of their courses, the link not barring them, is left
OPEN; a run that stays HEATING or COOKING in its stage, or HOLDING, counts a second; the racks on a RUNNING conveyor take a
second, and the dwell is tested; the wash view ages and loses what reaches 30; the WARE repeat count rises, or the WARE is
handed at 10; a SENT page with 2 s or more to wait waits 1 s less, and a DEFERRED one below 119 s counts 1 s if it stays. At a
tick that no schedule entry is due at: a hold above 1 s falls by 1, unless the own entry is or turns LATE, a late hold at half
or less is renewed, and a RELEASED record ages and at 300 s is removed; and, unless a PASS station holds an auto-release record,
the clearing list falls by 1 each, an entry at 0 leaving with its CLEAR_CALL, and a record the station is involved in counts its
repeat, at 4 returning to 0 with the COURSE notice of R90 handed. Where the station sends and the queue has room for all that a
tick can hand, that COURSE, and the WARE due, wait in it. The order of the blocks is the model's choice (assumption log 9), and
so is that the WARE count moves only where the ware block is active (log 28). -/
def Obligations.ServiceClockTick : Prop :=
  ∀ s : State, s.inReset = false → PagesSafe s → BoardSafe s →
    let now := (s.course.clock + 1) % 86400
    let quiet := ∀ e ∈ s.course.schedule, e.time ≠ now
    let manual := s.isPass = false ∨ ∀ r ∈ s.course.board, r.auto = false
    let roomy := s.bus.link.sends = true ∧ s.bus.queue.length + s.page.pages.length ≤ 3
    let ownState := fun r : CourseRec => (r.member s.own).map (·.standing)
    let dwells := s.ware.conveyor = .running ∧ ∃ r rest, s.ware.racks = r :: rest ∧ s.ware.maxDwell < min 65535 (r.running + 1)
    ∃ t, exec .serviceClockTick s = .next t ∧
      t.course.clock = now ∧
      t.course.schedule = (s.course.schedule.filter fun e => e.time != now) ∧
      t.settings = s.settings ∧ t.bus.link = s.bus.link ∧ t.heat.step = s.heat.step ∧ t.relay = s.relay ∧
      (∀ z : ZoneNo, t.heat.zones[z].temp = s.heat.zones[z].temp ∧ t.heat.zones[z].age = s.heat.zones[z].age ∧
        t.heat.zones[z].isOver = s.heat.zones[z].isOver) ∧
      (s.bus.link.bars = false → ∀ e ∈ s.course.schedule, e.time = now → ∀ r ∈ t.course.board, r.course = e.course →
        r.state ≠ .opened) ∧
      (∀ z : ZoneNo,
        let a := s.prog.runs[z]
        let b := t.prog.runs[z]
        (a.state = .heating → b.state = .heating → b.stage = a.stage →
          b.elapsed = min 7200 (a.elapsed + 1) ∧ (a.body.heatLimit < a.elapsed + 1 → b.late = true)) ∧
        (a.state = .cooking → (∃ st ∈ a.body.stages.drop (a.stage + 1), st.kind = .hold) → b.state = .cooking →
          b.stage = a.stage → b.elapsed = min 7200 (a.elapsed + 1)) ∧
        (a.state = .holding → b.state = .holding →
          b.holdElapsed = min 3601 (a.holdElapsed + 1) ∧ (a.body.holdLimit < a.holdElapsed + 1 → b.holdOver = true)) ∧
        (a.state = .idle ∨ a.state = .done ∨ a.state = .fault → b = a)) ∧
      (quiet → ∀ r ∈ s.course.board,
        (r.state ≠ .released → 2 ≤ r.hold → ∃ r', t.recOf r.course = some r' ∧
          (ownState r ≠ some .late → ownState r' ≠ some .late → r'.hold = r.hold - 1 ∧ r'.origin = r.origin)) ∧
        (r.state ≠ .released → ownState r = some .late → r.hold ≤ s.course.lateQuanta * 2 + 1 →
          ∃ r', t.recOf r.course = some r' ∧ r'.hold = s.course.lateQuanta * 4) ∧
        (r.state = .released → r.releaseAge < 299 → ∃ r', t.recOf r.course = some r' ∧ r'.state = .released ∧
          r'.releaseAge = r.releaseAge + 1) ∧
        (r.state = .released → 299 ≤ r.releaseAge → t.recOf r.course = none)) ∧
      (quiet → manual →
        t.course.clearing = ((s.course.clearing.filter fun e => 1 < e.remaining).map fun e =>
          { e with remaining := e.remaining - 1 }) ∧
        (∀ e ∈ s.course.clearing, e.remaining ≤ 1 → s.bus.link.takesEvents = true →
          { kind := .clearCall, course := e.course, zone := none, station := none, value := BitVec.ofNat 16 e.delay } ∈
              t.route.events ∨ 16 ≤ t.route.events.length) ∧
        ∀ r ∈ s.course.board, s.involved r = true → ∃ r', t.recOf r.course = some r' ∧
          (((r'.member s.own).map fun m => (m.standing, m.warm)) = ((r.member s.own).map fun m => (m.standing, m.warm)) →
            r'.repeatCount = if 3 ≤ r.repeatCount then 0 else r.repeatCount + 1) ∧
          (3 ≤ r.repeatCount → roomy → ∃ e ∈ t.bus.queue, e.waiting = true ∧ e.body = t.tells r')) ∧
      t.ware.racks = (if s.ware.conveyor = .running then
          s.ware.racks.map fun r => { r with running := min 65535 (r.running + 1) }
        else s.ware.racks) ∧
      (¬ dwells → t.ware.conveyor = s.ware.conveyor) ∧ (dwells → t.faultedBy .dwell s) ∧
      t.ware.repeatCount = (if s.wareActive = true ∧ s.bus.link.sends = true then
        (if 9 ≤ s.ware.repeatCount then 0 else s.ware.repeatCount + 1) else s.ware.repeatCount) ∧
      (s.wareActive = true → 9 ≤ s.ware.repeatCount → roomy → ∃ e ∈ t.bus.queue, e.waiting = true ∧
        e.body = .ware (if t.ware.levelHigh then 1 else 0) (BitVec.ofNat 16 t.backlog)
          (match t.ware.conveyor with | .off => 0 | .waiting => 1 | .running => 2 | .fault => 3)) ∧
      t.ware.wash = (s.ware.wash.map fun e => { e with age := e.age + 1 }).filter (fun e => e.age < 30) ∧
      ∀ p ∈ s.page.pages,
        (p.state = .sent → 2 ≤ p.timer → ∃ p' ∈ t.page.pages, p'.number = p.number ∧ p'.state = .sent ∧ p'.timer = p.timer - 1) ∧
        (p.state = .deferred → p.timer < 119 → ∃ p' ∈ t.page.pages, p'.number = p.number ∧
          (p'.state = .deferred → p'.timer = p.timer + 1) ∧ (t.backlogHigh = true → p'.state = .deferred))

/-! ### Load sharing -/

/-- R49–R53: the grants of the live set under the usable limit U. Every station's demand Q where they fit (T ≤ U); the floors
F scaled to U where it does not cover them; otherwise its F, a first extra min(floor(R × W / ΣW), Q − F) with ΣW over the
stations that want more than F, and, out of the slack, a second extra over the uncapped stations, what is then left going one
LU at a time, in ascending station number, to uncapped stations below their Q. No station gets more than its Q, and the
grants never exceed U. -/
def Obligations.GrantCases : Prop :=
  ∀ (usable : Nat) (rows : List LiveRow), (∀ r ∈ rows, r.f ≤ r.q ∧ 1 ≤ r.w) →
    let g := liveGrants usable rows
    let floors := (rows.map (·.f)).sum
    let total := (rows.map (·.q)).sum
    let rest := usable - floors
    let wants := rows.filter fun r => r.f < r.q
    let weight := (wants.map (·.w)).sum
    let first := fun r : LiveRow => min (rest * r.w / weight) (r.q - r.f)
    let slack := rest - (rows.map first).sum
    let open_ := rows.filter fun r => rest * r.w / weight < r.q - r.f
    let weight2 := (open_.map (·.w)).sum
    let second := fun r : LiveRow =>
      if rest * r.w / weight < r.q - r.f then min (slack * r.w / weight2) (r.q - r.f - first r) else 0
    g.length = rows.length ∧
    (total ≤ usable → g = rows.map (·.q)) ∧
    (usable < total → usable ≤ floors →
      g = sweptOver usable (rows.map fun r => r.f * usable / floors) (rows.map (·.f)) ∧ g.sum = usable) ∧
    (usable < total → floors < usable →
      g = sweptOver (floors + rest) (rows.map fun r => r.f + first r + second r)
        (rows.map fun r => if rest * r.w / weight < r.q - r.f then r.q else 0)) ∧
    (g.zip rows).all (fun x => x.1 ≤ x.2.q) = true ∧ g.sum ≤ usable

/-- R42, R45–R48, R53–R57: a load-period expiry. The table ages: an entry not heard rises in its missed count and goes at 3, and
the flags of those that stay are cleared; in LISTEN the third expiry ends the listen interval; the grant is computed for the
link state then in force (min(F, S) in LISTEN, by the loss mode in ALONE, the own grant of the live set in JOINED, 0 elsewhere);
the applied grant becomes min(G, A + ramp), which the heat block follows, with no peer lost and no move of the link (a peer lost
or a move may lower it first); a clash episode not heard ends; the curtailment test is made, and where it comes to hold its
CURTAILED event is the last in the queue; and a station in JOINED or ALONE has a LOAD notice with the figures of this expiry
waiting where its transmit queue has room. That its D, with no peer lost and no move, is the declared draw of before the ramp is
the model's choice (assumption log 27). -/
def Obligations.LoadPeriodExpiry : Prop :=
  ∀ s : State, s.inReset = false → TablesSafe s → BoardSafe s →
    let calm := (∀ p ∈ s.load.peers, p.heard = true ∨ p.missed < 2) ∧ ¬ (s.bus.link = .listen ∧ 2 ≤ s.load.listenCount)
    ∃ t, exec .loadPeriodExpiry s = .next t ∧
      t.settings = s.settings ∧ t.heat.step = s.heat.step ∧ t.course.clock = s.course.clock ∧
      t.course.schedule = s.course.schedule ∧ t.relay = s.relay ∧
      t.load.peers.map (fun p => (p.station, p.q, p.f, p.w, p.d, p.l, p.missed, p.heard)) =
        ((s.load.peers.filter fun p => p.heard || decide (p.missed < 2)).map fun p =>
          (p.station, p.q, p.f, p.w, p.d, p.l, if p.heard then p.missed else p.missed + 1, false)) ∧
      (t.bus.link = .listen → t.load.grant = min t.declaredF s.load.solo) ∧
      (t.bus.link = .alone → s.load.safe = true → t.load.grant = min t.declaredF s.load.solo) ∧
      (t.bus.link = .alone → s.load.safe = false → t.load.grant = min t.declaredQ s.load.solo) ∧
      (t.bus.link = .joined → t.load.grant = grantIn t.liveTable s.own) ∧
      (t.bus.link.heats = false → t.load.grant = 0) ∧
      (calm → t.bus.link = s.bus.link ∧ t.load.applied = min t.load.grant (s.load.applied + s.load.ramp) ∧
        t.heat = (applyGrant t.load.applied s).heat ∧ t.prog = s.prog ∧ t.course = s.course) ∧
      t.load.applied ≤ t.load.grant ∧ t.load.applied ≤ s.load.applied + s.load.ramp ∧
      (∀ p ∈ t.load.peers, (t.bus.link = .listen ∨ t.bus.link = .alone ∨ t.bus.link.heats = false ∧ t.bus.link ≠ .monitor) →
        p.grant = 0) ∧
      (t.bus.link = .joined ∨ (t.bus.link = .monitor ∧ s.port.configured = true) →
        ∀ p ∈ t.load.peers, p.grant = grantIn t.liveTable p.station) ∧
      (s.load.clashHeard = false → t.load.clash = false) ∧ t.load.clashHeard = false ∧
      (s.bus.link = .listen → s.load.listenCount < 2 →
        t.bus.link = .listen ∧ t.load.listenCount = s.load.listenCount + 1) ∧
      (s.bus.link = .listen → s.load.listenCount = 2 →
        t.bus.link = if t.load.peers.isEmpty then .alone else .joined) ∧
      t.load.curtailCount =
        (if t.bus.link.heats = true ∧ t.load.grant < t.declaredQ / 2 then min 5 (s.load.curtailCount + 1) else 0) ∧
      (t.load.curtailed = true ↔
        (t.bus.link.heats = true ∧ (t.load.grant < t.declaredF ∨ t.load.curtailCount = 5))) ∧
      (let event : Event :=
        { kind := .curtailed, course := 0, zone := none, station := none, value := BitVec.ofNat 16 t.load.grant }
       (t.load.curtailed = true → s.load.curtailed = false → t.queuedLast s event) ∧
       (calm → t.queues s (if t.load.curtailed = true ∧ s.load.curtailed = false then [event] else []))) ∧
      (t.bus.link.sends = true →
          s.bus.queue.length + (s.page.pages.filter fun p => p.state = .deferred).length ≤ 6 →
        ∃ e ∈ t.bus.queue, e.waiting = true ∧ ∃ d,
          e.body = .load (BitVec.ofNat 16 t.declaredQ) (BitVec.ofNat 16 t.declaredF) (u8 s.load.weight) d
            (BitVec.ofNat 16 s.load.limit) ∧
          (calm → d = BitVec.ofNat 16 s.heat.draw))

/-- R41–R43, R45, R62: a LOAD heard, once counted. From sender 0 it is discarded; with the own number it latches
NUMBER_CLASH, raises the event with its Q where no episode stands, and is not stored; from any other station its figures,
clamped, refresh that station's entry or make a new one (if the table has room), missed 0 and heard, no other entry changing;
a station in ALONE whose table was empty is then JOINED; and the limit mismatch is tested again, its LIMIT_MISMATCH event, with
the lowest-numbered station whose L differs and that L, last in the queue where the condition comes to stand. LISTEN_END is the
third expiry of LISTEN: JOINED, or ALONE with an empty table. That LISTEN_END is nothing at any other moment is the model's
choice (assumption log 7), and that the clash event carries the clamped Q is read from R41 and R42 together (log 18). -/
def Obligations.LoadHeard : Prop :=
  (∀ (sender : Station) (seq : Byte) (q f : Half) (w : Byte) (d l : Half) (s : State),
    let n : Notice := { sender := sender, seq := seq, body := .load q f w d l }
    let cmd : Instr := .loadHeard sender seq q f w d l
    let c := s.counted n
    let found := s.load.peers.any fun p => p.station == sender
    s.takesNotice n →
    (sender = 0 → exec cmd s = .next c) ∧
    (sender ≠ 0 → sender = s.own →
      (s.load.clash = true →
        exec cmd s = .next (latch .numberClash { c with load := { s.load with clash := true, clashHeard := true } })) ∧
      (s.load.clash = false →
        ∃ t, exec cmd s = .next t ∧ t.load = { s.load with clash := true, clashHeard := true } ∧
          t.isPending .numberClash = true ∧
          (s.bus.link.takesEvents = true → s.route.events.length < 16 →
            t.route.events = s.route.events ++
              [{ kind := .numberClash, course := 0, zone := none, station := some s.own,
                 value := BitVec.ofNat 16 (min 2040 q.toNat) }]) ∧
          t = { c with load := t.load, route := t.route,
                       port := { c.port with counters := t.port.counters, latched := t.port.latched } })) ∧
    (sender ≠ 0 → sender ≠ s.own → (found = true ∨ s.load.peers.length < 30) →
      ∃ t, exec cmd s = .next t ∧ t.settings = s.settings ∧ t.course = s.course ∧ t.page.pages.length = s.page.pages.length ∧
        (∃ p, t.load.peers.find? (fun p => p.station == sender) = some p ∧
          p.q = min 2040 q.toNat ∧ p.f = min p.q f.toNat ∧ p.w = max 1 (min 15 w.toNat) ∧ p.d = min 2040 d.toNat ∧
          p.l = max 10 (min 6000 l.toNat) ∧ p.missed = 0 ∧ p.heard = true ∧ (found = false → p.grant = 0)) ∧
        (∀ p, p.station ≠ sender → (p ∈ t.load.peers ↔ p ∈ s.load.peers)) ∧
        t.bus.link = (if s.bus.link = .alone ∧ s.load.peers = [] then .joined else s.bus.link) ∧
        (s.port.configured = true →
          t.load.mismatch = t.load.peers.any fun p => p.l != s.load.limit) ∧
        (s.port.configured = true → s.load.mismatch = false →
          ∀ l1 p l2, t.load.peers = l1 ++ p :: l2 → p.l ≠ s.load.limit → (∀ x ∈ l1, x.l = s.load.limit) →
            let event : Event :=
              { kind := .limitMismatch, course := 0, zone := none, station := some p.station, value := BitVec.ofNat 16 p.l }
            t.queuedLast s event ∧ (s.load.peers ≠ [] → t.queues s [event]))) ∧
    (sender ≠ 0 → sender ≠ s.own → found = false → 30 ≤ s.load.peers.length → exec cmd s = .next c)) ∧
  ∀ s : State, s.inReset = false →
    (¬ (s.bus.link = .listen ∧ s.load.listenCount = 2) → exec .listenEnd s = .next s) ∧
    (s.bus.link = .listen → s.load.listenCount = 2 →
      ∃ t, exec .listenEnd s = .next t ∧ t.settings = s.settings ∧ t.load.listenCount = 3 ∧
        t.bus.link = (if s.load.peers = [] then .alone else .joined) ∧ t.load.peers = s.load.peers ∧
        t.prog = s.prog ∧ t.course = s.course)

/-- R44, R46, R103, R122: a peer lost, by a LEAVE heard or by its third period missed. Its entry goes from the peer table, its
member entry from every course record and its entry from the wash view, the others standing (but the own entry of a record that
the loss makes ready and releases); for every record not RELEASED that held it, a MEMBER_LOST event with the station and the
count of member entries left stands in the queue, unless that has filled, and a MEMBER_LOST report of this clock with the
station and the course stands in the mailbox, unless the mailbox has overrun (an earlier event or report with the same contents
may be the one that stands); JOINED with no peer left becomes ALONE. A LEAVE from a station that the table does not hold is only
counted. PEER_AGED_OUT at a peer not at its third miss is nothing, and so is WASH_VIEW_AGE_OUT at an entry not at its last
second. The last clause is the model's choice (assumption log 7). -/
def Obligations.PeersLost : Prop :=
  ∀ (st : Station) (s : State),
    let lost := fun t : State =>
      t.settings = s.settings ∧ t.load.peers = (s.load.peers.filter fun p => p.station != st) ∧
      t.course.board.map (·.course) = s.course.board.map (·.course) ∧
      (st ≠ s.own → ∀ r ∈ s.course.board, ∃ r', t.recOf r.course = some r' ∧
        (r'.members.filter fun m => m.station != s.own) =
          (r.members.filter fun m => m.station != s.own && m.station != st) ∧
        (r.state = .released ∨ r'.state ≠ .released → r'.member s.own = r.member s.own ∧ r'.plates = r.plates) ∧
        (r.state ≠ .released → r'.settled ∨ r.members.any (fun m => m.station == st) = false) ∧
        (r.state ≠ .released → r.members.any (fun m => m.station == st) = true →
          (s.bus.link.takesEvents = true →
            { kind := .memberLost, course := r.course, zone := none, station := some st,
              value := BitVec.ofNat 16 (r.members.filter fun m => m.station != st).length } ∈ t.route.events ∨
              16 ≤ t.route.events.length) ∧
          ((∃ i, ∃ x ∈ (t.port.mailbox.bank i).reports, x.clock = s.course.clock ∧ x.body = .memberLost st r.course) ∨
            t.isPending .mailboxOverrun = true))) ∧
      t.ware.wash = (s.ware.wash.filter fun e => e.station != st) ∧
      t.bus.link = (if s.bus.link = .joined ∧ (s.load.peers.filter fun p => p.station != st) = [] then .alone else s.bus.link)
    let holds := s.load.peers.any fun p => p.station == st
    (∀ seq : Byte,
      let n : Notice := { sender := st, seq := seq, body := .leave }
      s.takesNotice n →
      (holds = false → exec (.leaveHeard st seq) s = .next (s.counted n)) ∧
      (holds = true → BoardSafe s → ∃ t, exec (.leaveHeard st seq) s = .next t ∧ lost t)) ∧
    (s.inReset = false →
      let brink := s.load.peers.any fun p => p.station == st && !p.heard && 2 ≤ p.missed
      (brink = false → exec (.peerAgedOut st) s = .next s) ∧
      (brink = true → BoardSafe s → ∃ t, exec (.peerAgedOut st) s = .next t ∧ lost t) ∧
      let old := s.ware.wash.any fun e => e.station == st && 29 ≤ e.age
      (old = false → exec (.washViewAgeOut st) s = .next s) ∧
      (old = true →
        ∃ t, exec (.washViewAgeOut st) s = .next t ∧ t.settings = s.settings ∧
          t.ware = { s.ware with wash := s.ware.wash.filter fun e => e.station != st } ∧
          t.page.pages.map (·.number) = s.page.pages.map (·.number) ∧
          (s.ware.wash.all (fun e => e.station == st) = true → s.ware.levelHigh = false →
            ∀ p ∈ t.page.pages, p.state ≠ .deferred)))

/-! ### The Passbus -/

/-- R59, R71, R72, R75: the access machine. LINE_IDLE and LINE_BUSY follow the line: from DEFERRED an idle line opens a gap, and
in the gap a busy one defers; a line that turns busy while the station hears no notices has a start mark that is missed.
ACCESS_GAP_EXPIRY puts the head into transmission: the class A notice of earliest entry order, or B, or C. BACKOFF_EXPIRY seeks
the line again. Every gap entered is the class gap of the head and 0 to 7 slots of 16 µs. Outside the machine's state for it,
each is nothing but the sensing of the line. The guards of these commands are the model's choice (assumption log 8), and so is
that LINE_BUSY alone tells a start mark (log 11); each draw is a free value (log 4). -/
def Obligations.Access : Prop :=
  ∀ s : State, s.inReset = false →
    let gapFor := fun (h : TxEntry) (g : Nat) =>
      let base := match h.body.txClass with | .a => 48 | .b => 96 | .c => 144
      ∃ k, k < 8 ∧ g = base + 16 * k
    let seeks := fun (t : State) (busy missed : Bool) =>
      t = { s with bus := { s.bus with lineBusy := busy, startMissed := missed, access := t.bus.access, gapUs := t.bus.gapUs,
                                       draws := t.bus.draws } } ∧
      (headOf s.bus.queue = none → t.bus.access = .empty) ∧
      ∀ h, headOf s.bus.queue = some h →
        (busy = true → t.bus.access = .deferred) ∧ (busy = false → t.bus.access = .gap ∧ gapFor h t.bus.gapUs)
    (∃ t, exec .lineIdle s = .next t ∧
      (s.bus.access = .deferred → seeks t false false) ∧
      (s.bus.access = .sending → t = s) ∧
      (s.bus.access ≠ .deferred → s.bus.access ≠ .sending →
        t = { s with bus := { s.bus with lineBusy := false, startMissed := false } })) ∧
    exec .lineBusy s = .next { s with bus := { s.bus with
      lineBusy := true, startMissed := !s.bus.link.hears,
      access := if s.bus.access = .gap then .deferred else s.bus.access } } ∧
    (s.bus.access ≠ .gap → exec .accessGapExpiry s = .next s) ∧
    (s.bus.access = .gap → ∀ h, headOf s.bus.queue = some h → TxSafe s →
      (∃ l1 l2, s.bus.queue = l1 ++ h :: l2 ∧ h.waiting = true ∧
        (∀ e ∈ l1, e.waiting = true → e.body.txClass ≠ h.body.txClass) ∧
        (∀ e ∈ s.bus.queue, e.waiting = true → e.body.txClass = .a → h.body.txClass = .a) ∧
        (h.body.txClass = .c → ∀ e ∈ s.bus.queue, e.waiting = true → e.body.txClass = .c) ∧
        exec .accessGapExpiry s = .next { s with bus := { s.bus with
          queue := l1 ++ { h with onLine := true } :: l2, access := .sending, lineBusy := true } })) ∧
    (s.bus.access ≠ .backoff → exec .backoffExpiry s = .next s) ∧
    (s.bus.access = .backoff → ∃ t, exec .backoffExpiry s = .next t ∧ seeks t s.bus.lineBusy s.bus.startMissed)

/-- R70, R72, R73, R74, R79, R146: how a transmission ends. A notice that completes leaves the queue and counts NOTICES_SENT; a
PAGE so sent that is a page's current notice makes it SENT, with the answer time of its priority. A collision puts the notice
back with one more attempt and a backoff of 0 to 2^min(n, 5) − 1 slots of 64 µs; at the eighth it leaves and counts
CONTENTION_DROP; one left by RESTART leaves and counts nothing. A wait of 500 ms: DEFER_DROP, at a head 1 ms short of it, takes
the head out and counts DEFER_DROP, and is nothing at a head with less. A LEAVE that completes or is dropped takes the station
to LEFT, with WITHDRAW_DONE latched and every block at what it holds after entry to LEFT (R21, R25, R38, R58, R80, R105, R125,
R139, R156, R165), the zero grant taking effect as a decrease (R18) and a notice then being taken discarded (R75). The guards of
these commands are the model's choice (assumption log 7 and 8), and so is that a line busy on entry to LEFT tells a notice then
being taken (log 11); each draw is a free value (log 4), and a newer waiting notice of the same key is as log 12 gives. -/
def Obligations.TransmissionEnds : Prop :=
  ∀ s : State, s.inReset = false → TxSafe s →
    let ended := fun (e : TxEntry) (k : CounterName) (t : State) =>
      (¬ (e.orphan = false ∧ e.body = .leave) → t.bus.queue = s.bus.queue.filter fun x => x.id != e.id) ∧
      t.counter k = (s.counter k).bump ∧
      (e.orphan = false → e.body = .leave →
        let busy := if k = .noticesSent then false else s.bus.lineBusy
        t.settings = s.settings ∧ t.isPending .withdrawDone = true ∧ (∀ j, j ≠ k → t.counter j = s.counter j) ∧
          t.port = { s.port with counters := t.port.counters, latched := t.port.latched } ∧
          t.bus = { s.bus with
            link := .left, lineBusy := busy, startMissed := s.bus.startMissed || busy, access := .empty, queue := [],
            repeats := t.bus.repeats } ∧
          (∀ st : Station, t.bus.repeats[st] = none) ∧
          (∀ z : ZoneNo, t.prog.runs[z] = Run.idle) ∧ (∀ c : CourseNo, t.prog.plates[c] = 0) ∧
          t.heat.step = s.heat.step ∧ t.heat.windowGrant = 0 ∧
          t.heat.draw = (if s.heat.windowGrant = 0 then s.heat.draw
            else (zoneNos.map fun z => t.heat.zones[z].plan.length * s.heat.zones[z].rating).sum / 20) ∧
          (∀ z : ZoneNo, t.heat.zones[z] =
            { s.heat.zones[z] with
              on := false, plan := s.heat.zones[z].plan.filter (· ≤ s.heat.step),
              allot := if s.heat.windowGrant = 0 then s.heat.zones[z].allot else 0 }) ∧
          t.load = { s.load with
            peers := [], grant := 0, applied := 0, expiryGrant := t.load.expiryGrant, clash := false, clashHeard := false,
            mismatch := false, curtailCount := 0, curtailed := false } ∧
          t.course = { s.course with schedule := [], board := [], clearing := [] } ∧
          t.ware = { s.ware with
            enable := false, waiting := 0, racks := [], conveyor := .off, subCause := none, margin := false,
            heldLow := false, levelHigh := false, repeatCount := 0, wash := [] } ∧
          t.route = { s.route with events := [], evaluation := none } ∧ t.page = { s.page with pages := [] } ∧
          t.relay.list = [] ∧ t.relay.exchange = .idle ∧ t.relay.key = none ∧ t.relay.timerOn = false) ∧
      (e.orphan = false → e.body ≠ .leave →
        t.bus.link = s.bus.link ∧ t.heat = s.heat ∧ t.prog = s.prog ∧ t.load = s.load ∧ t.course = s.course ∧
          t.ware = s.ware ∧ t.route = s.route ∧ t.page.groups = s.page.groups)
    (s.bus.access ≠ .sending →
      exec .collision s = .next s ∧ exec .noticeCompleted s = .next s) ∧
    (s.bus.access.waits = false → exec .deferDrop s = .next s) ∧
    (∀ e, s.bus.access = .sending → onLineOf s.bus.queue = some e →
      (∃ t, exec .noticeCompleted s = .next t ∧ ended e .noticesSent t ∧
        (e.orphan = false → e.body ≠ .leave → ∀ p, s.page.pages.find? (fun p => p.current == some e.id) = some p →
          PagesSafe s → ∃ p' ∈ t.page.pages, p'.number = p.number ∧ p'.state = .sent ∧ p'.current = none ∧
            p'.timer = (if p.priority ≤ 3 then 90 else if p.priority ≤ 6 then 45 else 20))) ∧
      (e.orphan = true → ∃ t, exec .collision s = .next t ∧ t.port = s.port ∧
        t.bus.queue = s.bus.queue.filter fun x => x.id != e.id) ∧
      (e.orphan = false → e.attempts < 7 →
        ∃ t, exec .collision s = .next t ∧
          t = { s with bus := { s.bus with queue := t.bus.queue, access := .backoff, backoffUs := t.bus.backoffUs,
                                           draws := t.bus.draws } } ∧
          (∃ k, k < 2 ^ min (e.attempts + 1) 5 ∧ t.bus.backoffUs = 64 * k) ∧
          ((∀ x ∈ s.bus.queue, x.waiting = true → e.body.key.isSome = true → x.body.key ≠ e.body.key) →
            ∀ l1 l2, s.bus.queue = l1 ++ e :: l2 →
              t.bus.queue = l1 ++ { e with onLine := false, attempts := e.attempts + 1 } :: l2)) ∧
      (e.orphan = false → 7 ≤ e.attempts → ∃ t, exec .collision s = .next t ∧ ended e .contentionDrop t)) ∧
    ∀ e, s.bus.access.waits = true → headOf s.bus.queue = some e →
      (e.waitMs < 499 → exec .deferDrop s = .next s) ∧
      (499 ≤ e.waitMs → e.orphan = false →
        ∃ t, exec .deferDrop s = .next t ∧ ended e .deferDrop t ∧
          (e.body ≠ .leave → ∀ p ∈ t.page.pages, p.current ≠ some e.id))

/-- R75, R76, R77: the receiver. Bytes past 32 count TRUNCATED, bytes that fail the check count BAD_CHECK, and a kind that is
none of the seven counts nothing; a receiver that is off takes nothing, nor anything of a notice whose start mark came while it
was off. The bytes of a good notice act as that notice heard. A notice heard while the station is itself sending is not
accepted, and a repeat, a notice with the sender, sequence and check of the sender's repeat record within its second, has no
effect; any other notice replaces that record alone and counts NOTICES_HEARD. How the second of a repeat is told, and that the
bytes of a good notice are taken as that notice, are the model's choices (assumption log 3 and 21), and so is how a missed start
mark is told (log 11). -/
def Obligations.Receiver : Prop :=
  (∀ (bytes : List Byte) (s : State), s.inReset = false →
    (s.bus.link.hears = false ∨ s.bus.startMissed = true → exec (.noticeDiscarded bytes) s = .next s) ∧
    (s.bus.link.hears = true → s.bus.startMissed = false →
      (32 < bytes.length → exec (.noticeDiscarded bytes) s = .next (bump .truncated s)) ∧
      (receive bytes = .badCheck → exec (.noticeDiscarded bytes) s = .next (bump .badCheck s)) ∧
      (receive bytes = .unknownKind → exec (.noticeDiscarded bytes) s = .next s) ∧
      (bytes.length < 4 → receive bytes = .badCheck) ∧
      ∀ n : Notice, bytes = n.bytes → exec (.noticeDiscarded bytes) s = exec n.heardAs s)) ∧
  ∀ (n : Notice) (s : State), s.inReset = false →
    (s.bus.link.hears = false ∨ s.bus.startMissed = true → exec n.heardAs s = .next s) ∧
    (s.bus.access = .sending → exec n.heardAs s = .next s) ∧
    (∀ r, s.bus.repeats[n.sender] = some r → r.seq = n.seq → r.check = n.check → r.recent = true →
      exec n.heardAs s = .next s) ∧
    (s.takesNotice n →
      (s.counted n).bus.repeats[n.sender] =
        some { seq := n.seq, check := n.check, idleMs := 0, halves := 0, ticks := 0 } ∧
      (∀ st, st ≠ n.sender → (s.counted n).bus.repeats[st] = s.bus.repeats[st]) ∧
      (s.counted n).counter .noticesHeard = (s.counter .noticesHeard).bump ∧
      ∃ t, exec n.heardAs s = .next t ∧ t.bus.repeats = (s.counted n).bus.repeats)

/-! ### Ware return -/

/-- R20, R107, R113–R116, R119, R120: WARE SET, CONVEYOR RESET and SANITIZE ACK at a station without the CONVEYOR role
are refused REFUSED_STATE, and so are WARE SET in LEFT and CONVEYOR RESET out of FAULT. WARE SET replaces the enable flag and
the waiting count, clamped; CONVEYOR RESET clears the fault and every rack's running seconds and keeps the racks; after
either, and after a change of the OE input, the conveyor stands as R114 gives unless it is in FAULT. A stop with a rack in the
queue raises CONVEYOR_STOP, and a level turned HIGH BACKLOG_HIGH. SANITIZE ACK makes the held result GOOD. A low OE turns every
heater output and both ware outputs off. A flag parameter other than 0 is set (assumption log 6). -/
def Obligations.WareCommands : Prop :=
  (∀ (p : List Byte) (s : State), s.isUp →
    (p.length = 3 →
      ((s.isConveyor = false ∨ s.bus.link = .left) → exec (.wareSet p) s = .next (s.refusedWith .refusedState)) ∧
      (s.isConveyor = true → s.bus.link ≠ .left →
        ∃ t, exec (.wareSet p) s = .next t ∧
          t.port.lastResult = .ok ∧ t.port.dataOut = [s.statusByte] ∧ t.settings = s.settings ∧
          t.ware.enable = (byteAt p 0 != 0) ∧ t.ware.waiting = min 999 (wordAt p 1) ∧ t.ware.racks = s.ware.racks ∧
          t.backlog = min 999 (min 999 (wordAt p 1) + s.ware.racks.length) ∧
          t.conveyorStands s ∧ t.levelStands s ∧ t.queues s (t.stopEvents s ++ t.highEvents s) ∧
          t.heat = s.heat ∧ t.prog = s.prog ∧ t.load = s.load ∧ t.course = s.course ∧ t.relay = s.relay)) ∧
    (p.length = 0 →
      ((s.isConveyor = false ∨ s.ware.conveyor ≠ .fault) →
        exec (.conveyorReset p) s = .next (s.refusedWith .refusedState)) ∧
      (s.isConveyor = true → s.ware.conveyor = .fault →
        exec (.conveyorReset p) s = .next (answerFrame s.statusByte [] .ok
          { s with ware := { s.ware with
            subCause := none, racks := s.ware.racks.map fun r => { r with running := 0 },
            conveyor := s.conveyorFor, margin := s.ware.margin && s.conveyorFor != .running } })) ∧
      (s.isConveyor = false → exec (.sanitizeAck p) s = .next (s.refusedWith .refusedState)) ∧
      (s.isConveyor = true →
        exec (.sanitizeAck p) s = .next (answerFrame s.statusByte [] .ok
          { s with ware := { s.ware with heldLow := false } })))) ∧
  ∀ (high : Bool) (s : State), s.inReset = false →
    ∃ t, exec (.oeInterlockChange high) s = .next t ∧
      t.oe = high ∧ t.settings = s.settings ∧ t.conveyorStands s ∧ t.queues s (t.stopEvents s) ∧
      t.prog = s.prog ∧ t.load = s.load ∧ t.bus = s.bus ∧ t.course = s.course ∧ t.page = s.page ∧ t.relay = s.relay ∧
      (∀ z : ZoneNo, t.heat.zones[z] = { s.heat.zones[z] with on := high && s.heat.zones[z].on }) ∧
      t.ware = { s.ware with conveyor := t.ware.conveyor, margin := t.ware.margin } ∧
      (high = false → t.conveyorOut = false ∧ t.sanitizeOut = false ∧ ∀ z, t.heaterOut z = false)

/-- R109–R112, R118, R120: the rack sensors' edges. Where the ware block is not active, nothing. ENTRY appends a LOADED rack with
the next sequence and the clock, or at 24 racks faults the conveyor (RACK_LOST). RINSE makes the oldest LOADED rack RINSED
with the rinse zone's temperature, CLEAN only if that is fresh and at or above the sanitize minimum, or with none faults it
(SENSOR). EXIT removes the oldest rack: CLEAN counts RACKS_CLEAN; REWASH, and a rack still LOADED, counts RACKS_REWASH, makes
the held result LOW, the report and the RINSE_FAIL event, and a LOADED one faults the conveyor (SENSOR); with no rack the held
result is LOW and the conveyor faults (UNTRACKED). A level turned HIGH raises BACKLOG_HIGH, and a fault of a conveyor not in
FAULT raises CONVEYOR_FAULT with its sub-cause 1 to 4. -/
def Obligations.RackEdges : Prop :=
  ∀ s : State, s.inReset = false →
    (s.wareActive = false →
      exec .entryEdge s = .next s ∧ exec .rinseEdge s = .next s ∧ exec .exitEdge s = .next s) ∧
    (s.wareActive = true →
      let q := s.ware.racks
      let rinseFail := fun (temp : Option Int) =>
        ({ kind := .rinseFail, course := 0, zone := some s.ware.rinseZone, station := none,
           value := BitVec.ofInt 16 (temp.getD (-32768)) } : Event)
      (∃ t, exec .entryEdge s = .next t ∧ t.settings = s.settings ∧ t.heat = s.heat ∧ t.prog = s.prog ∧
        t.ware.heldLow = s.ware.heldLow ∧ t.port.mailbox = s.port.mailbox ∧
        (q.length < 24 →
          t.ware.racks = q ++ [{ seq := s.ware.nextSeq, entry := s.course.clock, rinsed := false, running := 0,
                                 temp := none, result := none }] ∧
          t.ware.nextSeq = (s.ware.nextSeq + 1) % 65536 ∧ t.ware.conveyor = s.ware.conveyor ∧ t.levelStands s ∧
          t.queues s (t.highEvents s)) ∧
        (24 ≤ q.length → t.ware.racks = q ∧ t.ware.nextSeq = s.ware.nextSeq ∧ t.faultedBy .rackLost s ∧
          t.queues s (s.anomalyEvents .rackLost))) ∧
      (∃ t, exec .rinseEdge s = .next t ∧ t.settings = s.settings ∧ t.heat = s.heat ∧ t.prog = s.prog ∧
        t.bus = s.bus ∧ t.page = s.page ∧ t.port.mailbox = s.port.mailbox ∧
        (∀ l1 r l2, q = l1 ++ r :: l2 → r.rinsed = false → (∀ x ∈ l1, x.rinsed = true) →
          let zn := s.heat.zones[s.ware.rinseZone]
          let clean := zn.age < 6 ∧ ∃ x, zn.temp = some x ∧ (s.ware.sanMin : Int) ≤ x
          ∃ r', t.ware.racks = l1 ++ r' :: l2 ∧
            r' = { r with rinsed := true, temp := zn.temp, result := r'.result } ∧
            (clean → r'.result = some .clean) ∧ (¬ clean → r'.result = some .rewash) ∧
            t = { s with ware := { s.ware with racks := t.ware.racks } }) ∧
        ((∀ x ∈ q, x.rinsed = true) → t.ware.racks = q ∧ t.faultedBy .sensor s ∧ t.queues s (s.anomalyEvents .sensor))) ∧
      (∃ t, exec .exitEdge s = .next t ∧ t.settings = s.settings ∧ t.heat = s.heat ∧ t.prog = s.prog ∧
        t.ware.nextSeq = s.ware.nextSeq ∧ t.ware.racks = q.tail ∧
        (q = [] → t.ware.heldLow = true ∧ t.port.mailbox = s.port.mailbox.put s.course.clock .rackUntracked ∧
          t.faultedBy .untracked s ∧ t.queues s (s.anomalyEvents .untracked) ∧
          t.counter .racksClean = s.counter .racksClean ∧ t.counter .racksRewash = s.counter .racksRewash) ∧
        ∀ r rest, q = r :: rest →
          t.levelStands s ∧
          (r.rinsed = true → r.result = some .clean →
            t.ware.heldLow = s.ware.heldLow ∧ t.port.mailbox = s.port.mailbox ∧ t.ware.conveyor = s.ware.conveyor ∧
            t.queues s (t.highEvents s) ∧
            t.counter .racksClean = (s.counter .racksClean).bump ∧
            t.counter .racksRewash = s.counter .racksRewash) ∧
          (r.rinsed = false ∨ r.result ≠ some .clean →
            t.ware.heldLow = true ∧
            t.port.mailbox = s.port.mailbox.put s.course.clock
              (.rackRewash r.seq r.entry (if r.rinsed then r.temp else none)) ∧
            t.counter .racksRewash = (s.counter .racksRewash).bump ∧
            t.counter .racksClean = s.counter .racksClean ∧
            (r.rinsed = true → t.ware.conveyor = s.ware.conveyor ∧ t.queues s (t.highEvents s ++ [rinseFail r.temp])) ∧
            (r.rinsed = false → t.faultedBy .sensor s ∧
              t.queues s (t.highEvents s ++ [rinseFail none] ++ s.anomalyEvents .sensor)))))

/-- R117, R121, R122: DWELL_FAULT at a RUNNING conveyor whose oldest rack stands at the maximum dwell takes that second and
faults the conveyor (DWELL), with its CONVEYOR_FAULT event; WARE_REPEAT at a repeat count of 9 hands the WARE notice again and
returns the count to 0; each is nothing otherwise. A WARE heard, once counted, gives the wash view the sender's entry at level
HIGH (unless four others fill it) and takes it away at NORMAL; one from sender 0 or the own number, with a level other than 0
and 1 or with no conveyor state, is ignored. What is nothing otherwise is so by the model's choice (assumption log 7). -/
def Obligations.WareMoments : Prop :=
  (∀ s : State, s.inReset = false →
    let due := s.ware.conveyor = .running ∧ ∃ r rest, s.ware.racks = r :: rest ∧ s.ware.maxDwell < r.running + 1
    (¬ due → exec .dwellFault s = .next s) ∧
    (due → s.ware.maxDwell < 65535 →
      ∃ t, exec .dwellFault s = .next t ∧ t.settings = s.settings ∧ t.faultedBy .dwell s ∧
        t.queues s (s.anomalyEvents .dwell) ∧
        t.ware.racks = s.ware.racks.map (fun r => { r with running := min 65535 (r.running + 1) }) ∧
        t.heat = s.heat ∧ t.prog = s.prog ∧ t.load = s.load ∧ t.bus = s.bus ∧ t.course = s.course ∧ t.page = s.page) ∧
    let hands := s.wareActive = true ∧ s.bus.link.sends = true ∧ 9 ≤ s.ware.repeatCount
    (¬ hands → exec .wareRepeat s = .next s) ∧
    (hands →
      ∃ t, exec .wareRepeat s = .next t ∧ t.settings = s.settings ∧
        t.ware = { s.ware with repeatCount := 0 } ∧ t.course = s.course ∧ t.heat = s.heat ∧
        (s.bus.queue.length < 12 →
          ∃ e ∈ t.bus.queue, e.waiting = true ∧ e.body =
            .ware (if s.ware.levelHigh then 1 else 0) (BitVec.ofNat 16 s.backlog)
              (match s.ware.conveyor with | .off => 0 | .waiting => 1 | .running => 2 | .fault => 3)))) ∧
  ∀ (sender : Station) (seq level : Byte) (backlog : Half) (conveyor : Byte) (s : State),
    let n : Notice := { sender := sender, seq := seq, body := .ware level backlog conveyor }
    let cmd : Instr := .wareHeard sender seq level backlog conveyor
    let others := s.ware.wash.filter fun e => e.station != sender
    s.takesNotice n →
    ((sender = 0 ∨ sender = s.own ∨ 1 < level.toNat ∨ 3 < conveyor.toNat) → exec cmd s = .next (s.counted n)) ∧
    (sender ≠ 0 → sender ≠ s.own → conveyor.toNat ≤ 3 → level.toNat ≤ 1 →
      ∃ t, exec cmd s = .next t ∧ t.settings = s.settings ∧
        t.ware = { s.ware with wash := t.ware.wash } ∧ t.course = s.course ∧ t.heat = s.heat ∧ t.load = s.load ∧
        (∀ e, e.station ≠ sender → (e ∈ t.ware.wash ↔ e ∈ s.ware.wash)) ∧
        (level = 0 → t.ware.wash = others) ∧
        (level = 1 → (s.ware.wash.any (fun e => e.station == sender) = true ∨ s.ware.wash.length < 4) →
          ∃ e ∈ t.ware.wash, e.station = sender ∧ e.backlog = min 999 backlog.toNat ∧ e.age = 0 ∧
            e.conveyor.code = conveyor.toNat) ∧
        (level = 1 → others = s.ware.wash → 4 ≤ s.ware.wash.length → t.ware.wash = s.ware.wash))

/-! ### Routing and pages -/

/-- R132, R140, R141, R157: RULE WRITE, GROUP WRITE, COVERAGE WRITE and DUTY write one entry of their table and no other, or are
refused INVALID with an index, a group, a type, a property, a comparison, an action, a base or a mask out of range. A rule's
fields that its type does not use are held as 0 or clear. A group put off duty has its QUEUED pages below priority 7 WAITING
with no current notice, and one put on duty its WAITING pages QUEUED; no other page changes. A flag parameter other than 0 is
set (assumption log 6), and which fields each type has tested is as log 19 gives. -/
def Obligations.TableWrites : Prop :=
  ∀ (p : List Byte) (s : State), s.inReset = false →
    (p.length = 10 →
      let testing := byteAt p 1 = 1 ∧ byteAt p 7 = 0
      let bad := 31 < byteAt p 0 ∨ 4 < byteAt p 1 ∨ 7 < byteAt p 2 ∨ 3 < byteAt p 3 ∨ 1 < byteAt p 7 ∨
        (testing ∧ 31 < byteAt p 8)
      (bad → exec (.ruleWrite p) s = .next (s.refusedWith .invalid)) ∧
      (¬ bad → ∀ i : Fin 32, byteAt p 0 = i.val →
        ∃ t, exec (.ruleWrite p) s = .next t ∧
          t = answerFrame s.statusByte [] .ok { s with route := { s.route with
            rules := s.route.rules.set i t.route.rules[i] } } ∧
          let r := t.route.rules[i]
          r.type.code = byteAt p 1 ∧
          (byteAt p 1 = 0 ∨ byteAt p 1 = 4 → r = { Rule.blank with type := r.type }) ∧
          (byteAt p 1 = 2 → r = { Rule.blank with type := .setMask, value := join16 (p.getD 4 0) (p.getD 5 0) }) ∧
          (byteAt p 1 = 1 ∨ byteAt p 1 = 3 →
            r.property.code = byteAt p 2 ∧ r.compare.code = byteAt p 3 ∧
              r.value = join16 (p.getD 4 0) (p.getD 5 0)) ∧
          (byteAt p 1 = 3 → r.andFlag = false ∧ r.reject = false ∧ r.group = 0 ∧ r.priority = 0 ∧ r.defer = false) ∧
          (byteAt p 1 = 1 → r.andFlag = (p.getD 6 0).getLsbD 0 ∧ r.reject = (byteAt p 7 == 1) ∧
            (byteAt p 7 = 0 → r.group.val = byteAt p 8 ∧ r.priority = max 1 (min 7 (byteAt p 9)) ∧
              r.defer = (p.getD 6 0).getLsbD 1) ∧
            (byteAt p 7 = 1 → r.group = 0 ∧ r.priority = 0 ∧ r.defer = false)))) ∧
    (p.length = 3 →
      ((31 < byteAt p 0 ∨ 31 < byteAt p 1) → exec (.groupWrite p) s = .next (s.refusedWith .invalid)) ∧
      ∀ g e : GroupNo, byteAt p 0 = g.val → byteAt p 1 = e.val →
        ∃ t, exec (.groupWrite p) s = .next t ∧
          t.port.lastResult = .ok ∧ t.port.dataOut = [s.statusByte] ∧
          t.page.groups = s.page.groups.set g { escalation := e, onDuty := byteAt p 2 != 0 } ∧
          t.settings = { s.settings with groups := t.page.groups } ∧
          t.page.pages.map (·.number) = s.page.pages.map (·.number) ∧
          ((byteAt p 2 != 0) = s.page.groups[g].onDuty → t.page.pages = s.page.pages ∧ t.bus = s.bus) ∧
          ((byteAt p 2 != 0) ≠ s.page.groups[g].onDuty → PagesSafe s → t.dutyFollowed s g)) ∧
    (s.port.configured = true → p.length = 2 →
      (31 < byteAt p 0 → exec (.duty p) s = .next (s.refusedWith .invalid)) ∧
      ∀ g : GroupNo, byteAt p 0 = g.val →
        ∃ t, exec (.duty p) s = .next t ∧
          t.port.lastResult = .ok ∧ t.port.dataOut = [s.statusByte] ∧
          t.page.groups = s.page.groups.set g { s.page.groups[g] with onDuty := byteAt p 1 != 0 } ∧
          t.settings = { s.settings with groups := t.page.groups } ∧
          t.page.pages.map (·.number) = s.page.pages.map (·.number) ∧ (PagesSafe s → t.dutyFollowed s g)) ∧
    (p.length = 4 →
      ((3 < byteAt p 0 ∨ 31 < byteAt p 1 ∨ 31 < byteAt p 2) →
        exec (.coverageWrite p) s = .next (s.refusedWith .invalid)) ∧
      ∀ i : Fin 4, byteAt p 0 = i.val → byteAt p 1 ≤ 31 → byteAt p 2 ≤ 31 →
        let pair : Pair :=
          { base := BitVec.ofNat 5 (byteAt p 1), mask := BitVec.ofNat 5 (byteAt p 2), valid := byteAt p 3 != 0 }
        exec (.coverageWrite p) s = .next (answerFrame s.statusByte [] .ok
          { s with relay := { s.relay with pairs := s.relay.pairs.set i pair } }))

/-- R130, R133–R138: the routing block takes the oldest event when no evaluation is in progress, fixing the rule table, the
hour of the clock and whether backlog counts as high; otherwise taking is nothing. The evaluation ends with the request of
the deciding rule where it accepts, with no request where it rejects, and, where no chain decides, with a request to group 0
at priority 7 for a critical event and none for any other. A rule's test compares the property, under the mask, with its value
as unsigned numbers. The rules are read in order, EMPTY ones passed over, from the mask 65,535: a chain whose tests all pass
under the mask its lead-in sets decides by its last rule, and one that fails leaves the mask as it was before the lead-in; an
OPEN, which ends a cluster in progress, saves the mask and is tested, and where that fails the rules up to the next OPEN or
CLOSE are not read; a CLOSE returns the mask saved; SETMASKs before an OPEN stand; at the end of the table no chain decides.
That the end of no evaluation is nothing is the model's choice (assumption log 7). -/
def Obligations.Events : Prop :=
  (∀ s : State, s.inReset = false →
    ((s.route.evaluation.isSome = true ∨ s.route.events = []) → exec .takeEvent s = .next s) ∧
    (∀ e rest, s.route.evaluation = none → s.route.events = e :: rest →
      exec .takeEvent s = .next { s with route := { s.route with
        events := rest
        evaluation := some { event := e, rules := s.route.rules, hour := s.course.clock / 3600,
                             backlogHigh := !s.ware.wash.isEmpty || s.ware.levelHigh } } }) ∧
    (s.route.evaluation = none → exec .evaluationEnd s = .next s) ∧
    ∀ e, s.route.evaluation = some e →
      let s1 : State := { s with route := { s.route with evaluation := none } }
      (∀ r, e.decided = some r → r.reject = true → exec .evaluationEnd s = .next s1) ∧
      (∀ r, e.decided = some r → r.reject = false →
        exec .evaluationEnd s = .next (requestPage
          { group := r.group, priority := r.priority, code := e.event.kind.code, course := e.event.course,
            defer := r.defer, expiredOrigin := decide (e.event.kind = .pageExpired) } s1)) ∧
      (e.decided = none → e.event.kind.severity = 3 →
        exec .evaluationEnd s = .next (requestPage
          { group := 0, priority := 7, code := e.event.kind.code, course := e.event.course, defer := false,
            expiredOrigin := false } s1)) ∧
      (e.decided = none → e.event.kind.severity ≠ 3 → exec .evaluationEnd s = .next s1) ∧
      ((∀ i : Fin 32, e.rules[i].type = .empty) → e.decided = none)) ∧
  ∀ e : Evaluation,
    let v := e.event
    e.decided = readRules e (e.rules.toList.filter fun r => r.type != .empty)
      { mask := 0xffff, start := 0xffff, saved := none, mode := .reading } ∧
    (∀ (r : Rule) (mask : Half),
      let x : Nat := (mask &&& match r.property with
        | .kind => BitVec.ofNat 16 v.kind.code
        | .course => BitVec.ofNat 16 v.course
        | .zone => (v.zone.map fun z => BitVec.ofNat 16 z.val).getD 0xffff
        | .station => (v.station.map fun st => BitVec.ofNat 16 st.val).getD 0xffff
        | .value => v.value
        | .severity => BitVec.ofNat 16 v.kind.severity
        | .hour => BitVec.ofNat 16 e.hour
        | .backlog => if e.backlogHigh then 1 else 0).toNat
      r.passes e mask = match r.compare with
        | .eq => decide (x = r.value.toNat)
        | .ne => decide (x ≠ r.value.toNat)
        | .ge => decide (r.value.toNat ≤ x)
        | .lt => decide (x < r.value.toNat)) ∧
    ∀ (lead : List Rule) (st : Reading), st.mode = .reading → (∀ r ∈ lead, r.type = .setMask) →
      let led := ((lead.getLast?).map (·.value)).getD st.mask
      readRules e lead st = none ∧
      (∀ chain last rest, (∀ r ∈ chain, r.type = .test ∧ r.andFlag = true) → last.type = .test →
          (last.andFlag = true → ∀ r tail, rest = r :: tail → r.type ≠ .test) →
        ((∀ r ∈ chain ++ [last], r.passes e led = true) → readRules e (lead ++ chain ++ last :: rest) st = some last) ∧
        (¬ (∀ r ∈ chain ++ [last], r.passes e led = true) →
          readRules e (lead ++ chain ++ last :: rest) st = readRules e rest { st with mask := st.start })) ∧
      (∀ r rest, r.type = .opens →
        let m := st.saved.getD led
        readRules e (lead ++ r :: rest) st = readRules e
          (if r.passes e m then rest else rest.dropWhile fun x => x.type != .opens && x.type != .closes)
          { mask := m, start := m, saved := some m, mode := .reading }) ∧
      (∀ r rest, r.type = .closes →
        let m := st.saved.getD led
        readRules e (lead ++ r :: rest) st = readRules e rest { mask := m, start := m, saved := none, mode := .reading })

/-- R143–R146: a page request, as PAGE makes it. A group above 31 or a course above 15 is refused INVALID, LEAVING and LEFT
REFUSED_STATE. A page with the same group, message code and course takes the request, its priority rising where the request's
is higher; otherwise a new page is made, numbered afresh, in WAITING, DEFERRED or QUEUED; on a full queue it first evicts the
page not SENT of lowest priority, the earliest among equals, where its own priority is higher, and is otherwise refused FULL,
PAGES_DROPPED rising. A flag parameter other than 0 is set (assumption log 6). -/
def Obligations.PageRequests : Prop :=
  ∀ (p : List Byte) (s : State), s.isUp → p.length = 5 → PagesSafe s →
    let pr := max 1 (min 7 (byteAt p 1))
    let same := fun x : Page => x.group.val = byteAt p 0 ∧ x.code = byteAt p 2 ∧ x.course.val = byteAt p 3
    let bad := 31 < byteAt p 0 ∨ 15 < byteAt p 3
    let leaving := s.bus.link = .leaving ∨ s.bus.link = .left
    let q := s.page.pages
    (bad → exec (.page p) s = .next (s.refusedWith .invalid)) ∧
    (¬ bad → leaving → exec (.page p) s = .next (s.refusedWith .refusedState)) ∧
    (¬ bad → ¬ leaving →
      ∃ t, exec (.page p) s = .next t ∧ t.settings = s.settings ∧ t.port.dataOut = [s.statusByte] ∧
        t.heat = s.heat ∧ t.prog = s.prog ∧ t.load = s.load ∧ t.course = s.course ∧ t.ware = s.ware ∧ t.route = s.route ∧
        t.relay = s.relay ∧ t.bus.link = s.bus.link ∧
        (∀ x ∈ q, same x →
          t.port.lastResult = .ok ∧ t.page.pages.map (·.number) = q.map (·.number) ∧
          t.counter .pagesMade = s.counter .pagesMade ∧
          ∃ y ∈ t.page.pages, y.number = x.number ∧ y.priority = max x.priority pr ∧ y.attempt = x.attempt ∧
            y.defer = x.defer ∧ y.expiredOrigin = x.expiredOrigin ∧ (x.state ≠ .waiting → y.state = x.state)) ∧
        ((∀ x ∈ q, ¬ same x) →
          let room := q.length < 16
          let victim := fun v : Page => v ∈ q ∧ v.state ≠ .sent ∧ v.priority < pr ∧
            ∃ l1 l2, q = l1 ++ v :: l2 ∧ (∀ x ∈ l1, x.state ≠ .sent → v.priority < x.priority) ∧
              ∀ x ∈ l2, x.state ≠ .sent → v.priority ≤ x.priority
          (16 ≤ q.length → (∀ x ∈ q, x.state ≠ .sent → pr ≤ x.priority) →
            t.port.lastResult = .full ∧ t.page = s.page ∧ t.counter .pagesDropped = (s.counter .pagesDropped).bump) ∧
          ∀ left : List Page,
            ((room ∧ left = q) ∨ (16 ≤ q.length ∧ ∃ v, victim v ∧ left = q.filter fun x => x.number != v.number)) →
            t.port.lastResult = .ok ∧ t.counter .pagesMade = (s.counter .pagesMade).bump ∧
            t.counter .pagesDropped = (if room then s.counter .pagesDropped else (s.counter .pagesDropped).bump) ∧
            ∃ y, t.page.pages.map (·.number) = left.map (·.number) ++ [y.number] ∧ y ∈ t.page.pages ∧ same y ∧
              1 ≤ y.number ∧ y.number ≤ 255 ∧ (∀ x ∈ left, x.number ≠ y.number) ∧
              y.priority = pr ∧ y.attempt = 0 ∧ y.defer = (byteAt p 4 != 0) ∧ y.expiredOrigin = false ∧ y.timer = 0 ∧
              y.state =
                (if s.page.groups[y.group].onDuty = false ∧ pr < 7 then .waiting
                  else if y.defer = true ∧ s.backlogHigh = true then .deferred else .queued)))

/-- R147, R148, R150–R152, R164: the moments of a page. PAGE_TIMEOUT at a SENT page whose last second has come, and a
DECLINE heard that names the page's current attempt, escalate it: at attempt 2, or where its group escalates to itself, it
expires, with its EXPIRED report, PAGE_EXPIRED latched and, unless it was itself made from a PAGE_EXPIRED event, the
PAGE_EXPIRED event with its number; otherwise it moves to the group above at the next attempt and a priority one higher, unless
it folds into a page already there. An ACCEPT heard for the station removes the page with an ANSWERED report. An active relay
drops the page's records. DEFERRAL_LIMIT at 119 s takes a page out of DEFERRED. Each is nothing, but for the count of the
notice and the relay, where no page stands so. Those last clauses are the model's choice (assumption log 7), and so is that a
DECLINE of a later attempt is ignored, and an ACCEPT taken whatever attempt and pager it names (log 22). -/
def Obligations.PageMoments : Prop :=
  ∀ (number : Byte) (s : State), s.inReset = false → PagesSafe s →
    let escalates := fun (x : Page) (t : State) =>
      let up := s.page.groups[x.group].escalation
      let others := s.page.pages.filter fun y => y.number != x.number
      let folds := ∃ y ∈ others, y.group = up ∧ y.code = x.code ∧ y.course = x.course
      t.settings = s.settings ∧
      ((x.attempt = 2 ∨ up = x.group) →
        t.page.pages = others ∧ t.isPending .pageExpired = true ∧
        t.port.mailbox = s.port.mailbox.put s.course.clock
          (.expired x.number x.attempt x.group x.priority x.code x.course) ∧
        t.queues s (if x.expiredOrigin then [] else
          [{ kind := .pageExpired, course := x.course, zone := none, station := none, value := BitVec.ofNat 16 x.number }]) ∧
        t.counter .pagesEscalated = s.counter .pagesEscalated) ∧
      (x.attempt ≠ 2 → up ≠ x.group →
        t.counter .pagesEscalated = (s.counter .pagesEscalated).bump ∧ t.route = s.route ∧
        (folds → t.page.pages.map (·.number) = others.map (·.number)) ∧
        (¬ folds → t.page.pages.map (·.number) = s.page.pages.map (·.number) ∧
          ∃ y ∈ t.page.pages, y.number = x.number ∧ y.group = up ∧ y.attempt = x.attempt + 1 ∧
            y.priority = min 7 (x.priority + 1) ∧ y.code = x.code ∧ y.course = x.course ∧ y.timer = 0 ∧
            y.state =
              if s.page.groups[up].onDuty = false ∧ y.priority < 7 then .waiting else .queued))
    let page := s.page.pages.find? fun x => x.number == number.toNat
    (page = none → exec (.pageTimeout number) s = .next s ∧ exec (.deferralLimit number) s = .next s) ∧
    (∀ x, page = some x →
      (¬ (x.state = .sent ∧ x.timer ≤ 1) → exec (.pageTimeout number) s = .next s) ∧
      (x.state = .sent → x.timer ≤ 1 → ∃ t, exec (.pageTimeout number) s = .next t ∧ escalates x t) ∧
      (¬ (x.state = .deferred ∧ 119 ≤ x.timer) → exec (.deferralLimit number) s = .next s) ∧
      (x.state = .deferred → 119 ≤ x.timer →
        ∃ t, exec (.deferralLimit number) s = .next t ∧ t.settings = s.settings ∧
          t.page.pages.map (·.number) = s.page.pages.map (·.number) ∧
          ∃ y ∈ t.page.pages, y.number = x.number ∧ y.timer = 0 ∧
            y.state = if s.page.groups[x.group].onDuty = false ∧ x.priority < 7 then .waiting else .queued)) ∧
    ∀ (sender : Station) (seq origin attempt : Byte) (pager : Half) (reply : Byte),
      let n : Notice := { sender := sender, seq := seq, body := .answer origin number attempt pager reply }
      let cmd : Instr := .answerHeard sender seq origin number attempt pager reply
      let relay : Relay := if s.relayActive then
          { s.relay with list := s.relay.list.filter fun x =>
            !(x.key.origin.val == origin.toNat && x.key.number == number.toNat) }
        else s.relay
      s.takesNotice n →
      (1 < reply.toNat → exec cmd s = .next (s.counted n)) ∧
      (reply.toNat ≤ 1 → (origin.toNat ≠ s.own.val ∨ page = none) → exec cmd s = .next { s.counted n with relay := relay }) ∧
      ∀ x, page = some x → origin.toNat = s.own.val →
        (reply = 0 →
          ∃ t, exec cmd s = .next t ∧ t.settings = s.settings ∧
            t.page = { s.page with pages := s.page.pages.filter fun y => y.number != x.number } ∧
            t.port.mailbox = s.port.mailbox.put s.course.clock
              (.answered number.toNat attempt.toNat x.group x.code x.course pager.toNat) ∧
            t.relay = relay) ∧
        (reply = 1 → attempt.toNat = x.attempt → ∃ t, exec cmd s = .next t ∧ escalates x t ∧ t.relay = relay) ∧
        (reply = 1 → attempt.toNat ≠ x.attempt → exec cmd s = .next { s.counted n with relay := relay })

/-- R146, R159–R164, R191: the radio relay. An active relay takes a heard PAGE, and an own page sent, whose group it covers, by
the cases of R159 and R160; while its exchange is IDLE it sends the first WAITING record, in priority and arrival order, at
once. DONE with the transmission key ends the exchange; the completion timer, started by TRANSMIT_SENT, sends the TRANSMIT once
more, and at its second expiry drops the record and latches RADIO_FAULT; each lets the next record be sent at once. A REPLY in
range hands an ANSWER, removes the page's records and gives the page block an own page's answer (takeAnswer: an ACCEPT removes
the page with an ANSWERED report); an ANSWER heard removes the page's records. Bytes that spell no message, a byte that does not
come, and any of these at an inactive relay have no effect. The guard of the completion timer is the model's choice (assumption
log 8), and so is that bytes that spell a message act as it (log 21). -/
def Obligations.RadioRelay : Prop :=
  ∀ s : State, s.inReset = false → RelaySafe s →
    let sum := fun bytes : List Byte => bytes.foldl (· + ·) (0 : Byte)
    let left := s.relay.list.filter fun r => !r.inFlight
    let offered := fun (r : RelayRec) (after : Relay) =>
      if s.relayActive = true ∧ s.relay.covered r.group = true then
        ∃ l, offeredTo s.relay.list r l ∧ { s.relay with list := l }.sends after
      else after = s.relay
    (∀ bytes, (sum bytes ≠ 0 ∨
        ¬ (bytes.head? = some 2 ∧ bytes.length = 5 ∨ bytes.head? = some 3 ∧ bytes.length = 8)) →
      exec (.radioMessageDiscarded bytes) s = .next s) ∧
    (∀ o n a k : Byte, sum [2, o, n, a, k] = 0 → exec (.radioMessageDiscarded [2, o, n, a, k]) s = exec (.done o n a) s) ∧
    (∀ p1 p0 o n a r k : Byte, sum [3, p1, p0, o, n, a, r, k] = 0 →
      exec (.radioMessageDiscarded [3, p1, p0, o, n, a, r, k]) s = exec (.reply (join16 p1 p0) o n a r) s) ∧
    exec .radioByteTimeout s = .next s ∧
    exec .transmitSent s =
      .next (if s.relay.exchange = .idle then s else { s with relay := { s.relay with timerOn := true } }) ∧
    (∀ o n a : Byte, (s.relay.key.map fun k => ((k.origin.val : Nat), k.number, k.attempt)) ≠ some (o.toNat, n.toNat, a.toNat) →
      exec (.done o n a) s = .next s) ∧
    (∀ k o n a, s.relayActive = true → s.relay.exchange ≠ .idle → s.relay.key = some k →
        o.toNat = k.origin.val → n.toNat = k.number → a.toNat = k.attempt →
      ∃ t, exec (.done o n a) s = .next t ∧ t = { s with relay := t.relay } ∧ (s.relay.freed left).sends t.relay) ∧
    (s.relay.timerOn = false → exec .completionTimeout s = .next s) ∧
    (s.relay.timerOn = true → s.relay.exchange = .idle → exec .completionTimeout s = .next s) ∧
    (s.relay.timerOn = true → s.relay.exchange = .first →
      ∃ t, exec .completionTimeout s = .next t ∧ t = { s with relay := t.relay } ∧
        (∀ r ∈ s.relay.list, r.inFlight = true →
          t.relay = { s.relay with exchange := .retry, timerOn := false, transmit := transmitBytes r }) ∧
        ((∀ r ∈ s.relay.list, r.inFlight = false) → (s.relay.freed s.relay.list).sends t.relay)) ∧
    (s.relay.timerOn = true → s.relay.exchange = .retry →
      ∃ t, exec .completionTimeout s = .next t ∧
        t = { s with relay := t.relay, port := { s.port with latched := t.port.latched } } ∧
        t.isPending .radioFault = true ∧ (s.relay.freed left).sends t.relay) ∧
    (∀ (sender : Station) (seq number attempt group priority code course : Byte),
      let n : Notice := { sender := sender, seq := seq, body := .page number attempt group priority code course }
      let cmd : Instr := .pageHeard sender seq number attempt group priority code course
      let bad := sender = 0 ∨ sender = s.own ∨ number = 0 ∨ 2 < attempt.toNat ∨ 31 < group.toNat ∨ priority = 0 ∨
        7 < priority.toNat ∨ 15 < course.toNat
      s.takesNotice n →
      (bad → exec cmd s = .next (s.counted n)) ∧
      (¬ bad → ∃ t, exec cmd s = .next t ∧ t = { s.counted n with relay := t.relay } ∧
        offered
          { key := { origin := sender, number := number.toNat, attempt := attempt.toNat },
            group := Fin.ofNat 32 group.toNat, priority := priority.toNat, code := code.toNat,
            course := Fin.ofNat 16 course.toNat, inFlight := false } t.relay)) ∧
    (PagesSafe s → ∀ e p, s.bus.access = .sending → onLineOf s.bus.queue = some e → e.orphan = false → e.body ≠ .leave →
      s.page.pages.find? (fun p => p.current == some e.id) = some p →
      ∃ t, exec .noticeCompleted s = .next t ∧
        offered
          { key := { origin := s.own, number := p.number, attempt := p.attempt }, group := p.group, priority := p.priority,
            code := p.code, course := p.course, inFlight := false } t.relay) ∧
    (∀ (pager : Half) (o n a r : Byte),
      let good := pager.toNat ≤ 1023 ∧ 1 ≤ o.toNat ∧ o.toNat ≤ 31 ∧ 1 ≤ n.toNat ∧ a.toNat ≤ 2 ∧ r.toNat ≤ 1
      let cleared : Relay := { s.relay with list := s.relay.list.filter fun x =>
        !(x.key.origin.val == o.toNat && x.key.number == n.toNat) }
      let handed : State := { hand (.answer o n a pager r) s with relay := cleared }
      ((s.relayActive = false ∨ ¬ good) → exec (.reply pager o n a r) s = .next s) ∧
      (s.relayActive = true → good →
        (o.toNat ≠ s.own.val → exec (.reply pager o n a r) s = .next handed) ∧
        (o.toNat = s.own.val →
          exec (.reply pager o n a r) s = .next (takeAnswer n.toNat a.toNat pager.toNat (r == 0) handed) ∧
          (r = 0 → ∀ x, handed.page.pages.find? (fun x => x.number == n.toNat) = some x →
            ∃ t, exec (.reply pager o n a r) s = .next t ∧
              t.page = { handed.page with pages := handed.page.pages.filter fun y => y.number != n.toNat } ∧
              t.port.mailbox = s.port.mailbox.put s.course.clock
                (.answered n.toNat a.toNat x.group x.code x.course pager.toNat))) ∧
        ∃ t, exec (.reply pager o n a r) s = .next t ∧ t.settings = s.settings ∧ t.relay = cleared ∧
          t.heat = s.heat ∧ t.prog = s.prog ∧ t.load = s.load ∧ t.course = s.course ∧ t.ware = s.ware ∧
          (s.bus.link.sends = true → s.bus.queue.length < 12 → o.toNat ≠ s.own.val →
            t.page = s.page ∧ t.bus.queue = s.bus.queue ++ [s.newEntry (.answer o n a pager r)]))) ∧
    ∀ (sender : Station) (seq o n a : Byte) (pager : Half) (r : Byte),
      let heard : Notice := { sender := sender, seq := seq, body := .answer o n a pager r }
      s.takesNotice heard → s.relayActive = true → r.toNat ≤ 1 → o.toNat ≤ 31 → o.toNat ≠ s.own.val →
        exec (.answerHeard sender seq o n a pager r) s =
          .next { s.counted heard with relay := { s.relay with list := s.relay.list.filter fun x =>
            !(x.key.origin.val == o.toNat && x.key.number == n.toNat) } }
end

