-- ==== Sys2Proof/Laws/State.lean ====
section
/-! SUPPORT. What each record update of the machine leaves: one lemma for each block, or for each field of the block it
touches, each true by unfolding the update. -/

namespace Sys2Proof.Machine

@[simp] theorem latch_pending (c : Cause) (s : State) : (latch c s).pending = s.pending := rfl
@[simp] theorem latch_inReset (c : Cause) (s : State) : (latch c s).inReset = s.inReset := rfl
@[simp] theorem latch_oe (c : Cause) (s : State) : (latch c s).oe = s.oe := rfl
@[simp] theorem latch_heat (c : Cause) (s : State) : (latch c s).heat = s.heat := rfl
@[simp] theorem latch_prog (c : Cause) (s : State) : (latch c s).prog = s.prog := rfl
@[simp] theorem latch_load (c : Cause) (s : State) : (latch c s).load = s.load := rfl
@[simp] theorem latch_bus (c : Cause) (s : State) : (latch c s).bus = s.bus := rfl
@[simp] theorem latch_course (c : Cause) (s : State) : (latch c s).course = s.course := rfl
@[simp] theorem latch_ware (c : Cause) (s : State) : (latch c s).ware = s.ware := rfl
@[simp] theorem latch_route (c : Cause) (s : State) : (latch c s).route = s.route := rfl
@[simp] theorem latch_page (c : Cause) (s : State) : (latch c s).page = s.page := rfl
@[simp] theorem latch_relay (c : Cause) (s : State) : (latch c s).relay = s.relay := rfl
@[simp] theorem latch_port_straps (c : Cause) (s : State) : (latch c s).port.straps = s.port.straps := rfl
@[simp] theorem latch_port_configured (c : Cause) (s : State) : (latch c s).port.configured = s.port.configured := rfl
@[simp] theorem latch_port_lastResult (c : Cause) (s : State) : (latch c s).port.lastResult = s.port.lastResult := rfl
@[simp] theorem latch_port_dataOut (c : Cause) (s : State) : (latch c s).port.dataOut = s.port.dataOut := rfl
@[simp] theorem latch_port_mailbox (c : Cause) (s : State) : (latch c s).port.mailbox = s.port.mailbox := rfl
@[simp] theorem latch_port_mask (c : Cause) (s : State) : (latch c s).port.mask = s.port.mask := rfl
@[simp] theorem latch_port_counters (c : Cause) (s : State) : (latch c s).port.counters = s.port.counters := rfl

@[simp] theorem bump_pending (k : CounterName) (s : State) : (bump k s).pending = s.pending := rfl
@[simp] theorem bump_inReset (k : CounterName) (s : State) : (bump k s).inReset = s.inReset := rfl
@[simp] theorem bump_oe (k : CounterName) (s : State) : (bump k s).oe = s.oe := rfl
@[simp] theorem bump_heat (k : CounterName) (s : State) : (bump k s).heat = s.heat := rfl
@[simp] theorem bump_prog (k : CounterName) (s : State) : (bump k s).prog = s.prog := rfl
@[simp] theorem bump_load (k : CounterName) (s : State) : (bump k s).load = s.load := rfl
@[simp] theorem bump_bus (k : CounterName) (s : State) : (bump k s).bus = s.bus := rfl
@[simp] theorem bump_course (k : CounterName) (s : State) : (bump k s).course = s.course := rfl
@[simp] theorem bump_ware (k : CounterName) (s : State) : (bump k s).ware = s.ware := rfl
@[simp] theorem bump_route (k : CounterName) (s : State) : (bump k s).route = s.route := rfl
@[simp] theorem bump_page (k : CounterName) (s : State) : (bump k s).page = s.page := rfl
@[simp] theorem bump_relay (k : CounterName) (s : State) : (bump k s).relay = s.relay := rfl
@[simp] theorem bump_port_straps (k : CounterName) (s : State) : (bump k s).port.straps = s.port.straps := rfl
@[simp] theorem bump_port_configured (k : CounterName) (s : State) : (bump k s).port.configured = s.port.configured := rfl
@[simp] theorem bump_port_lastResult (k : CounterName) (s : State) : (bump k s).port.lastResult = s.port.lastResult := rfl
@[simp] theorem bump_port_dataOut (k : CounterName) (s : State) : (bump k s).port.dataOut = s.port.dataOut := rfl
@[simp] theorem bump_port_mailbox (k : CounterName) (s : State) : (bump k s).port.mailbox = s.port.mailbox := rfl
@[simp] theorem bump_port_latched (k : CounterName) (s : State) : (bump k s).port.latched = s.port.latched := rfl
@[simp] theorem bump_port_mask (k : CounterName) (s : State) : (bump k s).port.mask = s.port.mask := rfl

@[simp] theorem raise_pending (e : Event) (s : State) : (raise e s).pending = s.pending := rfl
@[simp] theorem raise_inReset (e : Event) (s : State) : (raise e s).inReset = s.inReset := rfl
@[simp] theorem raise_oe (e : Event) (s : State) : (raise e s).oe = s.oe := rfl
@[simp] theorem raise_heat (e : Event) (s : State) : (raise e s).heat = s.heat := rfl
@[simp] theorem raise_prog (e : Event) (s : State) : (raise e s).prog = s.prog := rfl
@[simp] theorem raise_load (e : Event) (s : State) : (raise e s).load = s.load := rfl
@[simp] theorem raise_bus (e : Event) (s : State) : (raise e s).bus = s.bus := rfl
@[simp] theorem raise_course (e : Event) (s : State) : (raise e s).course = s.course := rfl
@[simp] theorem raise_ware (e : Event) (s : State) : (raise e s).ware = s.ware := rfl
@[simp] theorem raise_page (e : Event) (s : State) : (raise e s).page = s.page := rfl
@[simp] theorem raise_relay (e : Event) (s : State) : (raise e s).relay = s.relay := rfl
@[simp] theorem raise_route_rules (e : Event) (s : State) : (raise e s).route.rules = s.route.rules := rfl
@[simp] theorem raise_route_evaluation (e : Event) (s : State) : (raise e s).route.evaluation = s.route.evaluation := rfl
@[simp] theorem raise_port_straps (e : Event) (s : State) : (raise e s).port.straps = s.port.straps := rfl
@[simp] theorem raise_port_configured (e : Event) (s : State) : (raise e s).port.configured = s.port.configured := rfl
@[simp] theorem raise_port_lastResult (e : Event) (s : State) : (raise e s).port.lastResult = s.port.lastResult := rfl
@[simp] theorem raise_port_dataOut (e : Event) (s : State) : (raise e s).port.dataOut = s.port.dataOut := rfl
@[simp] theorem raise_port_mailbox (e : Event) (s : State) : (raise e s).port.mailbox = s.port.mailbox := rfl
@[simp] theorem raise_port_mask (e : Event) (s : State) : (raise e s).port.mask = s.port.mask := rfl

@[simp] theorem makeReport_pending (b : ReportBody) (s : State) : (makeReport b s).pending = s.pending := rfl
@[simp] theorem makeReport_inReset (b : ReportBody) (s : State) : (makeReport b s).inReset = s.inReset := rfl
@[simp] theorem makeReport_oe (b : ReportBody) (s : State) : (makeReport b s).oe = s.oe := rfl
@[simp] theorem makeReport_heat (b : ReportBody) (s : State) : (makeReport b s).heat = s.heat := rfl
@[simp] theorem makeReport_prog (b : ReportBody) (s : State) : (makeReport b s).prog = s.prog := rfl
@[simp] theorem makeReport_load (b : ReportBody) (s : State) : (makeReport b s).load = s.load := rfl
@[simp] theorem makeReport_bus (b : ReportBody) (s : State) : (makeReport b s).bus = s.bus := rfl
@[simp] theorem makeReport_course (b : ReportBody) (s : State) : (makeReport b s).course = s.course := rfl
@[simp] theorem makeReport_ware (b : ReportBody) (s : State) : (makeReport b s).ware = s.ware := rfl
@[simp] theorem makeReport_route (b : ReportBody) (s : State) : (makeReport b s).route = s.route := rfl
@[simp] theorem makeReport_page (b : ReportBody) (s : State) : (makeReport b s).page = s.page := rfl
@[simp] theorem makeReport_relay (b : ReportBody) (s : State) : (makeReport b s).relay = s.relay := rfl
@[simp] theorem makeReport_port_straps (b : ReportBody) (s : State) : (makeReport b s).port.straps = s.port.straps := rfl
@[simp] theorem makeReport_port_configured (b : ReportBody) (s : State) : (makeReport b s).port.configured = s.port.configured := rfl
@[simp] theorem makeReport_port_lastResult (b : ReportBody) (s : State) : (makeReport b s).port.lastResult = s.port.lastResult := rfl
@[simp] theorem makeReport_port_dataOut (b : ReportBody) (s : State) : (makeReport b s).port.dataOut = s.port.dataOut := rfl
@[simp] theorem makeReport_port_mask (b : ReportBody) (s : State) : (makeReport b s).port.mask = s.port.mask := rfl
@[simp] theorem makeReport_port_counters (b : ReportBody) (s : State) : (makeReport b s).port.counters = s.port.counters := rfl

@[simp] theorem answerFrame_pending (st : Byte) (data : List Byte) (r : Result) (s : State) : (answerFrame st data r s).pending = s.pending := rfl
@[simp] theorem answerFrame_inReset (st : Byte) (data : List Byte) (r : Result) (s : State) : (answerFrame st data r s).inReset = s.inReset := rfl
@[simp] theorem answerFrame_oe (st : Byte) (data : List Byte) (r : Result) (s : State) : (answerFrame st data r s).oe = s.oe := rfl
@[simp] theorem answerFrame_heat (st : Byte) (data : List Byte) (r : Result) (s : State) : (answerFrame st data r s).heat = s.heat := rfl
@[simp] theorem answerFrame_prog (st : Byte) (data : List Byte) (r : Result) (s : State) : (answerFrame st data r s).prog = s.prog := rfl
@[simp] theorem answerFrame_load (st : Byte) (data : List Byte) (r : Result) (s : State) : (answerFrame st data r s).load = s.load := rfl
@[simp] theorem answerFrame_bus (st : Byte) (data : List Byte) (r : Result) (s : State) : (answerFrame st data r s).bus = s.bus := rfl
@[simp] theorem answerFrame_course (st : Byte) (data : List Byte) (r : Result) (s : State) : (answerFrame st data r s).course = s.course := rfl
@[simp] theorem answerFrame_ware (st : Byte) (data : List Byte) (r : Result) (s : State) : (answerFrame st data r s).ware = s.ware := rfl
@[simp] theorem answerFrame_route (st : Byte) (data : List Byte) (r : Result) (s : State) : (answerFrame st data r s).route = s.route := rfl
@[simp] theorem answerFrame_page (st : Byte) (data : List Byte) (r : Result) (s : State) : (answerFrame st data r s).page = s.page := rfl
@[simp] theorem answerFrame_relay (st : Byte) (data : List Byte) (r : Result) (s : State) : (answerFrame st data r s).relay = s.relay := rfl
@[simp] theorem answerFrame_port_straps (st : Byte) (data : List Byte) (r : Result) (s : State) : (answerFrame st data r s).port.straps = s.port.straps := rfl
@[simp] theorem answerFrame_port_configured (st : Byte) (data : List Byte) (r : Result) (s : State) : (answerFrame st data r s).port.configured = s.port.configured := rfl
@[simp] theorem answerFrame_port_mailbox (st : Byte) (data : List Byte) (r : Result) (s : State) : (answerFrame st data r s).port.mailbox = s.port.mailbox := rfl
@[simp] theorem answerFrame_port_latched (st : Byte) (data : List Byte) (r : Result) (s : State) : (answerFrame st data r s).port.latched = s.port.latched := rfl
@[simp] theorem answerFrame_port_mask (st : Byte) (data : List Byte) (r : Result) (s : State) : (answerFrame st data r s).port.mask = s.port.mask := rfl
@[simp] theorem answerFrame_port_counters (st : Byte) (data : List Byte) (r : Result) (s : State) : (answerFrame st data r s).port.counters = s.port.counters := rfl

@[simp] theorem mapZone_pending (z : ZoneNo) (f : Zone → Zone) (s : State) : (mapZone z f s).pending = s.pending := rfl
@[simp] theorem mapZone_inReset (z : ZoneNo) (f : Zone → Zone) (s : State) : (mapZone z f s).inReset = s.inReset := rfl
@[simp] theorem mapZone_oe (z : ZoneNo) (f : Zone → Zone) (s : State) : (mapZone z f s).oe = s.oe := rfl
@[simp] theorem mapZone_prog (z : ZoneNo) (f : Zone → Zone) (s : State) : (mapZone z f s).prog = s.prog := rfl
@[simp] theorem mapZone_load (z : ZoneNo) (f : Zone → Zone) (s : State) : (mapZone z f s).load = s.load := rfl
@[simp] theorem mapZone_bus (z : ZoneNo) (f : Zone → Zone) (s : State) : (mapZone z f s).bus = s.bus := rfl
@[simp] theorem mapZone_course (z : ZoneNo) (f : Zone → Zone) (s : State) : (mapZone z f s).course = s.course := rfl
@[simp] theorem mapZone_ware (z : ZoneNo) (f : Zone → Zone) (s : State) : (mapZone z f s).ware = s.ware := rfl
@[simp] theorem mapZone_route (z : ZoneNo) (f : Zone → Zone) (s : State) : (mapZone z f s).route = s.route := rfl
@[simp] theorem mapZone_page (z : ZoneNo) (f : Zone → Zone) (s : State) : (mapZone z f s).page = s.page := rfl
@[simp] theorem mapZone_relay (z : ZoneNo) (f : Zone → Zone) (s : State) : (mapZone z f s).relay = s.relay := rfl
@[simp] theorem mapZone_port (z : ZoneNo) (f : Zone → Zone) (s : State) : (mapZone z f s).port = s.port := rfl
@[simp] theorem mapZone_heat_step (z : ZoneNo) (f : Zone → Zone) (s : State) : (mapZone z f s).heat.step = s.heat.step := rfl
@[simp] theorem mapZone_heat_windowGrant (z : ZoneNo) (f : Zone → Zone) (s : State) : (mapZone z f s).heat.windowGrant = s.heat.windowGrant := rfl
@[simp] theorem mapZone_heat_draw (z : ZoneNo) (f : Zone → Zone) (s : State) : (mapZone z f s).heat.draw = s.heat.draw := rfl

@[simp] theorem mapZones_pending (f : ZoneNo → Zone → Zone) (s : State) : (mapZones f s).pending = s.pending := rfl
@[simp] theorem mapZones_inReset (f : ZoneNo → Zone → Zone) (s : State) : (mapZones f s).inReset = s.inReset := rfl
@[simp] theorem mapZones_oe (f : ZoneNo → Zone → Zone) (s : State) : (mapZones f s).oe = s.oe := rfl
@[simp] theorem mapZones_prog (f : ZoneNo → Zone → Zone) (s : State) : (mapZones f s).prog = s.prog := rfl
@[simp] theorem mapZones_load (f : ZoneNo → Zone → Zone) (s : State) : (mapZones f s).load = s.load := rfl
@[simp] theorem mapZones_bus (f : ZoneNo → Zone → Zone) (s : State) : (mapZones f s).bus = s.bus := rfl
@[simp] theorem mapZones_course (f : ZoneNo → Zone → Zone) (s : State) : (mapZones f s).course = s.course := rfl
@[simp] theorem mapZones_ware (f : ZoneNo → Zone → Zone) (s : State) : (mapZones f s).ware = s.ware := rfl
@[simp] theorem mapZones_route (f : ZoneNo → Zone → Zone) (s : State) : (mapZones f s).route = s.route := rfl
@[simp] theorem mapZones_page (f : ZoneNo → Zone → Zone) (s : State) : (mapZones f s).page = s.page := rfl
@[simp] theorem mapZones_relay (f : ZoneNo → Zone → Zone) (s : State) : (mapZones f s).relay = s.relay := rfl
@[simp] theorem mapZones_port (f : ZoneNo → Zone → Zone) (s : State) : (mapZones f s).port = s.port := rfl
@[simp] theorem mapZones_heat_step (f : ZoneNo → Zone → Zone) (s : State) : (mapZones f s).heat.step = s.heat.step := rfl
@[simp] theorem mapZones_heat_windowGrant (f : ZoneNo → Zone → Zone) (s : State) : (mapZones f s).heat.windowGrant = s.heat.windowGrant := rfl
@[simp] theorem mapZones_heat_draw (f : ZoneNo → Zone → Zone) (s : State) : (mapZones f s).heat.draw = s.heat.draw := rfl

@[simp] theorem outputsOff_pending (s : State) : (outputsOff s).pending = s.pending := rfl
@[simp] theorem outputsOff_inReset (s : State) : (outputsOff s).inReset = s.inReset := rfl
@[simp] theorem outputsOff_oe (s : State) : (outputsOff s).oe = s.oe := rfl
@[simp] theorem outputsOff_prog (s : State) : (outputsOff s).prog = s.prog := rfl
@[simp] theorem outputsOff_load (s : State) : (outputsOff s).load = s.load := rfl
@[simp] theorem outputsOff_bus (s : State) : (outputsOff s).bus = s.bus := rfl
@[simp] theorem outputsOff_course (s : State) : (outputsOff s).course = s.course := rfl
@[simp] theorem outputsOff_ware (s : State) : (outputsOff s).ware = s.ware := rfl
@[simp] theorem outputsOff_route (s : State) : (outputsOff s).route = s.route := rfl
@[simp] theorem outputsOff_page (s : State) : (outputsOff s).page = s.page := rfl
@[simp] theorem outputsOff_relay (s : State) : (outputsOff s).relay = s.relay := rfl
@[simp] theorem outputsOff_port (s : State) : (outputsOff s).port = s.port := rfl
@[simp] theorem outputsOff_heat_step (s : State) : (outputsOff s).heat.step = s.heat.step := rfl
@[simp] theorem outputsOff_heat_windowGrant (s : State) : (outputsOff s).heat.windowGrant = s.heat.windowGrant := rfl
@[simp] theorem outputsOff_heat_draw (s : State) : (outputsOff s).heat.draw = s.heat.draw := rfl

@[simp] theorem windowStart_pending (s : State) : (windowStart s).pending = s.pending := rfl
@[simp] theorem windowStart_inReset (s : State) : (windowStart s).inReset = s.inReset := rfl
@[simp] theorem windowStart_oe (s : State) : (windowStart s).oe = s.oe := rfl
@[simp] theorem windowStart_prog (s : State) : (windowStart s).prog = s.prog := rfl
@[simp] theorem windowStart_load (s : State) : (windowStart s).load = s.load := rfl
@[simp] theorem windowStart_bus (s : State) : (windowStart s).bus = s.bus := rfl
@[simp] theorem windowStart_course (s : State) : (windowStart s).course = s.course := rfl
@[simp] theorem windowStart_ware (s : State) : (windowStart s).ware = s.ware := rfl
@[simp] theorem windowStart_route (s : State) : (windowStart s).route = s.route := rfl
@[simp] theorem windowStart_page (s : State) : (windowStart s).page = s.page := rfl
@[simp] theorem windowStart_relay (s : State) : (windowStart s).relay = s.relay := rfl
@[simp] theorem windowStart_port (s : State) : (windowStart s).port = s.port := rfl
@[simp] theorem windowStart_heat_step (s : State) : (windowStart s).heat.step = s.heat.step := rfl

@[simp] theorem reallot_pending (g : Nat) (s : State) : (reallot g s).pending = s.pending := rfl
@[simp] theorem reallot_inReset (g : Nat) (s : State) : (reallot g s).inReset = s.inReset := rfl
@[simp] theorem reallot_oe (g : Nat) (s : State) : (reallot g s).oe = s.oe := rfl
@[simp] theorem reallot_prog (g : Nat) (s : State) : (reallot g s).prog = s.prog := rfl
@[simp] theorem reallot_load (g : Nat) (s : State) : (reallot g s).load = s.load := rfl
@[simp] theorem reallot_bus (g : Nat) (s : State) : (reallot g s).bus = s.bus := rfl
@[simp] theorem reallot_course (g : Nat) (s : State) : (reallot g s).course = s.course := rfl
@[simp] theorem reallot_ware (g : Nat) (s : State) : (reallot g s).ware = s.ware := rfl
@[simp] theorem reallot_route (g : Nat) (s : State) : (reallot g s).route = s.route := rfl
@[simp] theorem reallot_page (g : Nat) (s : State) : (reallot g s).page = s.page := rfl
@[simp] theorem reallot_relay (g : Nat) (s : State) : (reallot g s).relay = s.relay := rfl
@[simp] theorem reallot_port (g : Nat) (s : State) : (reallot g s).port = s.port := rfl
@[simp] theorem reallot_heat_step (g : Nat) (s : State) : (reallot g s).heat.step = s.heat.step := rfl

@[simp] theorem setOutputs_pending (s : State) : (setOutputs s).pending = s.pending := rfl
@[simp] theorem setOutputs_inReset (s : State) : (setOutputs s).inReset = s.inReset := rfl
@[simp] theorem setOutputs_oe (s : State) : (setOutputs s).oe = s.oe := rfl
@[simp] theorem setOutputs_prog (s : State) : (setOutputs s).prog = s.prog := rfl
@[simp] theorem setOutputs_load (s : State) : (setOutputs s).load = s.load := rfl
@[simp] theorem setOutputs_bus (s : State) : (setOutputs s).bus = s.bus := rfl
@[simp] theorem setOutputs_course (s : State) : (setOutputs s).course = s.course := rfl
@[simp] theorem setOutputs_ware (s : State) : (setOutputs s).ware = s.ware := rfl
@[simp] theorem setOutputs_route (s : State) : (setOutputs s).route = s.route := rfl
@[simp] theorem setOutputs_page (s : State) : (setOutputs s).page = s.page := rfl
@[simp] theorem setOutputs_relay (s : State) : (setOutputs s).relay = s.relay := rfl
@[simp] theorem setOutputs_port (s : State) : (setOutputs s).port = s.port := rfl
@[simp] theorem setOutputs_heat_step (s : State) : (setOutputs s).heat.step = s.heat.step := rfl
@[simp] theorem setOutputs_heat_windowGrant (s : State) : (setOutputs s).heat.windowGrant = s.heat.windowGrant := rfl
@[simp] theorem setOutputs_heat_draw (s : State) : (setOutputs s).heat.draw = s.heat.draw := rfl

@[simp] theorem seekLine_pending (s : State) : (seekLine s).pending = s.pending := rfl
@[simp] theorem seekLine_inReset (s : State) : (seekLine s).inReset = s.inReset := rfl
@[simp] theorem seekLine_oe (s : State) : (seekLine s).oe = s.oe := rfl
@[simp] theorem seekLine_heat (s : State) : (seekLine s).heat = s.heat := rfl
@[simp] theorem seekLine_prog (s : State) : (seekLine s).prog = s.prog := rfl
@[simp] theorem seekLine_load (s : State) : (seekLine s).load = s.load := rfl
@[simp] theorem seekLine_course (s : State) : (seekLine s).course = s.course := rfl
@[simp] theorem seekLine_ware (s : State) : (seekLine s).ware = s.ware := rfl
@[simp] theorem seekLine_route (s : State) : (seekLine s).route = s.route := rfl
@[simp] theorem seekLine_page (s : State) : (seekLine s).page = s.page := rfl
@[simp] theorem seekLine_relay (s : State) : (seekLine s).relay = s.relay := rfl
@[simp] theorem seekLine_port (s : State) : (seekLine s).port = s.port := rfl

@[simp] theorem pageNotSent_pending (id : Nat) (s : State) : (pageNotSent id s).pending = s.pending := rfl
@[simp] theorem pageNotSent_inReset (id : Nat) (s : State) : (pageNotSent id s).inReset = s.inReset := rfl
@[simp] theorem pageNotSent_oe (id : Nat) (s : State) : (pageNotSent id s).oe = s.oe := rfl
@[simp] theorem pageNotSent_heat (id : Nat) (s : State) : (pageNotSent id s).heat = s.heat := rfl
@[simp] theorem pageNotSent_prog (id : Nat) (s : State) : (pageNotSent id s).prog = s.prog := rfl
@[simp] theorem pageNotSent_load (id : Nat) (s : State) : (pageNotSent id s).load = s.load := rfl
@[simp] theorem pageNotSent_bus (id : Nat) (s : State) : (pageNotSent id s).bus = s.bus := rfl
@[simp] theorem pageNotSent_course (id : Nat) (s : State) : (pageNotSent id s).course = s.course := rfl
@[simp] theorem pageNotSent_ware (id : Nat) (s : State) : (pageNotSent id s).ware = s.ware := rfl
@[simp] theorem pageNotSent_route (id : Nat) (s : State) : (pageNotSent id s).route = s.route := rfl
@[simp] theorem pageNotSent_relay (id : Nat) (s : State) : (pageNotSent id s).relay = s.relay := rfl
@[simp] theorem pageNotSent_port (id : Nat) (s : State) : (pageNotSent id s).port = s.port := rfl
@[simp] theorem pageNotSent_page_groups (id : Nat) (s : State) : (pageNotSent id s).page.groups = s.page.groups := rfl
@[simp] theorem pageNotSent_page_next (id : Nat) (s : State) : (pageNotSent id s).page.next = s.page.next := rfl

@[simp] theorem mapPage_pending (n : Nat) (f : Page → Page) (s : State) : (mapPage n f s).pending = s.pending := rfl
@[simp] theorem mapPage_inReset (n : Nat) (f : Page → Page) (s : State) : (mapPage n f s).inReset = s.inReset := rfl
@[simp] theorem mapPage_oe (n : Nat) (f : Page → Page) (s : State) : (mapPage n f s).oe = s.oe := rfl
@[simp] theorem mapPage_heat (n : Nat) (f : Page → Page) (s : State) : (mapPage n f s).heat = s.heat := rfl
@[simp] theorem mapPage_prog (n : Nat) (f : Page → Page) (s : State) : (mapPage n f s).prog = s.prog := rfl
@[simp] theorem mapPage_load (n : Nat) (f : Page → Page) (s : State) : (mapPage n f s).load = s.load := rfl
@[simp] theorem mapPage_bus (n : Nat) (f : Page → Page) (s : State) : (mapPage n f s).bus = s.bus := rfl
@[simp] theorem mapPage_course (n : Nat) (f : Page → Page) (s : State) : (mapPage n f s).course = s.course := rfl
@[simp] theorem mapPage_ware (n : Nat) (f : Page → Page) (s : State) : (mapPage n f s).ware = s.ware := rfl
@[simp] theorem mapPage_route (n : Nat) (f : Page → Page) (s : State) : (mapPage n f s).route = s.route := rfl
@[simp] theorem mapPage_relay (n : Nat) (f : Page → Page) (s : State) : (mapPage n f s).relay = s.relay := rfl
@[simp] theorem mapPage_port (n : Nat) (f : Page → Page) (s : State) : (mapPage n f s).port = s.port := rfl
@[simp] theorem mapPage_page_groups (n : Nat) (f : Page → Page) (s : State) : (mapPage n f s).page.groups = s.page.groups := rfl
@[simp] theorem mapPage_page_next (n : Nat) (f : Page → Page) (s : State) : (mapPage n f s).page.next = s.page.next := rfl

@[simp] theorem removePage_pending (n : Nat) (s : State) : (removePage n s).pending = s.pending := rfl
@[simp] theorem removePage_inReset (n : Nat) (s : State) : (removePage n s).inReset = s.inReset := rfl
@[simp] theorem removePage_oe (n : Nat) (s : State) : (removePage n s).oe = s.oe := rfl
@[simp] theorem removePage_heat (n : Nat) (s : State) : (removePage n s).heat = s.heat := rfl
@[simp] theorem removePage_prog (n : Nat) (s : State) : (removePage n s).prog = s.prog := rfl
@[simp] theorem removePage_load (n : Nat) (s : State) : (removePage n s).load = s.load := rfl
@[simp] theorem removePage_bus (n : Nat) (s : State) : (removePage n s).bus = s.bus := rfl
@[simp] theorem removePage_course (n : Nat) (s : State) : (removePage n s).course = s.course := rfl
@[simp] theorem removePage_ware (n : Nat) (s : State) : (removePage n s).ware = s.ware := rfl
@[simp] theorem removePage_route (n : Nat) (s : State) : (removePage n s).route = s.route := rfl
@[simp] theorem removePage_relay (n : Nat) (s : State) : (removePage n s).relay = s.relay := rfl
@[simp] theorem removePage_port (n : Nat) (s : State) : (removePage n s).port = s.port := rfl
@[simp] theorem removePage_page_groups (n : Nat) (s : State) : (removePage n s).page.groups = s.page.groups := rfl
@[simp] theorem removePage_page_next (n : Nat) (s : State) : (removePage n s).page.next = s.page.next := rfl

@[simp] theorem mapWare_pending (f : Ware → Ware) (s : State) : (mapWare f s).pending = s.pending := rfl
@[simp] theorem mapWare_inReset (f : Ware → Ware) (s : State) : (mapWare f s).inReset = s.inReset := rfl
@[simp] theorem mapWare_oe (f : Ware → Ware) (s : State) : (mapWare f s).oe = s.oe := rfl
@[simp] theorem mapWare_heat (f : Ware → Ware) (s : State) : (mapWare f s).heat = s.heat := rfl
@[simp] theorem mapWare_prog (f : Ware → Ware) (s : State) : (mapWare f s).prog = s.prog := rfl
@[simp] theorem mapWare_load (f : Ware → Ware) (s : State) : (mapWare f s).load = s.load := rfl
@[simp] theorem mapWare_bus (f : Ware → Ware) (s : State) : (mapWare f s).bus = s.bus := rfl
@[simp] theorem mapWare_course (f : Ware → Ware) (s : State) : (mapWare f s).course = s.course := rfl
@[simp] theorem mapWare_route (f : Ware → Ware) (s : State) : (mapWare f s).route = s.route := rfl
@[simp] theorem mapWare_page (f : Ware → Ware) (s : State) : (mapWare f s).page = s.page := rfl
@[simp] theorem mapWare_relay (f : Ware → Ware) (s : State) : (mapWare f s).relay = s.relay := rfl
@[simp] theorem mapWare_port (f : Ware → Ware) (s : State) : (mapWare f s).port = s.port := rfl

@[simp] theorem setRun_pending (z : ZoneNo) (r : Run) (s : State) : (setRun z r s).pending = s.pending := rfl
@[simp] theorem setRun_inReset (z : ZoneNo) (r : Run) (s : State) : (setRun z r s).inReset = s.inReset := rfl
@[simp] theorem setRun_oe (z : ZoneNo) (r : Run) (s : State) : (setRun z r s).oe = s.oe := rfl
@[simp] theorem setRun_load (z : ZoneNo) (r : Run) (s : State) : (setRun z r s).load = s.load := rfl
@[simp] theorem setRun_bus (z : ZoneNo) (r : Run) (s : State) : (setRun z r s).bus = s.bus := rfl
@[simp] theorem setRun_course (z : ZoneNo) (r : Run) (s : State) : (setRun z r s).course = s.course := rfl
@[simp] theorem setRun_ware (z : ZoneNo) (r : Run) (s : State) : (setRun z r s).ware = s.ware := rfl
@[simp] theorem setRun_route (z : ZoneNo) (r : Run) (s : State) : (setRun z r s).route = s.route := rfl
@[simp] theorem setRun_page (z : ZoneNo) (r : Run) (s : State) : (setRun z r s).page = s.page := rfl
@[simp] theorem setRun_relay (z : ZoneNo) (r : Run) (s : State) : (setRun z r s).relay = s.relay := rfl
@[simp] theorem setRun_port (z : ZoneNo) (r : Run) (s : State) : (setRun z r s).port = s.port := rfl
@[simp] theorem setRun_prog_table (z : ZoneNo) (r : Run) (s : State) : (setRun z r s).prog.table = s.prog.table := rfl
@[simp] theorem setRun_prog_plates (z : ZoneNo) (r : Run) (s : State) : (setRun z r s).prog.plates = s.prog.plates := rfl
@[simp] theorem setRun_prog_given (z : ZoneNo) (r : Run) (s : State) : (setRun z r s).prog.given = s.prog.given := rfl

@[simp] theorem mapRec_pending (c : CourseNo) (f : CourseRec → CourseRec) (s : State) : (mapRec c f s).pending = s.pending := rfl
@[simp] theorem mapRec_inReset (c : CourseNo) (f : CourseRec → CourseRec) (s : State) : (mapRec c f s).inReset = s.inReset := rfl
@[simp] theorem mapRec_oe (c : CourseNo) (f : CourseRec → CourseRec) (s : State) : (mapRec c f s).oe = s.oe := rfl
@[simp] theorem mapRec_heat (c : CourseNo) (f : CourseRec → CourseRec) (s : State) : (mapRec c f s).heat = s.heat := rfl
@[simp] theorem mapRec_prog (c : CourseNo) (f : CourseRec → CourseRec) (s : State) : (mapRec c f s).prog = s.prog := rfl
@[simp] theorem mapRec_load (c : CourseNo) (f : CourseRec → CourseRec) (s : State) : (mapRec c f s).load = s.load := rfl
@[simp] theorem mapRec_bus (c : CourseNo) (f : CourseRec → CourseRec) (s : State) : (mapRec c f s).bus = s.bus := rfl
@[simp] theorem mapRec_ware (c : CourseNo) (f : CourseRec → CourseRec) (s : State) : (mapRec c f s).ware = s.ware := rfl
@[simp] theorem mapRec_route (c : CourseNo) (f : CourseRec → CourseRec) (s : State) : (mapRec c f s).route = s.route := rfl
@[simp] theorem mapRec_page (c : CourseNo) (f : CourseRec → CourseRec) (s : State) : (mapRec c f s).page = s.page := rfl
@[simp] theorem mapRec_relay (c : CourseNo) (f : CourseRec → CourseRec) (s : State) : (mapRec c f s).relay = s.relay := rfl
@[simp] theorem mapRec_port (c : CourseNo) (f : CourseRec → CourseRec) (s : State) : (mapRec c f s).port = s.port := rfl
@[simp] theorem mapRec_course_clock (c : CourseNo) (f : CourseRec → CourseRec) (s : State) : (mapRec c f s).course.clock = s.course.clock := rfl
@[simp] theorem mapRec_course_schedule (c : CourseNo) (f : CourseRec → CourseRec) (s : State) : (mapRec c f s).course.schedule = s.course.schedule := rfl
@[simp] theorem mapRec_course_clearing (c : CourseNo) (f : CourseRec → CourseRec) (s : State) : (mapRec c f s).course.clearing = s.course.clearing := rfl
@[simp] theorem mapRec_course_lateQuanta (c : CourseNo) (f : CourseRec → CourseRec) (s : State) : (mapRec c f s).course.lateQuanta = s.course.lateQuanta := rfl

@[simp] theorem followOwn_pending (c : CourseNo) (g : Option (Standing × Nat)) (s : State) : (followOwn c g s).pending = s.pending := rfl
@[simp] theorem followOwn_inReset (c : CourseNo) (g : Option (Standing × Nat)) (s : State) : (followOwn c g s).inReset = s.inReset := rfl
@[simp] theorem followOwn_oe (c : CourseNo) (g : Option (Standing × Nat)) (s : State) : (followOwn c g s).oe = s.oe := rfl
@[simp] theorem followOwn_heat (c : CourseNo) (g : Option (Standing × Nat)) (s : State) : (followOwn c g s).heat = s.heat := rfl
@[simp] theorem followOwn_prog (c : CourseNo) (g : Option (Standing × Nat)) (s : State) : (followOwn c g s).prog = s.prog := rfl
@[simp] theorem followOwn_load (c : CourseNo) (g : Option (Standing × Nat)) (s : State) : (followOwn c g s).load = s.load := rfl
@[simp] theorem followOwn_bus (c : CourseNo) (g : Option (Standing × Nat)) (s : State) : (followOwn c g s).bus = s.bus := rfl
@[simp] theorem followOwn_ware (c : CourseNo) (g : Option (Standing × Nat)) (s : State) : (followOwn c g s).ware = s.ware := rfl
@[simp] theorem followOwn_route (c : CourseNo) (g : Option (Standing × Nat)) (s : State) : (followOwn c g s).route = s.route := rfl
@[simp] theorem followOwn_page (c : CourseNo) (g : Option (Standing × Nat)) (s : State) : (followOwn c g s).page = s.page := rfl
@[simp] theorem followOwn_relay (c : CourseNo) (g : Option (Standing × Nat)) (s : State) : (followOwn c g s).relay = s.relay := rfl
@[simp] theorem followOwn_port (c : CourseNo) (g : Option (Standing × Nat)) (s : State) : (followOwn c g s).port = s.port := rfl
@[simp] theorem followOwn_course_clock (c : CourseNo) (g : Option (Standing × Nat)) (s : State) : (followOwn c g s).course.clock = s.course.clock := rfl
@[simp] theorem followOwn_course_schedule (c : CourseNo) (g : Option (Standing × Nat)) (s : State) : (followOwn c g s).course.schedule = s.course.schedule := rfl
@[simp] theorem followOwn_course_clearing (c : CourseNo) (g : Option (Standing × Nat)) (s : State) : (followOwn c g s).course.clearing = s.course.clearing := rfl
@[simp] theorem followOwn_course_lateQuanta (c : CourseNo) (g : Option (Standing × Nat)) (s : State) : (followOwn c g s).course.lateQuanta = s.course.lateQuanta := rfl

@[simp] theorem noteGiven_pending (c : CourseNo) (g : Option (Standing × Nat)) (s : State) : (noteGiven c g s).pending = s.pending := rfl
@[simp] theorem noteGiven_inReset (c : CourseNo) (g : Option (Standing × Nat)) (s : State) : (noteGiven c g s).inReset = s.inReset := rfl
@[simp] theorem noteGiven_oe (c : CourseNo) (g : Option (Standing × Nat)) (s : State) : (noteGiven c g s).oe = s.oe := rfl
@[simp] theorem noteGiven_heat (c : CourseNo) (g : Option (Standing × Nat)) (s : State) : (noteGiven c g s).heat = s.heat := rfl
@[simp] theorem noteGiven_load (c : CourseNo) (g : Option (Standing × Nat)) (s : State) : (noteGiven c g s).load = s.load := rfl
@[simp] theorem noteGiven_bus (c : CourseNo) (g : Option (Standing × Nat)) (s : State) : (noteGiven c g s).bus = s.bus := rfl
@[simp] theorem noteGiven_course (c : CourseNo) (g : Option (Standing × Nat)) (s : State) : (noteGiven c g s).course = s.course := rfl
@[simp] theorem noteGiven_ware (c : CourseNo) (g : Option (Standing × Nat)) (s : State) : (noteGiven c g s).ware = s.ware := rfl
@[simp] theorem noteGiven_route (c : CourseNo) (g : Option (Standing × Nat)) (s : State) : (noteGiven c g s).route = s.route := rfl
@[simp] theorem noteGiven_page (c : CourseNo) (g : Option (Standing × Nat)) (s : State) : (noteGiven c g s).page = s.page := rfl
@[simp] theorem noteGiven_relay (c : CourseNo) (g : Option (Standing × Nat)) (s : State) : (noteGiven c g s).relay = s.relay := rfl
@[simp] theorem noteGiven_port (c : CourseNo) (g : Option (Standing × Nat)) (s : State) : (noteGiven c g s).port = s.port := rfl
@[simp] theorem noteGiven_prog_table (c : CourseNo) (g : Option (Standing × Nat)) (s : State) : (noteGiven c g s).prog.table = s.prog.table := rfl
@[simp] theorem noteGiven_prog_runs (c : CourseNo) (g : Option (Standing × Nat)) (s : State) : (noteGiven c g s).prog.runs = s.prog.runs := rfl
@[simp] theorem noteGiven_prog_plates (c : CourseNo) (g : Option (Standing × Nat)) (s : State) : (noteGiven c g s).prog.plates = s.prog.plates := rfl

@[simp] theorem setClockTo_pending (n : Nat) (s : State) : (setClockTo n s).pending = s.pending := rfl
@[simp] theorem setClockTo_inReset (n : Nat) (s : State) : (setClockTo n s).inReset = s.inReset := rfl
@[simp] theorem setClockTo_oe (n : Nat) (s : State) : (setClockTo n s).oe = s.oe := rfl
@[simp] theorem setClockTo_heat (n : Nat) (s : State) : (setClockTo n s).heat = s.heat := rfl
@[simp] theorem setClockTo_prog (n : Nat) (s : State) : (setClockTo n s).prog = s.prog := rfl
@[simp] theorem setClockTo_load (n : Nat) (s : State) : (setClockTo n s).load = s.load := rfl
@[simp] theorem setClockTo_bus (n : Nat) (s : State) : (setClockTo n s).bus = s.bus := rfl
@[simp] theorem setClockTo_ware (n : Nat) (s : State) : (setClockTo n s).ware = s.ware := rfl
@[simp] theorem setClockTo_route (n : Nat) (s : State) : (setClockTo n s).route = s.route := rfl
@[simp] theorem setClockTo_page (n : Nat) (s : State) : (setClockTo n s).page = s.page := rfl
@[simp] theorem setClockTo_relay (n : Nat) (s : State) : (setClockTo n s).relay = s.relay := rfl
@[simp] theorem setClockTo_port (n : Nat) (s : State) : (setClockTo n s).port = s.port := rfl
@[simp] theorem setClockTo_course_schedule (n : Nat) (s : State) : (setClockTo n s).course.schedule = s.course.schedule := rfl
@[simp] theorem setClockTo_course_board (n : Nat) (s : State) : (setClockTo n s).course.board = s.course.board := rfl
@[simp] theorem setClockTo_course_clearing (n : Nat) (s : State) : (setClockTo n s).course.clearing = s.course.clearing := rfl
@[simp] theorem setClockTo_course_lateQuanta (n : Nat) (s : State) : (setClockTo n s).course.lateQuanta = s.course.lateQuanta := rfl

@[simp] theorem setGrant_pending (g : Nat) (s : State) : (setGrant g s).pending = s.pending := rfl
@[simp] theorem setGrant_inReset (g : Nat) (s : State) : (setGrant g s).inReset = s.inReset := rfl
@[simp] theorem setGrant_oe (g : Nat) (s : State) : (setGrant g s).oe = s.oe := rfl
@[simp] theorem setGrant_heat (g : Nat) (s : State) : (setGrant g s).heat = s.heat := rfl
@[simp] theorem setGrant_prog (g : Nat) (s : State) : (setGrant g s).prog = s.prog := rfl
@[simp] theorem setGrant_bus (g : Nat) (s : State) : (setGrant g s).bus = s.bus := rfl
@[simp] theorem setGrant_course (g : Nat) (s : State) : (setGrant g s).course = s.course := rfl
@[simp] theorem setGrant_ware (g : Nat) (s : State) : (setGrant g s).ware = s.ware := rfl
@[simp] theorem setGrant_route (g : Nat) (s : State) : (setGrant g s).route = s.route := rfl
@[simp] theorem setGrant_page (g : Nat) (s : State) : (setGrant g s).page = s.page := rfl
@[simp] theorem setGrant_relay (g : Nat) (s : State) : (setGrant g s).relay = s.relay := rfl
@[simp] theorem setGrant_port (g : Nat) (s : State) : (setGrant g s).port = s.port := rfl
@[simp] theorem setGrant_load_limit (g : Nat) (s : State) : (setGrant g s).load.limit = s.load.limit := rfl
@[simp] theorem setGrant_load_reserve (g : Nat) (s : State) : (setGrant g s).load.reserve = s.load.reserve := rfl
@[simp] theorem setGrant_load_weight (g : Nat) (s : State) : (setGrant g s).load.weight = s.load.weight := rfl
@[simp] theorem setGrant_load_ramp (g : Nat) (s : State) : (setGrant g s).load.ramp = s.load.ramp := rfl
@[simp] theorem setGrant_load_solo (g : Nat) (s : State) : (setGrant g s).load.solo = s.load.solo := rfl
@[simp] theorem setGrant_load_safe (g : Nat) (s : State) : (setGrant g s).load.safe = s.load.safe := rfl
@[simp] theorem setGrant_load_peers (g : Nat) (s : State) : (setGrant g s).load.peers = s.load.peers := rfl
@[simp] theorem setGrant_load_expiryGrant (g : Nat) (s : State) : (setGrant g s).load.expiryGrant = s.load.expiryGrant := rfl
@[simp] theorem setGrant_load_applied (g : Nat) (s : State) : (setGrant g s).load.applied = s.load.applied := rfl
@[simp] theorem setGrant_load_listenCount (g : Nat) (s : State) : (setGrant g s).load.listenCount = s.load.listenCount := rfl
@[simp] theorem setGrant_load_clash (g : Nat) (s : State) : (setGrant g s).load.clash = s.load.clash := rfl
@[simp] theorem setGrant_load_clashHeard (g : Nat) (s : State) : (setGrant g s).load.clashHeard = s.load.clashHeard := rfl
@[simp] theorem setGrant_load_mismatch (g : Nat) (s : State) : (setGrant g s).load.mismatch = s.load.mismatch := rfl
@[simp] theorem setGrant_load_curtailCount (g : Nat) (s : State) : (setGrant g s).load.curtailCount = s.load.curtailCount := rfl
@[simp] theorem setGrant_load_curtailed (g : Nat) (s : State) : (setGrant g s).load.curtailed = s.load.curtailed := rfl

@[simp] theorem setLink_pending (l : LinkState) (s : State) : (setLink l s).pending = s.pending := rfl
@[simp] theorem setLink_inReset (l : LinkState) (s : State) : (setLink l s).inReset = s.inReset := rfl
@[simp] theorem setLink_oe (l : LinkState) (s : State) : (setLink l s).oe = s.oe := rfl
@[simp] theorem setLink_heat (l : LinkState) (s : State) : (setLink l s).heat = s.heat := rfl
@[simp] theorem setLink_prog (l : LinkState) (s : State) : (setLink l s).prog = s.prog := rfl
@[simp] theorem setLink_load (l : LinkState) (s : State) : (setLink l s).load = s.load := rfl
@[simp] theorem setLink_course (l : LinkState) (s : State) : (setLink l s).course = s.course := rfl
@[simp] theorem setLink_ware (l : LinkState) (s : State) : (setLink l s).ware = s.ware := rfl
@[simp] theorem setLink_route (l : LinkState) (s : State) : (setLink l s).route = s.route := rfl
@[simp] theorem setLink_page (l : LinkState) (s : State) : (setLink l s).page = s.page := rfl
@[simp] theorem setLink_relay (l : LinkState) (s : State) : (setLink l s).relay = s.relay := rfl
@[simp] theorem setLink_port (l : LinkState) (s : State) : (setLink l s).port = s.port := rfl
@[simp] theorem setLink_bus_queue (l : LinkState) (s : State) : (setLink l s).bus.queue = s.bus.queue := rfl
@[simp] theorem setLink_bus_access (l : LinkState) (s : State) : (setLink l s).bus.access = s.bus.access := rfl
@[simp] theorem setLink_bus_gapUs (l : LinkState) (s : State) : (setLink l s).bus.gapUs = s.bus.gapUs := rfl
@[simp] theorem setLink_bus_backoffUs (l : LinkState) (s : State) : (setLink l s).bus.backoffUs = s.bus.backoffUs := rfl
@[simp] theorem setLink_bus_lineBusy (l : LinkState) (s : State) : (setLink l s).bus.lineBusy = s.bus.lineBusy := rfl
@[simp] theorem setLink_bus_startMissed (l : LinkState) (s : State) : (setLink l s).bus.startMissed = s.bus.startMissed := rfl
@[simp] theorem setLink_bus_seq (l : LinkState) (s : State) : (setLink l s).bus.seq = s.bus.seq := rfl
@[simp] theorem setLink_bus_nextId (l : LinkState) (s : State) : (setLink l s).bus.nextId = s.bus.nextId := rfl
@[simp] theorem setLink_bus_draws (l : LinkState) (s : State) : (setLink l s).bus.draws = s.bus.draws := rfl
@[simp] theorem setLink_bus_repeats (l : LinkState) (s : State) : (setLink l s).bus.repeats = s.bus.repeats := rfl

@[simp] theorem setBusy_pending (b : Bool) (s : State) : (setBusy b s).pending = s.pending := rfl
@[simp] theorem setBusy_inReset (b : Bool) (s : State) : (setBusy b s).inReset = s.inReset := rfl
@[simp] theorem setBusy_oe (b : Bool) (s : State) : (setBusy b s).oe = s.oe := rfl
@[simp] theorem setBusy_heat (b : Bool) (s : State) : (setBusy b s).heat = s.heat := rfl
@[simp] theorem setBusy_prog (b : Bool) (s : State) : (setBusy b s).prog = s.prog := rfl
@[simp] theorem setBusy_load (b : Bool) (s : State) : (setBusy b s).load = s.load := rfl
@[simp] theorem setBusy_course (b : Bool) (s : State) : (setBusy b s).course = s.course := rfl
@[simp] theorem setBusy_ware (b : Bool) (s : State) : (setBusy b s).ware = s.ware := rfl
@[simp] theorem setBusy_route (b : Bool) (s : State) : (setBusy b s).route = s.route := rfl
@[simp] theorem setBusy_page (b : Bool) (s : State) : (setBusy b s).page = s.page := rfl
@[simp] theorem setBusy_relay (b : Bool) (s : State) : (setBusy b s).relay = s.relay := rfl
@[simp] theorem setBusy_port (b : Bool) (s : State) : (setBusy b s).port = s.port := rfl
@[simp] theorem setBusy_bus_link (b : Bool) (s : State) : (setBusy b s).bus.link = s.bus.link := rfl
@[simp] theorem setBusy_bus_queue (b : Bool) (s : State) : (setBusy b s).bus.queue = s.bus.queue := rfl
@[simp] theorem setBusy_bus_access (b : Bool) (s : State) : (setBusy b s).bus.access = s.bus.access := rfl
@[simp] theorem setBusy_bus_gapUs (b : Bool) (s : State) : (setBusy b s).bus.gapUs = s.bus.gapUs := rfl
@[simp] theorem setBusy_bus_backoffUs (b : Bool) (s : State) : (setBusy b s).bus.backoffUs = s.bus.backoffUs := rfl
@[simp] theorem setBusy_bus_seq (b : Bool) (s : State) : (setBusy b s).bus.seq = s.bus.seq := rfl
@[simp] theorem setBusy_bus_nextId (b : Bool) (s : State) : (setBusy b s).bus.nextId = s.bus.nextId := rfl
@[simp] theorem setBusy_bus_draws (b : Bool) (s : State) : (setBusy b s).bus.draws = s.bus.draws := rfl
@[simp] theorem setBusy_bus_repeats (b : Bool) (s : State) : (setBusy b s).bus.repeats = s.bus.repeats := rfl
@[simp] theorem setBusy_bus_lineBusy (b : Bool) (s : State) : (setBusy b s).bus.lineBusy = b := rfl
@[simp] theorem setBusy_bus_startMissed (b : Bool) (s : State) : (setBusy b s).bus.startMissed = (b && !s.receiverOn) := rfl

@[simp] theorem emptyRoute_pending (s : State) : (emptyRoute s).pending = s.pending := rfl
@[simp] theorem emptyRoute_inReset (s : State) : (emptyRoute s).inReset = s.inReset := rfl
@[simp] theorem emptyRoute_oe (s : State) : (emptyRoute s).oe = s.oe := rfl
@[simp] theorem emptyRoute_heat (s : State) : (emptyRoute s).heat = s.heat := rfl
@[simp] theorem emptyRoute_prog (s : State) : (emptyRoute s).prog = s.prog := rfl
@[simp] theorem emptyRoute_load (s : State) : (emptyRoute s).load = s.load := rfl
@[simp] theorem emptyRoute_bus (s : State) : (emptyRoute s).bus = s.bus := rfl
@[simp] theorem emptyRoute_course (s : State) : (emptyRoute s).course = s.course := rfl
@[simp] theorem emptyRoute_ware (s : State) : (emptyRoute s).ware = s.ware := rfl
@[simp] theorem emptyRoute_page (s : State) : (emptyRoute s).page = s.page := rfl
@[simp] theorem emptyRoute_relay (s : State) : (emptyRoute s).relay = s.relay := rfl
@[simp] theorem emptyRoute_port (s : State) : (emptyRoute s).port = s.port := rfl
@[simp] theorem emptyRoute_route_rules (s : State) : (emptyRoute s).route.rules = s.route.rules := rfl

@[simp] theorem recordNotice_pending (n : Notice) (s : State) : (recordNotice n s).pending = s.pending := rfl
@[simp] theorem recordNotice_inReset (n : Notice) (s : State) : (recordNotice n s).inReset = s.inReset := rfl
@[simp] theorem recordNotice_oe (n : Notice) (s : State) : (recordNotice n s).oe = s.oe := rfl
@[simp] theorem recordNotice_heat (n : Notice) (s : State) : (recordNotice n s).heat = s.heat := rfl
@[simp] theorem recordNotice_prog (n : Notice) (s : State) : (recordNotice n s).prog = s.prog := rfl
@[simp] theorem recordNotice_load (n : Notice) (s : State) : (recordNotice n s).load = s.load := rfl
@[simp] theorem recordNotice_course (n : Notice) (s : State) : (recordNotice n s).course = s.course := rfl
@[simp] theorem recordNotice_ware (n : Notice) (s : State) : (recordNotice n s).ware = s.ware := rfl
@[simp] theorem recordNotice_route (n : Notice) (s : State) : (recordNotice n s).route = s.route := rfl
@[simp] theorem recordNotice_page (n : Notice) (s : State) : (recordNotice n s).page = s.page := rfl
@[simp] theorem recordNotice_relay (n : Notice) (s : State) : (recordNotice n s).relay = s.relay := rfl
@[simp] theorem recordNotice_port (n : Notice) (s : State) : (recordNotice n s).port = s.port := rfl
@[simp] theorem recordNotice_bus_link (n : Notice) (s : State) : (recordNotice n s).bus.link = s.bus.link := rfl
@[simp] theorem recordNotice_bus_queue (n : Notice) (s : State) : (recordNotice n s).bus.queue = s.bus.queue := rfl
@[simp] theorem recordNotice_bus_access (n : Notice) (s : State) : (recordNotice n s).bus.access = s.bus.access := rfl
@[simp] theorem recordNotice_bus_gapUs (n : Notice) (s : State) : (recordNotice n s).bus.gapUs = s.bus.gapUs := rfl
@[simp] theorem recordNotice_bus_backoffUs (n : Notice) (s : State) : (recordNotice n s).bus.backoffUs = s.bus.backoffUs := rfl
@[simp] theorem recordNotice_bus_lineBusy (n : Notice) (s : State) : (recordNotice n s).bus.lineBusy = s.bus.lineBusy := rfl
@[simp] theorem recordNotice_bus_startMissed (n : Notice) (s : State) : (recordNotice n s).bus.startMissed = s.bus.startMissed := rfl
@[simp] theorem recordNotice_bus_seq (n : Notice) (s : State) : (recordNotice n s).bus.seq = s.bus.seq := rfl
@[simp] theorem recordNotice_bus_nextId (n : Notice) (s : State) : (recordNotice n s).bus.nextId = s.bus.nextId := rfl
@[simp] theorem recordNotice_bus_draws (n : Notice) (s : State) : (recordNotice n s).bus.draws = s.bus.draws := rfl

@[simp] theorem ageRepeats_heat_zones (f : RepeatRec → RepeatRec) (s : State) : (ageRepeats f s).heat.zones = s.heat.zones := rfl
@[simp] theorem ageRepeats_heat_step (f : RepeatRec → RepeatRec) (s : State) : (ageRepeats f s).heat.step = s.heat.step := rfl
@[simp] theorem ageRepeats_heat_windowGrant (f : RepeatRec → RepeatRec) (s : State) : (ageRepeats f s).heat.windowGrant = s.heat.windowGrant := rfl
@[simp] theorem ageRepeats_heat_draw (f : RepeatRec → RepeatRec) (s : State) : (ageRepeats f s).heat.draw = s.heat.draw := rfl
@[simp] theorem ageRepeats_prog_table (f : RepeatRec → RepeatRec) (s : State) : (ageRepeats f s).prog.table = s.prog.table := rfl
@[simp] theorem ageRepeats_prog_runs (f : RepeatRec → RepeatRec) (s : State) : (ageRepeats f s).prog.runs = s.prog.runs := rfl
@[simp] theorem ageRepeats_prog_plates (f : RepeatRec → RepeatRec) (s : State) : (ageRepeats f s).prog.plates = s.prog.plates := rfl
@[simp] theorem ageRepeats_prog_given (f : RepeatRec → RepeatRec) (s : State) : (ageRepeats f s).prog.given = s.prog.given := rfl
@[simp] theorem ageRepeats_load_limit (f : RepeatRec → RepeatRec) (s : State) : (ageRepeats f s).load.limit = s.load.limit := rfl
@[simp] theorem ageRepeats_load_reserve (f : RepeatRec → RepeatRec) (s : State) : (ageRepeats f s).load.reserve = s.load.reserve := rfl
@[simp] theorem ageRepeats_load_weight (f : RepeatRec → RepeatRec) (s : State) : (ageRepeats f s).load.weight = s.load.weight := rfl
@[simp] theorem ageRepeats_load_ramp (f : RepeatRec → RepeatRec) (s : State) : (ageRepeats f s).load.ramp = s.load.ramp := rfl
@[simp] theorem ageRepeats_load_solo (f : RepeatRec → RepeatRec) (s : State) : (ageRepeats f s).load.solo = s.load.solo := rfl
@[simp] theorem ageRepeats_load_safe (f : RepeatRec → RepeatRec) (s : State) : (ageRepeats f s).load.safe = s.load.safe := rfl
@[simp] theorem ageRepeats_load_peers (f : RepeatRec → RepeatRec) (s : State) : (ageRepeats f s).load.peers = s.load.peers := rfl
@[simp] theorem ageRepeats_load_grant (f : RepeatRec → RepeatRec) (s : State) : (ageRepeats f s).load.grant = s.load.grant := rfl
@[simp] theorem ageRepeats_load_expiryGrant (f : RepeatRec → RepeatRec) (s : State) : (ageRepeats f s).load.expiryGrant = s.load.expiryGrant := rfl
@[simp] theorem ageRepeats_load_applied (f : RepeatRec → RepeatRec) (s : State) : (ageRepeats f s).load.applied = s.load.applied := rfl
@[simp] theorem ageRepeats_load_listenCount (f : RepeatRec → RepeatRec) (s : State) : (ageRepeats f s).load.listenCount = s.load.listenCount := rfl
@[simp] theorem ageRepeats_load_clash (f : RepeatRec → RepeatRec) (s : State) : (ageRepeats f s).load.clash = s.load.clash := rfl
@[simp] theorem ageRepeats_load_clashHeard (f : RepeatRec → RepeatRec) (s : State) : (ageRepeats f s).load.clashHeard = s.load.clashHeard := rfl
@[simp] theorem ageRepeats_load_mismatch (f : RepeatRec → RepeatRec) (s : State) : (ageRepeats f s).load.mismatch = s.load.mismatch := rfl
@[simp] theorem ageRepeats_load_curtailCount (f : RepeatRec → RepeatRec) (s : State) : (ageRepeats f s).load.curtailCount = s.load.curtailCount := rfl
@[simp] theorem ageRepeats_load_curtailed (f : RepeatRec → RepeatRec) (s : State) : (ageRepeats f s).load.curtailed = s.load.curtailed := rfl
@[simp] theorem ageRepeats_course_clock (f : RepeatRec → RepeatRec) (s : State) : (ageRepeats f s).course.clock = s.course.clock := rfl
@[simp] theorem ageRepeats_course_schedule (f : RepeatRec → RepeatRec) (s : State) : (ageRepeats f s).course.schedule = s.course.schedule := rfl
@[simp] theorem ageRepeats_course_board (f : RepeatRec → RepeatRec) (s : State) : (ageRepeats f s).course.board = s.course.board := rfl
@[simp] theorem ageRepeats_course_clearing (f : RepeatRec → RepeatRec) (s : State) : (ageRepeats f s).course.clearing = s.course.clearing := rfl
@[simp] theorem ageRepeats_course_lateQuanta (f : RepeatRec → RepeatRec) (s : State) : (ageRepeats f s).course.lateQuanta = s.course.lateQuanta := rfl
@[simp] theorem ageRepeats_ware_washZone (f : RepeatRec → RepeatRec) (s : State) : (ageRepeats f s).ware.washZone = s.ware.washZone := rfl
@[simp] theorem ageRepeats_ware_rinseZone (f : RepeatRec → RepeatRec) (s : State) : (ageRepeats f s).ware.rinseZone = s.ware.rinseZone := rfl
@[simp] theorem ageRepeats_ware_sanMin (f : RepeatRec → RepeatRec) (s : State) : (ageRepeats f s).ware.sanMin = s.ware.sanMin := rfl
@[simp] theorem ageRepeats_ware_washMin (f : RepeatRec → RepeatRec) (s : State) : (ageRepeats f s).ware.washMin = s.ware.washMin := rfl
@[simp] theorem ageRepeats_ware_maxDwell (f : RepeatRec → RepeatRec) (s : State) : (ageRepeats f s).ware.maxDwell = s.ware.maxDwell := rfl
@[simp] theorem ageRepeats_ware_high (f : RepeatRec → RepeatRec) (s : State) : (ageRepeats f s).ware.high = s.ware.high := rfl
@[simp] theorem ageRepeats_ware_low (f : RepeatRec → RepeatRec) (s : State) : (ageRepeats f s).ware.low = s.ware.low := rfl
@[simp] theorem ageRepeats_ware_enable (f : RepeatRec → RepeatRec) (s : State) : (ageRepeats f s).ware.enable = s.ware.enable := rfl
@[simp] theorem ageRepeats_ware_waiting (f : RepeatRec → RepeatRec) (s : State) : (ageRepeats f s).ware.waiting = s.ware.waiting := rfl
@[simp] theorem ageRepeats_ware_racks (f : RepeatRec → RepeatRec) (s : State) : (ageRepeats f s).ware.racks = s.ware.racks := rfl
@[simp] theorem ageRepeats_ware_nextSeq (f : RepeatRec → RepeatRec) (s : State) : (ageRepeats f s).ware.nextSeq = s.ware.nextSeq := rfl
@[simp] theorem ageRepeats_ware_conveyor (f : RepeatRec → RepeatRec) (s : State) : (ageRepeats f s).ware.conveyor = s.ware.conveyor := rfl
@[simp] theorem ageRepeats_ware_subCause (f : RepeatRec → RepeatRec) (s : State) : (ageRepeats f s).ware.subCause = s.ware.subCause := rfl
@[simp] theorem ageRepeats_ware_margin (f : RepeatRec → RepeatRec) (s : State) : (ageRepeats f s).ware.margin = s.ware.margin := rfl
@[simp] theorem ageRepeats_ware_heldLow (f : RepeatRec → RepeatRec) (s : State) : (ageRepeats f s).ware.heldLow = s.ware.heldLow := rfl
@[simp] theorem ageRepeats_ware_levelHigh (f : RepeatRec → RepeatRec) (s : State) : (ageRepeats f s).ware.levelHigh = s.ware.levelHigh := rfl
@[simp] theorem ageRepeats_ware_repeatCount (f : RepeatRec → RepeatRec) (s : State) : (ageRepeats f s).ware.repeatCount = s.ware.repeatCount := rfl
@[simp] theorem ageRepeats_ware_wash (f : RepeatRec → RepeatRec) (s : State) : (ageRepeats f s).ware.wash = s.ware.wash := rfl
@[simp] theorem ageRepeats_route_rules (f : RepeatRec → RepeatRec) (s : State) : (ageRepeats f s).route.rules = s.route.rules := rfl
@[simp] theorem ageRepeats_route_events (f : RepeatRec → RepeatRec) (s : State) : (ageRepeats f s).route.events = s.route.events := rfl
@[simp] theorem ageRepeats_route_evaluation (f : RepeatRec → RepeatRec) (s : State) : (ageRepeats f s).route.evaluation = s.route.evaluation := rfl
@[simp] theorem ageRepeats_page_groups (f : RepeatRec → RepeatRec) (s : State) : (ageRepeats f s).page.groups = s.page.groups := rfl
@[simp] theorem ageRepeats_page_pages (f : RepeatRec → RepeatRec) (s : State) : (ageRepeats f s).page.pages = s.page.pages := rfl
@[simp] theorem ageRepeats_page_next (f : RepeatRec → RepeatRec) (s : State) : (ageRepeats f s).page.next = s.page.next := rfl
@[simp] theorem ageRepeats_relay_pairs (f : RepeatRec → RepeatRec) (s : State) : (ageRepeats f s).relay.pairs = s.relay.pairs := rfl
@[simp] theorem ageRepeats_relay_list (f : RepeatRec → RepeatRec) (s : State) : (ageRepeats f s).relay.list = s.relay.list := rfl
@[simp] theorem ageRepeats_relay_exchange (f : RepeatRec → RepeatRec) (s : State) : (ageRepeats f s).relay.exchange = s.relay.exchange := rfl
@[simp] theorem ageRepeats_relay_key (f : RepeatRec → RepeatRec) (s : State) : (ageRepeats f s).relay.key = s.relay.key := rfl
@[simp] theorem ageRepeats_relay_timerOn (f : RepeatRec → RepeatRec) (s : State) : (ageRepeats f s).relay.timerOn = s.relay.timerOn := rfl
@[simp] theorem ageRepeats_relay_transmit (f : RepeatRec → RepeatRec) (s : State) : (ageRepeats f s).relay.transmit = s.relay.transmit := rfl
@[simp] theorem ageRepeats_port_straps (f : RepeatRec → RepeatRec) (s : State) : (ageRepeats f s).port.straps = s.port.straps := rfl
@[simp] theorem ageRepeats_port_configured (f : RepeatRec → RepeatRec) (s : State) : (ageRepeats f s).port.configured = s.port.configured := rfl
@[simp] theorem ageRepeats_port_lastResult (f : RepeatRec → RepeatRec) (s : State) : (ageRepeats f s).port.lastResult = s.port.lastResult := rfl
@[simp] theorem ageRepeats_port_dataOut (f : RepeatRec → RepeatRec) (s : State) : (ageRepeats f s).port.dataOut = s.port.dataOut := rfl
@[simp] theorem ageRepeats_port_mailbox (f : RepeatRec → RepeatRec) (s : State) : (ageRepeats f s).port.mailbox = s.port.mailbox := rfl
@[simp] theorem ageRepeats_port_latched (f : RepeatRec → RepeatRec) (s : State) : (ageRepeats f s).port.latched = s.port.latched := rfl
@[simp] theorem ageRepeats_port_mask (f : RepeatRec → RepeatRec) (s : State) : (ageRepeats f s).port.mask = s.port.mask := rfl
@[simp] theorem ageRepeats_port_counters (f : RepeatRec → RepeatRec) (s : State) : (ageRepeats f s).port.counters = s.port.counters := rfl

@[simp] theorem computeGrant_pending (s : State) : (computeGrant s).pending = s.pending := rfl
@[simp] theorem computeGrant_inReset (s : State) : (computeGrant s).inReset = s.inReset := rfl
@[simp] theorem computeGrant_oe (s : State) : (computeGrant s).oe = s.oe := rfl
@[simp] theorem computeGrant_heat (s : State) : (computeGrant s).heat = s.heat := rfl
@[simp] theorem computeGrant_prog (s : State) : (computeGrant s).prog = s.prog := rfl
@[simp] theorem computeGrant_bus (s : State) : (computeGrant s).bus = s.bus := rfl
@[simp] theorem computeGrant_course (s : State) : (computeGrant s).course = s.course := rfl
@[simp] theorem computeGrant_ware (s : State) : (computeGrant s).ware = s.ware := rfl
@[simp] theorem computeGrant_route (s : State) : (computeGrant s).route = s.route := rfl
@[simp] theorem computeGrant_page (s : State) : (computeGrant s).page = s.page := rfl
@[simp] theorem computeGrant_relay (s : State) : (computeGrant s).relay = s.relay := rfl
@[simp] theorem computeGrant_port (s : State) : (computeGrant s).port = s.port := rfl
@[simp] theorem computeGrant_load_limit (s : State) : (computeGrant s).load.limit = s.load.limit := rfl
@[simp] theorem computeGrant_load_reserve (s : State) : (computeGrant s).load.reserve = s.load.reserve := rfl
@[simp] theorem computeGrant_load_weight (s : State) : (computeGrant s).load.weight = s.load.weight := rfl
@[simp] theorem computeGrant_load_ramp (s : State) : (computeGrant s).load.ramp = s.load.ramp := rfl
@[simp] theorem computeGrant_load_solo (s : State) : (computeGrant s).load.solo = s.load.solo := rfl
@[simp] theorem computeGrant_load_safe (s : State) : (computeGrant s).load.safe = s.load.safe := rfl
@[simp] theorem computeGrant_load_applied (s : State) : (computeGrant s).load.applied = s.load.applied := rfl
@[simp] theorem computeGrant_load_listenCount (s : State) : (computeGrant s).load.listenCount = s.load.listenCount := rfl
@[simp] theorem computeGrant_load_clash (s : State) : (computeGrant s).load.clash = s.load.clash := rfl
@[simp] theorem computeGrant_load_clashHeard (s : State) : (computeGrant s).load.clashHeard = s.load.clashHeard := rfl
@[simp] theorem computeGrant_load_mismatch (s : State) : (computeGrant s).load.mismatch = s.load.mismatch := rfl
@[simp] theorem computeGrant_load_curtailCount (s : State) : (computeGrant s).load.curtailCount = s.load.curtailCount := rfl
@[simp] theorem computeGrant_load_curtailed (s : State) : (computeGrant s).load.curtailed = s.load.curtailed := rfl

@[simp] theorem storeSample_pending (x : ZoneNo × Int × Option Int) (s : State) : (storeSample x s).pending = s.pending := rfl
@[simp] theorem storeSample_inReset (x : ZoneNo × Int × Option Int) (s : State) : (storeSample x s).inReset = s.inReset := rfl
@[simp] theorem storeSample_oe (x : ZoneNo × Int × Option Int) (s : State) : (storeSample x s).oe = s.oe := rfl
@[simp] theorem storeSample_prog (x : ZoneNo × Int × Option Int) (s : State) : (storeSample x s).prog = s.prog := rfl
@[simp] theorem storeSample_load (x : ZoneNo × Int × Option Int) (s : State) : (storeSample x s).load = s.load := rfl
@[simp] theorem storeSample_bus (x : ZoneNo × Int × Option Int) (s : State) : (storeSample x s).bus = s.bus := rfl
@[simp] theorem storeSample_course (x : ZoneNo × Int × Option Int) (s : State) : (storeSample x s).course = s.course := rfl
@[simp] theorem storeSample_ware (x : ZoneNo × Int × Option Int) (s : State) : (storeSample x s).ware = s.ware := rfl
@[simp] theorem storeSample_route (x : ZoneNo × Int × Option Int) (s : State) : (storeSample x s).route = s.route := rfl
@[simp] theorem storeSample_page (x : ZoneNo × Int × Option Int) (s : State) : (storeSample x s).page = s.page := rfl
@[simp] theorem storeSample_relay (x : ZoneNo × Int × Option Int) (s : State) : (storeSample x s).relay = s.relay := rfl
@[simp] theorem storeSample_port (x : ZoneNo × Int × Option Int) (s : State) : (storeSample x s).port = s.port := rfl
@[simp] theorem storeSample_heat_step (x : ZoneNo × Int × Option Int) (s : State) : (storeSample x s).heat.step = s.heat.step := rfl
@[simp] theorem storeSample_heat_windowGrant (x : ZoneNo × Int × Option Int) (s : State) : (storeSample x s).heat.windowGrant = s.heat.windowGrant := rfl
@[simp] theorem storeSample_heat_draw (x : ZoneNo × Int × Option Int) (s : State) : (storeSample x s).heat.draw = s.heat.draw := rfl

@[simp] theorem setZone_pending (x : ZoneSettings) (z : ZoneNo) (s : State) : (setZone x z s).pending = s.pending := rfl
@[simp] theorem setZone_inReset (x : ZoneSettings) (z : ZoneNo) (s : State) : (setZone x z s).inReset = s.inReset := rfl
@[simp] theorem setZone_oe (x : ZoneSettings) (z : ZoneNo) (s : State) : (setZone x z s).oe = s.oe := rfl
@[simp] theorem setZone_prog (x : ZoneSettings) (z : ZoneNo) (s : State) : (setZone x z s).prog = s.prog := rfl
@[simp] theorem setZone_load (x : ZoneSettings) (z : ZoneNo) (s : State) : (setZone x z s).load = s.load := rfl
@[simp] theorem setZone_bus (x : ZoneSettings) (z : ZoneNo) (s : State) : (setZone x z s).bus = s.bus := rfl
@[simp] theorem setZone_course (x : ZoneSettings) (z : ZoneNo) (s : State) : (setZone x z s).course = s.course := rfl
@[simp] theorem setZone_ware (x : ZoneSettings) (z : ZoneNo) (s : State) : (setZone x z s).ware = s.ware := rfl
@[simp] theorem setZone_route (x : ZoneSettings) (z : ZoneNo) (s : State) : (setZone x z s).route = s.route := rfl
@[simp] theorem setZone_page (x : ZoneSettings) (z : ZoneNo) (s : State) : (setZone x z s).page = s.page := rfl
@[simp] theorem setZone_relay (x : ZoneSettings) (z : ZoneNo) (s : State) : (setZone x z s).relay = s.relay := rfl
@[simp] theorem setZone_port (x : ZoneSettings) (z : ZoneNo) (s : State) : (setZone x z s).port = s.port := rfl
@[simp] theorem setZone_heat_step (x : ZoneSettings) (z : ZoneNo) (s : State) : (setZone x z s).heat.step = s.heat.step := rfl
@[simp] theorem setZone_heat_windowGrant (x : ZoneSettings) (z : ZoneNo) (s : State) : (setZone x z s).heat.windowGrant = s.heat.windowGrant := rfl
@[simp] theorem setZone_heat_draw (x : ZoneSettings) (z : ZoneNo) (s : State) : (setZone x z s).heat.draw = s.heat.draw := rfl

end Sys2Proof.Machine
end

