-- ==== Sys2Proof/Laws/Keeps.lean ====
section
/-! SUPPORT. What every operation but the few that write it keeps: the queue of waiting commands, the reset line, the OE input,
the last frame's answer, and the settings, straps and tables. One lemma for each operation. -/

namespace Sys2Proof.Machine

/-- What nearly every operation keeps. -/
structure Kept where
  pending : List Instr
  inReset : Bool
  oe : Bool
  lastResult : Result
  dataOut : List Byte
  settings : Settings

def State.kept (s : State) : Kept :=
  { pending := s.pending, inReset := s.inReset, oe := s.oe, lastResult := s.port.lastResult, dataOut := s.port.dataOut,
    settings := s.settings }

/-! ### Folds -/

theorem foldl_keeps {α β : Type} (g : State → β) (f : State → α → State) (h : ∀ s a, g (f s a) = g s) (l : List α) :
    ∀ s, g (l.foldl f s) = g s := by
  induction l with
  | nil => intro s; rfl
  | cons a l ih => intro s; rw [List.foldl_cons, ih, h]

theorem foldl_kept {α : Type} (f : State → α → State) (h : ∀ s a, (f s a).kept = s.kept) (l : List α) (s : State) :
    (l.foldl f s).kept = s.kept := foldl_keeps State.kept f h l s

/-! ### Updates of the zones -/

theorem zones_set (zs : Vector Zone 8) (z y : ZoneNo) (x : Zone) : (zs.set z x)[y] = if z = y then x else zs[y] := by
  show (zs.set z.val x z.isLt)[y.val] = _
  rw [Vector.getElem_set]
  simp [Fin.ext_iff]

theorem runs_set (rs : Vector Run 8) (z y : ZoneNo) (x : Run) : (rs.set z x)[y] = if z = y then x else rs[y] := by
  show (rs.set z.val x z.isLt)[y.val] = _
  rw [Vector.getElem_set]
  simp [Fin.ext_iff]

/-- Zones whose settings all stand keep what `kept` holds. -/
theorem kept_heat (s : State) (h : Heat) (hz : ∀ z : ZoneNo, h.zones[z].settings = s.heat.zones[z].settings) :
    ({ s with heat := h } : State).kept = s.kept := by
  simp only [State.kept, State.settings, hz]

theorem mapZone_kept (z : ZoneNo) (f : Zone → Zone) (hf : ∀ zn, (f zn).settings = zn.settings) (s : State) :
    (mapZone z f s).kept = s.kept := by
  refine kept_heat s _ fun y => ?_
  simp only [zones_set]
  split <;> simp_all

theorem mapZones_kept (f : ZoneNo → Zone → Zone) (hf : ∀ z zn, (f z zn).settings = zn.settings) (s : State) :
    (mapZones f s).kept = s.kept := by
  refine kept_heat s _ fun y => ?_
  simp [hf]

/-! ### Operations that are one record update -/

@[simp] theorem latch_kept (c : Cause) (s : State) : (latch c s).kept = s.kept := rfl
@[simp] theorem bump_kept (k : CounterName) (s : State) : (bump k s).kept = s.kept := rfl
@[simp] theorem raise_kept (e : Event) (s : State) : (raise e s).kept = s.kept := rfl
@[simp] theorem makeReport_kept (b : ReportBody) (s : State) : (makeReport b s).kept = s.kept := rfl
@[simp] theorem pageNotSent_kept (id : Nat) (s : State) : (pageNotSent id s).kept = s.kept := rfl
@[simp] theorem seekLine_kept (s : State) : (seekLine s).kept = s.kept := rfl
@[simp] theorem mapPage_kept (n : Nat) (f : Page → Page) (s : State) : (mapPage n f s).kept = s.kept := rfl
@[simp] theorem removePage_kept (n : Nat) (s : State) : (removePage n s).kept = s.kept := rfl
@[simp] theorem forgetPage_kept (k : RelayKey) (s : State) : (forgetPage k s).kept = s.kept := rfl
@[simp] theorem emptyRelay_kept (s : State) : (emptyRelay s).kept = s.kept := rfl
@[simp] theorem mapRec_kept (c : CourseNo) (f : CourseRec → CourseRec) (s : State) : (mapRec c f s).kept = s.kept := rfl
@[simp] theorem followOwn_kept (c : CourseNo) (g : Option (Standing × Nat)) (s : State) :
    (followOwn c g s).kept = s.kept := rfl
@[simp] theorem noteGiven_kept (c : CourseNo) (g : Option (Standing × Nat)) (s : State) :
    (noteGiven c g s).kept = s.kept := rfl
@[simp] theorem setClockTo_kept (n : Nat) (s : State) : (setClockTo n s).kept = s.kept := rfl
@[simp] theorem setGrant_kept (g : Nat) (s : State) : (setGrant g s).kept = s.kept := rfl
@[simp] theorem setLink_kept (l : LinkState) (s : State) : (setLink l s).kept = s.kept := rfl
@[simp] theorem emptyRoute_kept (s : State) : (emptyRoute s).kept = s.kept := rfl
@[simp] theorem recordNotice_kept (n : Notice) (s : State) : (recordNotice n s).kept = s.kept := rfl
@[simp] theorem ageRepeats_kept (f : RepeatRec → RepeatRec) (s : State) : (ageRepeats f s).kept = s.kept := by
  simp only [State.kept, State.settings, ageRepeats]
@[simp] theorem computeGrant_kept (s : State) : (computeGrant s).kept = s.kept := rfl
@[simp] theorem raiseClearCall_kept (e : ClearEntry) (s : State) : (raiseClearCall e s).kept = s.kept := rfl
@[simp] theorem removePeer_kept (st : Station) (s : State) : (removePeer st s).kept = s.kept := rfl
@[simp] theorem dropClearing_kept (c : CourseNo) (s : State) : (dropClearing c s).kept = s.kept := rfl
@[simp] theorem setBusy_kept (b : Bool) (s : State) : (setBusy b s).kept = s.kept := rfl
@[simp] theorem nextStep_kept (s : State) : (nextStep s).kept = s.kept := rfl

@[simp] theorem kick_kept (s : State) : (kick s).kept = s.kept := by
  unfold kick Relay.kick
  split
  · split <;> rfl
  · rfl

@[simp] theorem outputsOff_kept (s : State) : (outputsOff s).kept = s.kept := by
  unfold outputsOff; refine mapZones_kept _ ?_ s; intros; rfl
@[simp] theorem setOutputs_kept (s : State) : (setOutputs s).kept = s.kept := by
  unfold setOutputs; refine mapZones_kept _ ?_ s; intros; rfl
@[simp] theorem restartZones_kept (s : State) : (restartZones s).kept = s.kept := by
  unfold restartZones; refine mapZones_kept _ ?_ s; intros; rfl

@[simp] theorem windowStart_kept (s : State) : (windowStart s).kept = s.kept :=
  kept_heat s _ fun y => by simp [Zone.settings]

@[simp] theorem reallot_kept (g : Nat) (s : State) : (reallot g s).kept = s.kept :=
  kept_heat s _ fun y => by simp [Zone.settings, Zone.replan]

@[simp] theorem setRun_kept (z : ZoneNo) (r : Run) (s : State) : (setRun z r s).kept = s.kept := by
  have h := kept_heat s (setRun z r s).heat fun y => by
    unfold setRun
    dsimp only
    split
    · simp only [zones_set]
      split <;> simp_all [Zone.leaves, Zone.settings]
    · rfl
  rw [← h]; rfl

@[simp] theorem ageZone_kept (z : ZoneNo) (s : State) : (ageZone z s).kept = s.kept := by
  have h := kept_heat s (ageZone z s).heat fun y => by
    unfold ageZone mapZone
    dsimp only
    simp only [zones_set]
    split
    · subst_vars; split <;> rfl
    · rfl
  rw [← h]; rfl

@[simp] theorem storeSample_kept (x : ZoneNo × Int × Option Int) (s : State) : (storeSample x s).kept = s.kept := by
  have h := kept_heat s (storeSample x s).heat fun y => by
    unfold storeSample mapZone
    dsimp only
    simp only [zones_set]
    split
    · subst_vars; split <;> rfl
    · rfl
  rw [← h]; rfl

/-! ### Blocks that `kept` looks nowhere into -/

@[simp] theorem kept_pages (l : List Page) (n : Nat) (s : State) :
    ({ s with page := { s.page with pages := l, next := n } } : State).kept = s.kept := rfl

@[simp] theorem kept_bus (b : Bus) (s : State) : ({ s with bus := b } : State).kept = s.kept := rfl

theorem kept_load (l : Load) (s : State)
    (h : l.limit = s.load.limit ∧ l.reserve = s.load.reserve ∧ l.weight = s.load.weight ∧ l.ramp = s.load.ramp ∧
      l.solo = s.load.solo ∧ l.safe = s.load.safe) : ({ s with load := l } : State).kept = s.kept := by
  simp [State.kept, State.settings, h]

theorem mapWare_kept (f : Ware → Ware) (s : State)
    (h : (f s.ware).washZone = s.ware.washZone ∧ (f s.ware).rinseZone = s.ware.rinseZone ∧
      (f s.ware).sanMin = s.ware.sanMin ∧ (f s.ware).washMin = s.ware.washMin ∧
      (f s.ware).maxDwell = s.ware.maxDwell ∧ (f s.ware).high = s.ware.high ∧ (f s.ware).low = s.ware.low) :
    (mapWare f s).kept = s.kept := by
  simp [mapWare, State.kept, State.settings, h]

/-! ### The grant and the heat block -/

@[simp] theorem applyGrant_kept (g : Nat) (s : State) : (applyGrant g s).kept = s.kept := by
  unfold applyGrant
  have h := kept_load { s.load with applied := g } s (by simp)
  split
  · rw [reallot_kept, h]
  · exact h

@[simp] theorem lowerGrant_kept (g : Nat) (s : State) : (lowerGrant g s).kept = s.kept := by
  unfold lowerGrant
  repeat' split
  all_goals simp

@[simp] theorem followDemand_kept (s : State) : (followDemand s).kept = s.kept := by
  simp [followDemand]

@[simp] theorem applyRamp_kept (s : State) : (applyRamp s).kept = s.kept := by
  simp [applyRamp]

/-! ### The transmit queue -/

@[simp] theorem takeNotice_kept (b : Body) (s : State) : (takeNotice b s).kept = s.kept := by
  unfold takeNotice
  repeat' split
  all_goals simp

@[simp] theorem hand_kept (b : Body) (s : State) : (hand b s).kept = s.kept := by
  unfold hand
  repeat' split
  all_goals simp

@[simp] theorem startSending_kept (s : State) : (startSending s).kept = s.kept := by
  unfold startSending
  repeat' split
  all_goals simp

/-! ### Pages -/

@[simp] theorem offerRelay_kept (r : RelayRec) (s : State) : (offerRelay r s).kept = s.kept := by
  unfold offerRelay
  split
  · rw [kick_kept]; rfl
  · rfl

@[simp] theorem offerPage_kept (n : Nat) (s : State) : (offerPage n s).kept = s.kept := by
  unfold offerPage
  repeat' split
  all_goals simp

@[simp] theorem pageSent_kept (id : Nat) (s : State) : (pageSent id s).kept = s.kept := by
  unfold pageSent
  repeat' split
  all_goals simp

@[simp] theorem queuePage_kept (n : Nat) (s : State) : (queuePage n s).kept = s.kept := by
  simp [queuePage]

@[simp] theorem placePage_kept (n : Nat) (s : State) : (placePage n s).kept = s.kept := by
  unfold placePage
  repeat' split
  all_goals simp

@[simp] theorem raisePriority_kept (n pr : Nat) (s : State) : (raisePriority n pr s).kept = s.kept := by
  unfold raisePriority
  repeat' split
  all_goals simp

@[simp] theorem makePage_kept (r : PageRequest) (s : State) : (makePage r s).kept = s.kept := by
  simp only [makePage, apply_ite State.kept, offerPage_kept, bump_kept, kept_pages, ite_self]

@[simp] theorem requestPage_kept (r : PageRequest) (s : State) : (requestPage r s).kept = s.kept := by
  unfold requestPage
  repeat' split
  all_goals simp

@[simp] theorem expirePage_kept (p : Page) (s : State) : (expirePage p s).kept = s.kept := by
  unfold expirePage
  repeat' split
  all_goals simp

@[simp] theorem escalate_kept (n : Nat) (s : State) : (escalate n s).kept = s.kept := by
  unfold escalate
  split
  · rfl
  · dsimp only
    split
    · simp
    · split <;> simp

@[simp] theorem takeAnswer_kept (n a p : Nat) (acc : Bool) (s : State) : (takeAnswer n a p acc s).kept = s.kept := by
  unfold takeAnswer
  repeat' split
  all_goals simp

@[simp] theorem undefer_kept (n : Nat) (s : State) : (undefer n s).kept = s.kept := by
  simp [undefer]

@[simp] theorem undeferAll_kept (s : State) : (undeferAll s).kept = s.kept := by
  unfold undeferAll
  exact foldl_kept _ (fun _ _ => undefer_kept _ _) _ _

theorem watchBacklog_kept (f : State → State) (hf : ∀ s, (f s).kept = s.kept) (s : State) :
    (watchBacklog f s).kept = s.kept := by
  unfold watchBacklog
  dsimp only
  split
  · rw [undeferAll_kept, hf]
  · exact hf s

@[simp] theorem moveForDuty_kept (g : GroupNo) (s : State) : (moveForDuty g s).kept = s.kept := by
  unfold moveForDuty
  split
  · exact foldl_kept _ (fun _ _ => queuePage_kept _ _) _ _
  · rfl

@[simp] theorem withdrawPages_kept (s : State) : (withdrawPages s).kept = s.kept := by
  unfold withdrawPages
  rw [foldl_kept _ (fun _ _ => makeReport_kept _ _)]
  rfl

@[simp] theorem tickSent_kept (s : State) : (tickSent s).kept = s.kept := by
  unfold tickSent
  rw [foldl_kept _ (fun _ _ => escalate_kept _ _)]
  rfl

@[simp] theorem tickDeferred_kept (s : State) : (tickDeferred s).kept = s.kept := by
  unfold tickDeferred
  rw [foldl_kept _ (fun _ _ => undefer_kept _ _)]
  rfl

@[simp] theorem pageTick_kept (s : State) : (pageTick s).kept = s.kept := by
  unfold pageTick
  dsimp only
  rw [foldl_kept _ (fun _ _ => offerPage_kept _ _)]
  simp

/-! ### The ware block -/

@[simp] theorem driveConveyor_kept (s : State) : (driveConveyor s).kept = s.kept := by
  have h (c : Conveyor) : (mapWare (·.move c) s).kept = s.kept := mapWare_kept _ _ (by simp [Ware.move])
  unfold driveConveyor
  dsimp only
  split
  · rw [raise_kept, h]
  · rw [h]

@[simp] theorem evalConveyor_kept (s : State) : (evalConveyor s).kept = s.kept := by
  unfold evalConveyor
  repeat' split
  all_goals simp

@[simp] theorem faultConveyor_kept (c : SubCause) (s : State) : (faultConveyor c s).kept = s.kept := by
  unfold faultConveyor
  split
  · rfl
  · rw [raise_kept]; exact mapWare_kept _ _ (by simp [Ware.move])

@[simp] theorem handWare_kept (s : State) : (handWare s).kept = s.kept := by
  unfold handWare
  rw [hand_kept]
  exact mapWare_kept _ _ (by simp)

@[simp] theorem evalLevel_kept (s : State) : (evalLevel s).kept = s.kept := by
  unfold evalLevel
  repeat' split
  · rfl
  · rw [handWare_kept, raise_kept]; exact mapWare_kept _ _ (by simp)
  · rw [handWare_kept]; exact mapWare_kept _ _ (by simp)
  · rfl

@[simp] theorem evalBacklog_kept (s : State) : (evalBacklog s).kept = s.kept := by
  unfold evalBacklog
  exact watchBacklog_kept _ evalLevel_kept _

@[simp] theorem takeEntry_kept (s : State) : (takeEntry s).kept = s.kept := by
  unfold takeEntry
  split
  · simp
  · rw [evalBacklog_kept]; exact mapWare_kept _ _ (by simp)

@[simp] theorem takeRinse_kept (s : State) : (takeRinse s).kept = s.kept := by
  unfold takeRinse
  split
  · simp
  · exact mapWare_kept _ _ (by simp)

@[simp] theorem rewashExit_kept (r : Rack) (s : State) : (rewashExit r s).kept = s.kept := by
  unfold rewashExit
  rw [makeReport_kept, mapWare_kept, raise_kept, bump_kept]
  simp

@[simp] theorem takeExit_kept (s : State) : (takeExit s).kept = s.kept := by
  unfold takeExit
  split
  · rw [faultConveyor_kept, makeReport_kept]; exact mapWare_kept _ _ (by simp)
  · dsimp only
    repeat' split
    all_goals simp only [faultConveyor_kept, rewashExit_kept, bump_kept, evalBacklog_kept]
    all_goals exact mapWare_kept _ _ (by simp)

@[simp] theorem mapWash_kept (f : List WashEntry → List WashEntry) (s : State) : (mapWash f s).kept = s.kept := by
  unfold mapWash
  exact watchBacklog_kept _ (fun s => mapWare_kept _ s (by simp)) _

@[simp] theorem tickRacks_kept (s : State) : (tickRacks s).kept = s.kept := by
  unfold tickRacks
  split
  · exact mapWare_kept _ _ (by simp)
  · rfl

@[simp] theorem tickDwell_kept (s : State) : (tickDwell s).kept = s.kept := by
  unfold tickDwell
  repeat' split
  all_goals simp

@[simp] theorem tickWash_kept (s : State) : (tickWash s).kept = s.kept := by
  simp [tickWash]

@[simp] theorem tickWareRepeat_kept (s : State) : (tickWareRepeat s).kept = s.kept := by
  unfold tickWareRepeat
  repeat' split
  · simp
  · exact mapWare_kept _ _ (by simp)
  · rfl

@[simp] theorem wareTick_kept (s : State) : (wareTick s).kept = s.kept := by
  simp [wareTick]

/-! ### Runs -/

@[simp] theorem faultCheck_kept (z : ZoneNo) (s : State) : (faultCheck z s).kept = s.kept := by
  unfold faultCheck
  dsimp only
  repeat' split
  all_goals simp

@[simp] theorem enterStage_kept (k : Nat) (z : ZoneNo) (s : State) : (enterStage k z s).kept = s.kept := by
  simp [enterStage]

@[simp] theorem sampleStage_kept (z : ZoneNo) (s : State) : (sampleStage z s).kept = s.kept := by
  unfold sampleStage
  dsimp only
  repeat' split
  all_goals simp

@[simp] theorem fireRuns_kept (c : CourseNo) (s : State) : (fireRuns c s).kept = s.kept := by
  unfold fireRuns
  exact foldl_kept _ (fun s z => by split <;> simp) _ _

@[simp] theorem releaseRuns_kept (c : CourseNo) (s : State) : (releaseRuns c s).kept = s.kept := by
  unfold releaseRuns
  exact foldl_kept _ (fun s z => by dsimp only; split <;> simp) _ _

@[simp] theorem runEvent_kept (z : ZoneNo) (r : Run) (zn : Zone) (s : State) : (runEvent z r zn s).kept = s.kept := by
  unfold runEvent
  repeat' split
  all_goals simp

@[simp] theorem tickRun_kept (z : ZoneNo) (s : State) : (tickRun z s).kept = s.kept := by
  unfold tickRun
  dsimp only
  repeat' split
  all_goals simp

@[simp] theorem clearRuns_kept (s : State) : (clearRuns s).kept = s.kept := by
  unfold clearRuns
  dsimp only
  rw [← foldl_kept (fun s z => setRun z Run.idle s) (fun _ _ => setRun_kept _ _ _) zoneNos s]
  rfl

/-! ### Courses -/

@[simp] theorem kept_board (b : List CourseRec) (s : State) :
    ({ s with course := { s.course with board := b } } : State).kept = s.kept := rfl

@[simp] theorem kept_clearing (l : List ClearEntry) (s : State) :
    ({ s with course := { s.course with clearing := l } } : State).kept = s.kept := rfl

@[simp] theorem kept_schedule (l : List SchedEntry) (s : State) :
    ({ s with course := { s.course with schedule := l } } : State).kept = s.kept := rfl

@[simp] theorem removeRec_kept (c : CourseNo) (s : State) : (removeRec c s).kept = s.kept := by
  unfold removeRec
  repeat' split
  all_goals simp

@[simp] theorem handCourse_kept (c : CourseNo) (rel fire : Bool) (s : State) :
    (handCourse c rel fire s).kept = s.kept := by
  unfold handCourse
  repeat' split
  all_goals simp

@[simp] theorem handHold_kept (c : CourseNo) (q : Nat) (s : State) : (handHold c q s).kept = s.kept := by
  simp [handHold]

@[simp] theorem addClearing_kept (e : ClearEntry) (s : State) : (addClearing e s).kept = s.kept := by
  unfold addClearing
  dsimp only
  repeat' split
  all_goals simp

@[simp] theorem releaseRec_kept (r : CourseRec) (st : Station) (l : Bool) (s : State) :
    (releaseRec r st l s).kept = s.kept := by
  unfold releaseRec
  dsimp only
  repeat' split
  all_goals simp

@[simp] theorem releaseCourse_kept (c : CourseNo) (st : Station) (l : Bool) (s : State) :
    (releaseCourse c st l s).kept = s.kept := by
  unfold releaseCourse
  repeat' split
  all_goals simp

@[simp] theorem enterReady_kept (r : CourseRec) (s : State) : (enterReady r s).kept = s.kept := by
  unfold enterReady
  repeat' split
  all_goals simp

@[simp] theorem evalReady_kept (c : CourseNo) (s : State) : (evalReady c s).kept = s.kept := by
  unfold evalReady
  split
  · rfl
  · dsimp only
    repeat' split
    all_goals simp

@[simp] theorem enterHeld_kept (r : CourseRec) (s : State) : (enterHeld r s).kept = s.kept := by
  simp [enterHeld]

@[simp] theorem requestHold_kept (c : CourseNo) (q : Nat) (o : Station) (s : State) :
    (requestHold c q o s).kept = s.kept := by
  unfold requestHold
  split
  · rfl
  · dsimp only
    repeat' split
    all_goals simp

@[simp] theorem lateHold_kept (c : CourseNo) (s : State) : (lateHold c s).kept = s.kept := by
  simp [lateHold]

@[simp] theorem takeStanding_kept (c : CourseNo) (g : Option (Standing × Nat)) (s : State) :
    (takeStanding c g s).kept = s.kept := by
  unfold takeStanding
  split
  · rfl
  · dsimp only
    repeat' split
    all_goals simp

@[simp] theorem derive_kept (c : CourseNo) (s : State) : (derive c s).kept = s.kept := by
  unfold derive
  dsimp only
  split <;> simp

@[simp] theorem deriveAll_kept (s : State) : (deriveAll s).kept = s.kept := by
  unfold deriveAll
  exact foldl_kept _ (fun _ _ => derive_kept _ _) _ _

@[simp] theorem addRec_kept (r : CourseRec) (s : State) : (addRec r s).kept = s.kept := by
  unfold addRec
  repeat' split
  all_goals simp

@[simp] theorem createRec_kept (r : CourseRec) (s : State) : (createRec r s).kept = s.kept := by
  unfold createRec
  dsimp only
  split <;> simp

@[simp] theorem ensureRec_kept (c : CourseNo) (s : State) : (ensureRec c s).kept = s.kept := by
  unfold ensureRec
  repeat' split
  all_goals simp

@[simp] theorem fireOrder_kept (c : CourseNo) (s : State) : (fireOrder c s).kept = s.kept := by
  unfold fireOrder
  split
  · rfl
  · dsimp only
    repeat' split
    all_goals simp

@[simp] theorem fireLocal_kept (c : CourseNo) (s : State) : (fireLocal c s).kept = s.kept := by
  simp [fireLocal]

@[simp] theorem fire_kept (c : CourseNo) (s : State) : (fire c s).kept = s.kept := by
  simp [fire]

@[simp] theorem fireScheduled_kept (c : CourseNo) (s : State) : (fireScheduled c s).kept = s.kept := by
  unfold fireScheduled
  repeat' split
  all_goals simp

@[simp] theorem fireEntries_kept (f : SchedEntry → Bool) (s : State) : (fireEntries f s).kept = s.kept := by
  unfold fireEntries
  rw [foldl_kept _ (fun _ _ => fireScheduled_kept _ _)]
  rfl

@[simp] theorem loseMember_kept (st : Station) (c : CourseNo) (s : State) : (loseMember st c s).kept = s.kept := by
  unfold loseMember
  split
  · rfl
  · dsimp only
    repeat' split
    all_goals simp

@[simp] theorem loseMembers_kept (st : Station) (s : State) : (loseMembers st s).kept = s.kept := by
  unfold loseMembers
  exact foldl_kept _ (fun _ _ => loseMember_kept _ _ _) _ _

@[simp] theorem tickHold_kept (c : CourseNo) (s : State) : (tickHold c s).kept = s.kept := by
  unfold tickHold
  repeat' split
  all_goals simp

@[simp] theorem tickLate_kept (c : CourseNo) (s : State) : (tickLate c s).kept = s.kept := by
  unfold tickLate
  repeat' split
  all_goals simp

@[simp] theorem tickAge_kept (c : CourseNo) (s : State) : (tickAge c s).kept = s.kept := by
  unfold tickAge
  repeat' split
  all_goals simp

@[simp] theorem tickRepeat_kept (c : CourseNo) (s : State) : (tickRepeat c s).kept = s.kept := by
  unfold tickRepeat
  repeat' split
  all_goals simp

@[simp] theorem tickClearing_kept (s : State) : (tickClearing s).kept = s.kept := by
  unfold tickClearing
  rw [foldl_kept _ (fun _ _ => raiseClearCall_kept _ _)]
  rfl

theorem overBoard_kept (f : CourseNo → State → State) (hf : ∀ c s, (f c s).kept = s.kept) (s : State) :
    (overBoard f s).kept = s.kept := foldl_kept _ (fun _ _ => hf _ _) _ _

@[simp] theorem courseTick_kept (s : State) : (courseTick s).kept = s.kept := by
  unfold courseTick
  dsimp only
  rw [overBoard_kept _ tickRepeat_kept, tickClearing_kept, overBoard_kept _ tickAge_kept, overBoard_kept _ tickLate_kept,
    fireEntries_kept, overBoard_kept _ tickHold_kept, setClockTo_kept]

/-! ### The link -/

@[simp] theorem regrant_kept (s : State) : (regrant s).kept = s.kept := by
  simp [regrant]

@[simp] theorem changeLink_kept (l : LinkState) (s : State) : (changeLink l s).kept = s.kept := by
  unfold changeLink
  dsimp only
  repeat' split
  all_goals simp

@[simp] theorem endListen_kept (s : State) : (endListen s).kept = s.kept := by
  unfold endListen
  repeat' split
  all_goals simp

@[simp] theorem tableFilled_kept (s : State) : (tableFilled s).kept = s.kept := by
  unfold tableFilled
  repeat' split
  all_goals simp

@[simp] theorem tableEmptied_kept (s : State) : (tableEmptied s).kept = s.kept := by
  unfold tableEmptied
  repeat' split
  all_goals simp

@[simp] theorem enterLeaving_kept (s : State) : (enterLeaving s).kept = s.kept := by
  simp [enterLeaving]

@[simp] theorem clearBlocks_kept (s : State) : (clearBlocks s).kept = s.kept := by
  have h (s' : State) :
      ({ s' with load := s'.load.cleared, course := s'.course.cleared, ware := s'.ware.cleared } : State).kept = s'.kept :=
    rfl
  unfold clearBlocks
  dsimp only
  rw [applyGrant_kept, h]
  refine (mapZones_kept _ ?_ _).trans (clearRuns_kept s)
  intros; rfl

@[simp] theorem enterLeft_kept (s : State) : (enterLeft s).kept = s.kept := by
  have h (s' : State) (l : List Page) : ({ s' with page := { s.page with pages := l } } : State).kept =
      { s'.kept with settings := { s'.kept.settings with groups := s.page.groups } } := rfl
  unfold enterLeft
  dsimp only
  rw [latch_kept, emptyRelay_kept, emptyRoute_kept, h, clearBlocks_kept]
  rfl

@[simp] theorem dropEntry_kept (e : TxEntry) (s : State) : (dropEntry e s).kept = s.kept := by
  unfold dropEntry
  repeat' split
  all_goals simp

theorem hearing_kept (n : Notice) (act : State → State) (ha : ∀ s, (act s).kept = s.kept) (s : State) :
    (hearing n act s).kept = s.kept := by
  unfold hearing
  split
  · rfl
  · simp [ha]

@[simp] theorem waitMilli_kept (s : State) : (waitMilli s).kept = s.kept := by
  unfold waitMilli
  repeat' split
  all_goals simp

@[simp] theorem idleStep_kept (s : State) : (idleStep s).kept = s.kept := by
  unfold idleStep
  split <;> simp

/-! ### The load block -/

@[simp] theorem testCurtailed_kept (s : State) : (testCurtailed s).kept = s.kept := by
  have h (n : Nat) (b : Bool) : ({ s with load := { s.load with curtailCount := n, curtailed := b } } : State).kept = s.kept :=
    kept_load _ _ (by simp)
  unfold testCurtailed
  dsimp only
  split
  · rw [raise_kept, h]
  · rw [h]

@[simp] theorem testMismatch_kept (s : State) : (testMismatch s).kept = s.kept := by
  have h (b : Bool) : ({ s with load := { s.load with mismatch := b } } : State).kept = s.kept := kept_load _ _ (by simp)
  unfold testMismatch
  dsimp only
  repeat' split
  all_goals simp [h]

@[simp] theorem peerLost_kept (st : Station) (s : State) : (peerLost st s).kept = s.kept := by
  simp [peerLost]

@[simp] theorem tellIfEmpty_kept (s : State) : (tellIfEmpty s).kept = s.kept := by
  unfold tellIfEmpty
  repeat' split
  all_goals simp

@[simp] theorem losePeer_kept (st : Station) (s : State) : (losePeer st s).kept = s.kept := by
  unfold losePeer
  repeat' split
  all_goals simp

@[simp] theorem ageTable_kept (s : State) : (ageTable s).kept = s.kept := by
  have h (l : List Peer) : ({ s with load := { s.load with peers := l } } : State).kept = s.kept := kept_load _ _ (by simp)
  unfold ageTable
  dsimp only
  split
  · rw [foldl_kept _ (fun _ _ => peerLost_kept _ _), h]
  · rw [tellIfEmpty_kept, foldl_kept _ (fun _ _ => peerLost_kept _ _), h]

@[simp] theorem countListen_kept (s : State) : (countListen s).kept = s.kept := by
  have h (n : Nat) : ({ s with load := { s.load with listenCount := n } } : State).kept = s.kept := kept_load _ _ (by simp)
  unfold countListen
  dsimp only
  repeat' split
  all_goals simp [h]

@[simp] theorem takeLoad_kept (p : Peer) (s : State) : (takeLoad p s).kept = s.kept := by
  have h (l : List Peer) : ({ s with load := { s.load with peers := l } } : State).kept = s.kept := kept_load _ _ (by simp)
  unfold takeLoad
  dsimp only
  repeat' split
  all_goals simp [h]

@[simp] theorem takeClash_kept (q : Nat) (s : State) : (takeClash q s).kept = s.kept := by
  have h : ({ s with load := { s.load with clash := true, clashHeard := true } } : State).kept = s.kept :=
    kept_load _ _ (by simp)
  unfold takeClash
  dsimp only
  split <;> simp [h]

/-! ### The routing block -/

@[simp] theorem takeOldest_kept (s : State) : (takeOldest s).kept = s.kept := by
  unfold takeOldest
  split <;> rfl

@[simp] theorem endEvaluation_kept (s : State) : (endEvaluation s).kept = s.kept := by
  unfold endEvaluation
  split
  · rfl
  · dsimp only
    split
    · rw [requestPage_kept]; rfl
    · rfl

/-! ### RESTART -/

@[simp] theorem restartBlocks_kept (s : State) : (restartBlocks s).kept = s.kept := by
  have h (s' : State) : ({ s' with load := { s'.load with listenCount := 0 }, page := { s'.page with pages := [] }, port := s'.port.restarted } : State).kept = s'.kept := rfl
  unfold restartBlocks
  dsimp only
  rw [h, restartZones_kept, emptyRelay_kept, emptyRoute_kept, clearBlocks_kept, kept_bus]

/-! ### What the commands of the host do -/

theorem overZones_kept (zs : List ZoneNo) (f : ZoneNo → State → State) (hf : ∀ z s, (f z s).kept = s.kept) (s : State) :
    (overZones zs f s).kept = s.kept := foldl_kept _ (fun _ _ => hf _ _) _ _

@[simp] theorem sampleRun_kept (z : ZoneNo) (s : State) : (sampleRun z s).kept = s.kept := by
  simp [sampleRun]

@[simp] theorem takeSamples_kept (xs : List (ZoneNo × Int × Option Int)) (s : State) :
    (takeSamples xs s).kept = s.kept := by
  unfold takeSamples
  dsimp only
  rw [evalConveyor_kept, followDemand_kept, deriveAll_kept, overZones_kept _ _ sampleRun_kept, foldl_kept _ (fun _ _ => storeSample_kept _ _)]

@[simp] theorem assignRun_kept (c : CourseNo) (n : Fin 16) (b : Program) (f : Bool) (z : ZoneNo) (s : State) :
    (assignRun c n b f z s).kept = s.kept := by
  unfold assignRun
  dsimp only
  repeat' split
  all_goals simp

@[simp] theorem assign_kept (zs : List ZoneNo) (c : CourseNo) (n : Fin 16) (b : Program) (s : State) :
    (assign zs c n b s).kept = s.kept := by
  unfold assign
  dsimp only
  rw [followDemand_kept, derive_kept, overZones_kept _ _ (assignRun_kept _ _ _ _), ensureRec_kept]

@[simp] theorem abort_kept (zs : List ZoneNo) (s : State) : (abort zs s).kept = s.kept := by
  unfold abort
  dsimp only
  rw [followDemand_kept, foldl_kept _ (fun _ _ => derive_kept _ _), overZones_kept _ _ (fun _ _ => setRun_kept _ _ _)]

@[simp] theorem setPlates_kept (c : CourseNo) (n : Nat) (s : State) : (setPlates c n s).kept = s.kept := by
  unfold setPlates
  rw [derive_kept]
  rfl

@[simp] theorem appendEntry_kept (c : CourseNo) (n : Nat) (s : State) : (appendEntry c n s).kept = s.kept := by
  simp [appendEntry]

@[simp] theorem releaseIfAuto_kept (c : CourseNo) (s : State) : (releaseIfAuto c s).kept = s.kept := by
  unfold releaseIfAuto
  repeat' split
  all_goals simp

@[simp] theorem openCourse_kept (c : CourseNo) (p : List Byte) (s : State) : (openCourse c p s).kept = s.kept := by
  unfold openCourse
  dsimp only
  repeat' split
  all_goals simp

@[simp] theorem holdCourse_kept (c : CourseNo) (q : Nat) (s : State) : (holdCourse c q s).kept = s.kept := by
  simp [holdCourse]

@[simp] theorem setClock_kept (n : Nat) (s : State) : (setClock n s).kept = s.kept := by
  simp [setClock]

@[simp] theorem setWare_kept (e : Bool) (n : Nat) (s : State) : (setWare e n s).kept = s.kept := by
  unfold setWare
  refine watchBacklog_kept _ (fun s => ?_) s
  rw [evalLevel_kept, evalConveyor_kept]
  exact mapWare_kept _ _ (by simp)

@[simp] theorem setMailbox_kept (m : Mailbox) (s : State) : (setMailbox m s).kept = s.kept := by
  rfl

@[simp] theorem clearLatched_kept (m : Half) (s : State) : (clearLatched m s).kept = s.kept := by
  rfl

@[simp] theorem zeroCounters_kept (s : State) : (zeroCounters s).kept = s.kept := by
  rfl

/-! ### What the steps of the time base and the ticks do -/

@[simp] theorem ageZones_kept (s : State) : (ageZones s).kept = s.kept := by
  unfold ageZones
  rw [foldl_kept _ (fun _ _ => faultCheck_kept _ _), foldl_kept _ (fun _ _ => ageZone_kept _ _)]

@[simp] theorem zonesChanged_kept (s : State) : (zonesChanged s).kept = s.kept := by
  simp [zonesChanged]

@[simp] theorem stepBoundary_kept (s : State) : (stepBoundary s).kept = s.kept := by
  unfold stepBoundary
  dsimp only
  rw [zonesChanged_kept, setOutputs_kept]
  split <;> simp

@[simp] theorem runTick_kept (z : ZoneNo) (s : State) : (runTick z s).kept = s.kept := by
  simp [runTick]

@[simp] theorem programTick_kept (b s : State) : (programTick b s).kept = s.kept := by
  unfold programTick
  rw [deriveAll_kept]
  exact foldl_kept _ (fun s z => by split <;> simp) _ _

@[simp] theorem serviceTick_kept (s : State) : (serviceTick s).kept = s.kept := by
  simp [serviceTick]

@[simp] theorem fireEntryAt_kept (i : Nat) (e : SchedEntry) (s : State) : (fireEntryAt i e s).kept = s.kept := by
  simp [fireEntryAt]

@[simp] theorem loadPeriodFigures_kept (s : State) : (loadPeriodFigures s).kept = s.kept := by
  have h (s' : State) : ({ s' with load := s'.load.endClash } : State).kept = s'.kept := kept_load _ _ (by simp [Load.endClash])
  unfold loadPeriodFigures
  dsimp only
  rw [testCurtailed_kept, computeGrant_kept, countListen_kept, h, ageTable_kept]

@[simp] theorem loadPeriodEnd_kept (s : State) : (loadPeriodEnd s).kept = s.kept := by
  unfold loadPeriodEnd
  dsimp only
  repeat' split
  all_goals simp

/-! ### What the notices do -/

@[simp] theorem takeLoadNotice_kept (st : Station) (q f : Half) (w : Byte) (d l : Half) (s : State) :
    (takeLoadNotice st q f w d l s).kept = s.kept := by
  unfold takeLoadNotice
  dsimp only
  repeat' split
  all_goals simp

@[simp] theorem takePlates_kept (x : CourseSaid) (s : State) : (takePlates x s).kept = s.kept := by
  unfold takePlates
  repeat' split
  all_goals simp

@[simp] theorem takeMember_kept (x : CourseSaid) (s : State) : (takeMember x s).kept = s.kept := by
  unfold takeMember
  repeat' split
  all_goals simp

@[simp] theorem takeFire_kept (x : CourseSaid) (s : State) : (takeFire x s).kept = s.kept := by
  unfold takeFire
  repeat' split
  all_goals simp

@[simp] theorem reRelease_kept (x : CourseSaid) (s : State) : (reRelease x s).kept = s.kept := by
  unfold reRelease
  repeat' split
  all_goals simp

@[simp] theorem takeStandingHeard_kept (x : CourseSaid) (s : State) : (takeStandingHeard x s).kept = s.kept := by
  simp [takeStandingHeard]

@[simp] theorem takeCourse_kept (x : CourseSaid) (s : State) : (takeCourse x s).kept = s.kept := by
  unfold takeCourse
  repeat' split
  all_goals simp

@[simp] theorem takeCourseNotice_kept (st : Station) (c m : Byte) (f : Bool) (p w : Option Half) (s : State) :
    (takeCourseNotice st c m f p w s).kept = s.kept := by
  unfold takeCourseNotice
  repeat' split
  all_goals simp

@[simp] theorem takeHoldNotice_kept (st : Station) (c q : Byte) (s : State) :
    (takeHoldNotice st c q s).kept = s.kept := by
  unfold takeHoldNotice
  repeat' split
  all_goals simp

@[simp] theorem takeWareNotice_kept (st : Station) (l : Byte) (b : Half) (c : Byte) (s : State) :
    (takeWareNotice st l b c s).kept = s.kept := by
  unfold takeWareNotice
  repeat' split
  all_goals simp

@[simp] theorem takePageNotice_kept (st : Station) (n a g p m c : Byte) (s : State) :
    (takePageNotice st n a g p m c s).kept = s.kept := by
  unfold takePageNotice
  repeat' split
  all_goals simp

@[simp] theorem answerPages_kept (o n a : Byte) (p : Half) (acc : Bool) (s : State) :
    (answerPages o n a p acc s).kept = s.kept := by
  unfold answerPages
  repeat' split
  all_goals simp

@[simp] theorem answerRelay_kept (o n a : Byte) (s : State) : (answerRelay o n a s).kept = s.kept := by
  unfold answerRelay
  repeat' split
  all_goals simp

@[simp] theorem takeAnswerNotice_kept (o n a : Byte) (p : Half) (r : Byte) (s : State) :
    (takeAnswerNotice o n a p r s).kept = s.kept := by
  unfold takeAnswerNotice
  repeat' split
  all_goals simp

@[simp] theorem passOn_kept (n : Notice) (s : State) : (passOn n s).kept = s.kept := by
  rcases n with ⟨_, _, body⟩
  cases body <;> simp [passOn]

@[simp] theorem receiveBytes_kept (b : List Byte) (s : State) : (receiveBytes b s).kept = s.kept := by
  unfold receiveBytes
  repeat' split
  all_goals simp [hearing_kept _ _ (passOn_kept _)]

/-! ### What the line and the radio link do -/

@[simp] theorem completed_kept (e : TxEntry) (s : State) : (completed e s).kept = s.kept := by
  unfold completed
  repeat' split
  all_goals simp

@[simp] theorem complete_kept (e : TxEntry) (s : State) : (complete e s).kept = s.kept := by
  simp [complete]

@[simp] theorem collide_kept (e : TxEntry) (s : State) : (collide e s).kept = s.kept := by
  unfold collide
  dsimp only
  repeat' split
  all_goals simp

@[simp] theorem kept_relay (l : List RelayRec) (e : Exchange) (k : Option RelayKey) (b : Bool) (t : List Byte) (s : State) :
    ({ s with relay := { s.relay with list := l, exchange := e, key := k, timerOn := b, transmit := t } } : State).kept =
      s.kept := rfl

@[simp] theorem retry_kept (s : State) : (retry s).kept = s.kept := by
  unfold retry
  split
  · rfl
  · rw [kick_kept]; rfl

@[simp] theorem giveUp_kept (s : State) : (giveUp s).kept = s.kept := by
  unfold giveUp
  rw [kick_kept, latch_kept]
  rfl

@[simp] theorem takeDone_kept (o n a : Byte) (s : State) : (takeDone o n a s).kept = s.kept := by
  unfold takeDone
  split
  · rw [kick_kept]; rfl
  · rfl

@[simp] theorem takeReply_kept (p : Half) (o n a r : Byte) (s : State) : (takeReply p o n a r s).kept = s.kept := by
  unfold takeReply
  dsimp only
  repeat' split
  all_goals simp

end Sys2Proof.Machine
end

