-- ==== Sys2Proof/Laws/Ops.lean ====
section
/-! SUPPORT. What each shared operation can do, said once: the cases of the operations that branch, the bounds of the
clamps, and the cases of a step. -/

namespace Sys2Proof.Machine

/-! ### A step -/

/-- A step idles, or runs the command at the front of the queue with the queue's rest. -/
theorem step_cases (s : State) :
    (s.pending = [] ∧ step s = .next (idleStep s)) ∨
      ∃ c rest, s.pending = c :: rest ∧ step s = exec c { s with pending := rest } := by
  unfold step
  cases h : s.pending with
  | nil => exact .inl ⟨rfl, rfl⟩
  | cons c rest => exact .inr ⟨c, rest, rfl, rfl⟩

/-- A command's effect is nothing while the reset line holds, and is the effect given otherwise. -/
theorem unlessReset_cases {s t : State} {f : State → State} (h : unlessReset s f = .next t) :
    (s.inReset = true ∧ t = s) ∨ (s.inReset = false ∧ t = f s) := by
  unfold unlessReset at h
  injection h with h
  cases hr : s.inReset <;> simp [hr] at h <;> simp [h]

/-- A condition that each operation of a fold keeps is kept by the fold. -/
theorem foldl_inv {α β : Type} {P : β → Prop} (f : β → α → β) (h : ∀ b a, P b → P (f b a)) (l : List α) :
    ∀ b, P b → P (l.foldl f b) := by
  induction l with
  | nil => intro b hb; exact hb
  | cons a l ih => intro b hb; exact ih _ (h b a hb)

/-! ### Frames -/

/-- A write frame: refused FRAME, refused NOT_CONFIGURED, or the command's own effect and result. -/
theorem writeFrame_cases (ok before : Bool) (act : State → State × Result) (s : State) :
    (ok = false ∧ writeFrame ok before act s = s.refusedWith .frame) ∨
      (ok = true ∧ before = false ∧ s.port.configured = false ∧ writeFrame ok before act s = s.refusedWith .notConfigured) ∨
      (ok = true ∧ (before = true ∨ s.port.configured = true) ∧
        writeFrame ok before act s = answerFrame s.statusByte [] (act s).2 (act s).1) := by
  cases ok <;> cases before <;> cases h : s.port.configured <;>
    simp [writeFrame, h, State.refusedWith, answerFrame]

/-- A read frame: refused FRAME, or its data after its side effect. -/
theorem readFrame_cases (code : Byte) (n : Nat) (p : List Byte) (r : Result) (data : List Byte) (side : State → State)
    (s : State) :
    (p.length < n ∧ readFrame code n p r data side s = s.refusedWith .frame) ∨
      (n ≤ p.length ∧ readFrame code n p r data side s = answerFrame s.statusByte (readOut code n p data) r (side s)) := by
  by_cases h : n ≤ p.length
  · exact .inr ⟨h, by simp [readFrame, h]⟩
  · exact .inl ⟨by omega, by simp [readFrame, State.refusedWith, answerFrame, h]⟩

/-! ### Clamps -/

theorem le_clamp (lo hi n : Nat) : lo ≤ clamp lo hi n := Nat.le_max_left _ _

theorem clamp_le {lo hi : Nat} (h : lo ≤ hi) (n : Nat) : clamp lo hi n ≤ hi := by
  unfold clamp; omega

theorem clampTemp_range (t : Int) : -40 ≤ clampTemp t ∧ clampTemp t ≤ 400 := by
  unfold clampTemp; omega

/-! ### The grant -/

/-- An applied grant below the window grant re-allots; any other only stands. -/
theorem applyGrant_cases (g : Nat) (s : State) :
    (s.heat.windowGrant ≤ g ∧ applyGrant g s = { s with load := { s.load with applied := g } }) ∨
      (g < s.heat.windowGrant ∧ applyGrant g s = reallot g { s with load := { s.load with applied := g } }) := by
  unfold applyGrant
  by_cases h : g < s.heat.windowGrant
  · exact .inr ⟨h, by simp [h]⟩
  · exact .inl ⟨by omega, by simp [h]⟩

theorem applyGrant_applied (g : Nat) (s : State) : (applyGrant g s).load.applied = g := by
  rcases applyGrant_cases g s with ⟨-, h⟩ | ⟨-, h⟩
  · rw [h]
  · rw [h]; rfl

/-- After the grant is lowered it is the least of what it was and what the station may hold. -/
theorem lowerGrant_applied (m : Nat) (s : State) : (lowerGrant m s).load.applied = min s.load.applied m := by
  unfold lowerGrant
  split
  · rw [applyGrant_applied]; omega
  · omega

/-! ### Runs -/

/-- A run replaced changes no other run. -/
theorem setRun_runs (z y : ZoneNo) (r : Run) (s : State) :
    (setRun z r s).prog.runs[y] = if z = y then r else s.prog.runs[y] := by
  show (s.prog.runs.set z.val r z.isLt)[y.val] = _
  rw [Vector.getElem_set]
  simp [Fin.ext_iff]

/-- The fault check faults the zone's run with one event, or does nothing. -/
theorem faultCheck_cases (z : ZoneNo) (s : State) :
    faultCheck z s = s ∨
      ∃ e, s.prog.runs[z].state.active = true ∧ (s.heat.zones[z].isOver = true ∨ s.heat.zones[z].stale = true) ∧
        faultCheck z s = raise e (setRun z { s.prog.runs[z] with state := .fault } s) := by
  unfold faultCheck
  dsimp only
  split
  · next h =>
    simp only [Bool.and_eq_true, Bool.or_eq_true] at h
    exact .inr ⟨_, h.1, h.2, rfl⟩
  · exact .inl rfl

/-! ### The transmit queue -/

/-- Seeking the line leaves the machine EMPTY, DEFERRED, or in the gap of the head. -/
theorem seek_cases (b : Bus) :
    (headOf b.queue = none ∧ b.seek = { b with access := .empty }) ∨
      ∃ h, headOf b.queue = some h ∧
        ((b.lineBusy = true ∧ b.seek = { b with access := .deferred }) ∨
          (b.lineBusy = false ∧ b.seek =
            { b with access := .gap, gapUs := h.body.txClass.gapUs + 16 * (Config.draw b.draws % 8), draws := b.draws + 1 })) := by
  unfold Bus.seek
  cases h : headOf b.queue with
  | none => exact .inl ⟨rfl, rfl⟩
  | some x => exact .inr ⟨x, rfl, by cases hb : b.lineBusy <;> simp⟩

/-- A notice handed is declined, or supersedes, is appended, displaces, or is refused. -/
theorem hand_cases (b : Body) (s : State) :
    (s.bus.link.sends = false ∧ hand b s = s) ∨
      (s.bus.link.sends = true ∧
        ((∃ old, supersededBy b s.bus.queue = some old ∧
            hand b s = { s with bus := s.bus.took (s.bus.queue.map fun e =>
              if e.id = old.id then { s.newEntry b with attempts := old.attempts, waitMs := old.waitMs } else e) }) ∨
          (supersededBy b s.bus.queue = none ∧
            ((s.bus.queue.length < 12 ∧ hand b s = { s with bus := (s.bus.took (s.bus.queue ++ [s.newEntry b])).wake }) ∨
              (12 ≤ s.bus.queue.length ∧
                ((∃ v, displacedBy b s.bus.queue = some v ∧
                    hand b s = pageNotSent v.id
                      (bump .txqDrop { s with bus := s.bus.took (withoutId v.id s.bus.queue ++ [s.newEntry b]) })) ∨
                  (displacedBy b s.bus.queue = none ∧ hand b s = bump .txqDrop s))))))) := by
  unfold hand takeNotice
  cases hs : s.bus.link.sends with
  | false => exact .inl ⟨rfl, by simp⟩
  | true =>
    refine .inr ⟨rfl, ?_⟩
    cases ho : supersededBy b s.bus.queue with
    | some old => exact .inl ⟨old, rfl, by simp⟩
    | none =>
      refine .inr ⟨rfl, ?_⟩
      by_cases hl : s.bus.queue.length < 12
      · exact .inl ⟨hl, by simp [hl]⟩
      · refine .inr ⟨by omega, ?_⟩
        cases hd : displacedBy b s.bus.queue with
        | some v => exact .inl ⟨v, rfl, by simp [hl]⟩
        | none => exact .inr ⟨rfl, by simp [hl]⟩

/-! ### Courses -/

/-- A release acts on a record that is not RELEASED, and on nothing else. -/
theorem releaseCourse_cases (c : CourseNo) (st : Station) (l : Bool) (s : State) :
    releaseCourse c st l s = s ∨
      ∃ r, s.recOf c = some r ∧ r.state ≠ .released ∧ releaseCourse c st l s = releaseRec r st l s := by
  unfold releaseCourse
  cases h : s.recOf c with
  | none => exact .inl rfl
  | some r =>
    by_cases hr : r.state = .released
    · exact .inl (by simp [hr])
    · exact .inr ⟨r, rfl, hr, by simp [hr]⟩

/-- The standing is derived again and given, or is as last given. -/
theorem derive_cases (c : CourseNo) (s : State) :
    (s.report c = s.prog.given[c] ∧ derive c s = s) ∨
      (s.report c ≠ s.prog.given[c] ∧ derive c s = takeStanding c (s.report c) (noteGiven c (s.report c) s)) := by
  unfold derive
  dsimp only
  by_cases h : s.report c = s.prog.given[c]
  · exact .inl ⟨h, if_pos h⟩
  · exact .inr ⟨h, if_neg h⟩

/-- A record found is on the board and is of the course. -/
theorem recOf_some {c : CourseNo} {s : State} {r : CourseRec} (h : s.recOf c = some r) :
    r ∈ s.course.board ∧ r.course = c :=
  ⟨List.mem_of_find?_eq_some h, by simpa using List.find?_some h⟩

/-- Rewriting a record keeps the courses of the board. -/
theorem mapRec_courses (c : CourseNo) (f : CourseRec → CourseRec) (hf : ∀ r, (f r).course = r.course) (s : State) :
    (mapRec c f s).course.board.map (·.course) = s.course.board.map (·.course) := by
  simp only [mapRec, List.map_map]
  apply List.map_congr_left
  intro r _
  simp only [Function.comp]
  split
  · exact hf r
  · rfl

/-- R84: a schedule entry that fires is spent, fires its course, or is spent with BOARD_MISS. -/
theorem fireScheduled_cases (c : CourseNo) (s : State) :
    ((s.bus.link.bars = true ∨ s.isReleased c = true) ∧ fireScheduled c s = s) ∨
      (s.bus.link.bars = false ∧ s.isReleased c = false ∧ s.canHaveRec c = true ∧ fireScheduled c s = fire c s) ∨
      (s.bus.link.bars = false ∧ s.isReleased c = false ∧ s.canHaveRec c = false ∧
        fireScheduled c s = bump .boardMiss s) := by
  unfold fireScheduled
  cases hb : s.bus.link.bars <;> cases hr : s.isReleased c <;> cases hc : s.canHaveRec c <;> simp

/-! ### The line and the receiver -/

/-- R74: a millisecond leaves everything as it is, where no notice waits as the head; takes the head out, where it was 1 ms short of
500; and otherwise makes its wait time 1 ms longer. -/
theorem waitMilli_cases (s : State) :
    (s.bus.waiter = none ∧ waitMilli s = s) ∨
      ∃ h, s.bus.waiter = some h ∧
        ((499 ≤ h.waitMs ∧ waitMilli s = dropEntry h (bump .deferDrop s)) ∨
          (h.waitMs < 499 ∧ waitMilli s = { s with bus := { s.bus with
            queue := s.bus.queue.map fun e => if e.id = h.id then { e with waitMs := e.waitMs + 1 } else e } })) := by
  unfold waitMilli
  cases hw : s.bus.waiter with
  | none => exact .inl ⟨rfl, rfl⟩
  | some h =>
    refine .inr ⟨h, rfl, ?_⟩
    by_cases hm : 499 ≤ h.waitMs
    · exact .inl ⟨hm, by simp [hm]⟩
    · exact .inr ⟨by omega, by simp [hm]⟩

/-- LINE_BUSY: the line turns busy, and out of reset a gap defers. -/
theorem execLineBusy_cases (s : State) :
    (s.inReset = true ∧ execLineBusy s = .next (setBusy true s)) ∨
      (s.inReset = false ∧ s.bus.access = .gap ∧
        execLineBusy s = .next { setBusy true s with bus := { (setBusy true s).bus with access := .deferred } }) ∨
      (s.inReset = false ∧ s.bus.access ≠ .gap ∧ execLineBusy s = .next (setBusy true s)) := by
  unfold execLineBusy deferGap
  cases s.inReset
  · by_cases h : s.bus.access = .gap <;> simp [h]
  · simp

/-- LINE_IDLE: the line becomes idle, the queue being sought from DEFERRED; the station's own transmission keeps it busy. -/
theorem execLineIdle_cases (s : State) :
    (s.inReset = true ∧ execLineIdle s = .next (setBusy false s)) ∨
      (s.inReset = false ∧ s.bus.access = .sending ∧ execLineIdle s = .next s) ∨
      (s.inReset = false ∧ s.bus.access = .deferred ∧ execLineIdle s = .next (seekLine (setBusy false s))) ∨
      (s.inReset = false ∧ s.bus.access ≠ .sending ∧ s.bus.access ≠ .deferred ∧
        execLineIdle s = .next (setBusy false s)) := by
  unfold execLineIdle lineIdle
  cases s.inReset
  · by_cases h : s.bus.access = .sending <;> by_cases h' : s.bus.access = .deferred <;> simp_all
  · simp

/-- A hold request: nothing without a record or at a RELEASED one; the hold alone, at a record that is OPEN or is HELD and stays
so; entry to HELD with its report; and at 0 quanta a fired record FIRED, with its readiness evaluated. -/
theorem requestHold_cases (c : CourseNo) (q : Nat) (o : Station) (s : State) :
    (s.recOf c = none ∧ requestHold c q o s = s) ∨
      ∃ r, s.recOf c = some r ∧
        ((r.state = .released ∧ requestHold c q o s = s) ∨
          ((r.state = .opened ∨ (0 < q ∧ r.state = .held)) ∧ requestHold c q o s = mapRec c (·.withHold q o) s) ∨
          (0 < q ∧ (r.state = .fired ∨ r.state = .ready) ∧
            requestHold c q o s = enterHeld (r.withHold q o) (mapRec c (·.withHold q o) s)) ∨
          (q = 0 ∧ r.state.isFired = true ∧
            requestHold c q o s = evalReady c (mapRec c (fun x => { x with state := .fired }) (mapRec c (·.withHold q o) s)))) := by
  cases hr : s.recOf c with
  | none => exact .inl ⟨rfl, by simp [requestHold, hr]⟩
  | some r =>
    refine .inr ⟨r, rfl, ?_⟩
    cases hs : r.state <;> rcases Nat.eq_zero_or_pos q with hq | hq <;>
      simp [requestHold, hr, hs, hq, CourseState.isFired, Nat.ne_of_gt]

/-- R75–R77: a notice heard is not accepted, or a repeat, and changes nothing; or it is recorded, counted and acted on. -/
theorem hearing_cases (n : Notice) (act : State → State) (s : State) :
    ((s.accepts = false ∨ s.isRepeat n = true) ∧ hearing n act s = s) ∨
      (s.accepts = true ∧ s.isRepeat n = false ∧ hearing n act s = act (bump .noticesHeard (recordNotice n s))) := by
  unfold hearing
  cases ha : s.accepts <;> cases hr : s.isRepeat n <;> simp

/-- R75: what a station that accepts notices is. -/
theorem accepts_iff (s : State) : 
    s.accepts = true ↔ s.bus.link.hears = true ∧ s.bus.startMissed = false ∧ s.bus.access ≠ .sending := by
  simp [State.accepts, State.takes, and_assoc]

end Sys2Proof.Machine
end

