-- ==== Sys2Proof/Laws/PerInstr.lean ====
section
/-! SUPPORT. What is said of each command as syntax, one lemma for each constructor: a command of the list is met by the part,
and its frame is a code byte of 1 to 36 followed by its parameter bytes (R169, R190). -/

namespace Sys2Proof.Laws.Frames

/-- A command with a frame form is well-formed, and its frame is one of the codes 1 to 36 and then its parameters. -/
def Statement (i : Instr) : Prop :=
  ∀ f, Machine.frameForm i = some f →
    i.wellFormed = true ∧ ∃ code : Byte, 1 ≤ code.toNat ∧ code.toNat ≤ 36 ∧ frameBytes i = some (code :: f.params)

/-- An event that no frame carries has no frame form. -/
theorem of_none {i : Instr} (h : Machine.frameForm i = none) : Statement i := fun f hf => by simp [h] at hf

/-- A command of the list with its code. -/
theorem of_code {i : Instr} (code : Byte) (g : Machine.FrameForm) (hw : i.wellFormed = true) (h1 : 1 ≤ code.toNat)
    (h2 : code.toNat ≤ 36) (hb : frameBytes i = some (code :: g.params)) (hg : Machine.frameForm i = some g) : Statement i :=
  fun f hf => by rw [hg] at hf; cases hf; exact ⟨hw, code, h1, h2, hb⟩

theorem resetAsserted :
    Statement .resetAsserted := of_none rfl

theorem resetReleased (straps : Straps) :
    Statement (.resetReleased straps) := of_none rfl

theorem configure (params : List Byte) : Statement (.configure params) :=
  of_code 1 _ rfl (by decide) (by decide) rfl rfl

theorem readStatus (params : List Byte) : Statement (.readStatus params) :=
  of_code 2 _ rfl (by decide) (by decide) rfl rfl

theorem setClock (params : List Byte) : Statement (.setClock params) :=
  of_code 3 _ rfl (by decide) (by decide) rfl rfl

theorem zoneSet (params : List Byte) : Statement (.zoneSet params) :=
  of_code 4 _ rfl (by decide) (by decide) rfl rfl

theorem zoneRead (params : List Byte) : Statement (.zoneRead params) :=
  of_code 5 _ rfl (by decide) (by decide) rfl rfl

theorem sample (params : List Byte) : Statement (.sample params) :=
  of_code 6 _ rfl (by decide) (by decide) rfl rfl

theorem programWrite (params : List Byte) : Statement (.programWrite params) :=
  of_code 7 _ rfl (by decide) (by decide) rfl rfl

theorem programRead (params : List Byte) : Statement (.programRead params) :=
  of_code 8 _ rfl (by decide) (by decide) rfl rfl

theorem assign (params : List Byte) : Statement (.assign params) :=
  of_code 9 _ rfl (by decide) (by decide) rfl rfl

theorem fire (params : List Byte) : Statement (.fire params) :=
  of_code 10 _ rfl (by decide) (by decide) rfl rfl

theorem abort (params : List Byte) : Statement (.abort params) :=
  of_code 11 _ rfl (by decide) (by decide) rfl rfl

theorem schedule (params : List Byte) : Statement (.schedule params) :=
  of_code 12 _ rfl (by decide) (by decide) rfl rfl

theorem openCourse (params : List Byte) : Statement (.openCourse params) :=
  of_code 13 _ rfl (by decide) (by decide) rfl rfl

theorem release (params : List Byte) : Statement (.release params) :=
  of_code 14 _ rfl (by decide) (by decide) rfl rfl

theorem hold (params : List Byte) : Statement (.hold params) :=
  of_code 15 _ rfl (by decide) (by decide) rfl rfl

theorem closeCourse (params : List Byte) : Statement (.closeCourse params) :=
  of_code 16 _ rfl (by decide) (by decide) rfl rfl

theorem readBoard (params : List Byte) : Statement (.readBoard params) :=
  of_code 17 _ rfl (by decide) (by decide) rfl rfl

theorem plates (params : List Byte) : Statement (.plates params) :=
  of_code 18 _ rfl (by decide) (by decide) rfl rfl

theorem wareSet (params : List Byte) : Statement (.wareSet params) :=
  of_code 19 _ rfl (by decide) (by decide) rfl rfl

theorem conveyorReset (params : List Byte) : Statement (.conveyorReset params) :=
  of_code 20 _ rfl (by decide) (by decide) rfl rfl

theorem sanitizeAck (params : List Byte) : Statement (.sanitizeAck params) :=
  of_code 21 _ rfl (by decide) (by decide) rfl rfl

theorem ruleWrite (params : List Byte) : Statement (.ruleWrite params) :=
  of_code 22 _ rfl (by decide) (by decide) rfl rfl

theorem ruleRead (params : List Byte) : Statement (.ruleRead params) :=
  of_code 23 _ rfl (by decide) (by decide) rfl rfl

theorem groupWrite (params : List Byte) : Statement (.groupWrite params) :=
  of_code 24 _ rfl (by decide) (by decide) rfl rfl

theorem duty (params : List Byte) : Statement (.duty params) :=
  of_code 25 _ rfl (by decide) (by decide) rfl rfl

theorem page (params : List Byte) : Statement (.page params) :=
  of_code 26 _ rfl (by decide) (by decide) rfl rfl

theorem coverageWrite (params : List Byte) : Statement (.coverageWrite params) :=
  of_code 27 _ rfl (by decide) (by decide) rfl rfl

theorem readPeers (params : List Byte) : Statement (.readPeers params) :=
  of_code 28 _ rfl (by decide) (by decide) rfl rfl

theorem readReports (params : List Byte) : Statement (.readReports params) :=
  of_code 29 _ rfl (by decide) (by decide) rfl rfl

theorem freeBank (params : List Byte) : Statement (.freeBank params) :=
  of_code 30 _ rfl (by decide) (by decide) rfl rfl

theorem readAlert (params : List Byte) : Statement (.readAlert params) :=
  of_code 31 _ rfl (by decide) (by decide) rfl rfl

theorem alertMask (params : List Byte) : Statement (.alertMask params) :=
  of_code 32 _ rfl (by decide) (by decide) rfl rfl

theorem clearAlert (params : List Byte) : Statement (.clearAlert params) :=
  of_code 33 _ rfl (by decide) (by decide) rfl rfl

theorem readCounters (params : List Byte) : Statement (.readCounters params) :=
  of_code 34 _ rfl (by decide) (by decide) rfl rfl

theorem withdraw (params : List Byte) : Statement (.withdraw params) :=
  of_code 35 _ rfl (by decide) (by decide) rfl rfl

theorem restart (params : List Byte) : Statement (.restart params) :=
  of_code 36 _ rfl (by decide) (by decide) rfl rfl

theorem unknown (code : Byte) (params : List Byte) :
    Statement (.unknown code params) := of_none rfl

theorem oeInterlockChange (high : Bool) :
    Statement (.oeInterlockChange high) := of_none rfl

theorem entryEdge :
    Statement .entryEdge := of_none rfl

theorem rinseEdge :
    Statement .rinseEdge := of_none rfl

theorem exitEdge :
    Statement .exitEdge := of_none rfl

theorem stepBoundary :
    Statement .stepBoundary := of_none rfl

theorem windowStart :
    Statement .windowStart := of_none rfl

theorem sampleStale (zone : ZoneNo) :
    Statement (.sampleStale zone) := of_none rfl

theorem timedStageEnd (zone : ZoneNo) :
    Statement (.timedStageEnd zone) := of_none rfl

theorem zoneLate (zone : ZoneNo) :
    Statement (.zoneLate zone) := of_none rfl

theorem holdOver (zone : ZoneNo) :
    Statement (.holdOver zone) := of_none rfl

theorem loadPeriodExpiry :
    Statement .loadPeriodExpiry := of_none rfl

theorem peerAgedOut (station : Station) :
    Statement (.peerAgedOut station) := of_none rfl

theorem listenEnd :
    Statement .listenEnd := of_none rfl

theorem loadHeard (sender : Station) (seq : Byte) (q f : Half) (w : Byte) (d l : Half) :
    Statement (.loadHeard sender seq q f w d l) := of_none rfl

theorem leaveHeard (sender : Station) (seq : Byte) :
    Statement (.leaveHeard sender seq) := of_none rfl

theorem courseHeard (sender : Station) (seq : Byte) (course member : Byte) (fire : Bool) (spare : BitVec 5) (plates warm : Option Half) :
    Statement (.courseHeard sender seq course member fire spare plates warm) := of_none rfl

theorem holdHeard (sender : Station) (seq : Byte) (course quanta : Byte) :
    Statement (.holdHeard sender seq course quanta) := of_none rfl

theorem wareHeard (sender : Station) (seq : Byte) (level : Byte) (backlog : Half) (conveyor : Byte) :
    Statement (.wareHeard sender seq level backlog conveyor) := of_none rfl

theorem pageHeard (sender : Station) (seq : Byte) (number attempt group priority code course : Byte) :
    Statement (.pageHeard sender seq number attempt group priority code course) := of_none rfl

theorem answerHeard (sender : Station) (seq : Byte) (origin number attempt : Byte) (pager : Half) (reply : Byte) :
    Statement (.answerHeard sender seq origin number attempt pager reply) := of_none rfl

theorem noticeDiscarded (bytes : List Byte) :
    Statement (.noticeDiscarded bytes) := of_none rfl

theorem lineIdle :
    Statement .lineIdle := of_none rfl

theorem lineBusy :
    Statement .lineBusy := of_none rfl

theorem accessGapExpiry :
    Statement .accessGapExpiry := of_none rfl

theorem collision :
    Statement .collision := of_none rfl

theorem backoffExpiry :
    Statement .backoffExpiry := of_none rfl

theorem noticeCompleted :
    Statement .noticeCompleted := of_none rfl

theorem deferDrop :
    Statement .deferDrop := of_none rfl

theorem serviceClockTick :
    Statement .serviceClockTick := of_none rfl

theorem holdExpiry (course : CourseNo) :
    Statement (.holdExpiry course) := of_none rfl

theorem scheduleEntryFires (entry : Fin 8) :
    Statement (.scheduleEntryFires entry) := of_none rfl

theorem releaseAgeExpiry (course : CourseNo) :
    Statement (.releaseAgeExpiry course) := of_none rfl

theorem clearCall (course : CourseNo) :
    Statement (.clearCall course) := of_none rfl

theorem courseRepeat (course : CourseNo) :
    Statement (.courseRepeat course) := of_none rfl

theorem dwellFault :
    Statement .dwellFault := of_none rfl

theorem wareRepeat :
    Statement .wareRepeat := of_none rfl

theorem washViewAgeOut (station : Station) :
    Statement (.washViewAgeOut station) := of_none rfl

theorem takeEvent :
    Statement .takeEvent := of_none rfl

theorem evaluationEnd :
    Statement .evaluationEnd := of_none rfl

theorem pageTimeout (number : Byte) :
    Statement (.pageTimeout number) := of_none rfl

theorem deferralLimit (number : Byte) :
    Statement (.deferralLimit number) := of_none rfl

theorem done (origin number attempt : Byte) :
    Statement (.done origin number attempt) := of_none rfl

theorem completionTimeout :
    Statement .completionTimeout := of_none rfl

theorem reply (pager : Half) (origin number attempt answer : Byte) :
    Statement (.reply pager origin number attempt answer) := of_none rfl

theorem radioMessageDiscarded (bytes : List Byte) :
    Statement (.radioMessageDiscarded bytes) := of_none rfl

theorem radioByteTimeout :
    Statement .radioByteTimeout := of_none rfl

theorem transmitSent :
    Statement .transmitSent := of_none rfl

end Sys2Proof.Laws.Frames
end

