-- ==== Sys2Proof/Laws/Steady.lean ====
section
/-! SUPPORT. What the operations on zones, runs and course records keep: the step, the link, the clock, the schedule, the tables and
lists of the other blocks. One lemma for each operation. -/

namespace Sys2Proof.Machine

/-! ### Operations that are one record update -/

@[simp] theorem latch_steady (c : Cause) (s : State) : (latch c s).steady = s.steady := by
  rfl

@[simp] theorem bump_steady (k : CounterName) (s : State) : (bump k s).steady = s.steady := by
  rfl

@[simp] theorem raise_steady (e : Event) (s : State) : (raise e s).steady = s.steady := by
  rfl

@[simp] theorem makeReport_steady (b : ReportBody) (s : State) : (makeReport b s).steady = s.steady := by
  rfl

@[simp] theorem mapZone_steady (z : ZoneNo) (f : Zone → Zone) (s : State) : (mapZone z f s).steady = s.steady := by
  rfl

@[simp] theorem mapZones_steady (f : ZoneNo → Zone → Zone) (s : State) : (mapZones f s).steady = s.steady := by
  rfl

@[simp] theorem outputsOff_steady (s : State) : (outputsOff s).steady = s.steady := by
  rfl

@[simp] theorem windowStart_steady (s : State) : (windowStart s).steady = s.steady := by
  rfl

@[simp] theorem setOutputs_steady (s : State) : (setOutputs s).steady = s.steady := by
  rfl

@[simp] theorem reallot_steady (g : Nat) (s : State) : (reallot g s).steady = s.steady := by
  rfl

@[simp] theorem mapRec_steady (c : CourseNo) (f : CourseRec → CourseRec) (s : State) :
    (mapRec c f s).steady = s.steady := by
  rfl

@[simp] theorem followOwn_steady (c : CourseNo) (g : Option (Standing × Nat)) (s : State) :
    (followOwn c g s).steady = s.steady := by
  rfl

@[simp] theorem noteGiven_steady (c : CourseNo) (g : Option (Standing × Nat)) (s : State) :
    (noteGiven c g s).steady = s.steady := by
  rfl

@[simp] theorem raiseClearCall_steady (e : ClearEntry) (s : State) : (raiseClearCall e s).steady = s.steady := by
  rfl

@[simp] theorem storeSample_steady (x : ZoneNo × Int × Option Int) (s : State) :
    (storeSample x s).steady = s.steady := by
  rfl

@[simp] theorem setZone_steady (x : ZoneSettings) (z : ZoneNo) (s : State) : (setZone x z s).steady = s.steady := by
  rfl

@[simp] theorem ageZone_steady (z : ZoneNo) (s : State) : (ageZone z s).steady = s.steady := by
  rfl

@[simp] theorem answerFrame_steady (st : Byte) (d : List Byte) (r : Result) (s : State) :
    (answerFrame st d r s).steady = s.steady := rfl

@[simp] theorem pageNotSent_steady (id : Nat) (s : State) : (pageNotSent id s).steady = s.steady := by
  simp only [State.steady, pageNotSent, List.map_map, Steady.mk.injEq, true_and, and_true]
  apply List.map_congr_left
  intro p _
  simp only [Function.comp]
  split <;> rfl

@[simp] theorem setRun_steady (z : ZoneNo) (r : Run) (s : State) : (setRun z r s).steady = s.steady := by
  have h : (setRun z r s).heat.step = s.heat.step := by
    unfold setRun; dsimp only; split <;> rfl
  simp only [State.steady, h]
  rfl

@[simp] theorem steady_board (b : List CourseRec) (s : State) :
    ({ s with course := { s.course with board := b } } : State).steady = s.steady := rfl

@[simp] theorem steady_clearing (l : List ClearEntry) (s : State) :
    ({ s with course := { s.course with clearing := l } } : State).steady = s.steady := rfl

/-! ### The grant and the heat block -/

@[simp] theorem applyGrant_steady (g : Nat) (s : State) : (applyGrant g s).steady = s.steady := by
  unfold applyGrant
  dsimp only
  split
  · rw [reallot_steady]; rfl
  · rfl

@[simp] theorem lowerGrant_steady (g : Nat) (s : State) : (lowerGrant g s).steady = s.steady := by
  unfold lowerGrant
  repeat' split
  all_goals simp

@[simp] theorem followDemand_steady (s : State) : (followDemand s).steady = s.steady := by
  simp [followDemand]

/-! ### The transmit queue -/

@[simp] theorem seek_link (b : Bus) : b.seek.link = b.link := by
  unfold Bus.seek
  repeat' split
  all_goals rfl
@[simp] theorem seek_lineBusy (b : Bus) : b.seek.lineBusy = b.lineBusy := by
  unfold Bus.seek
  repeat' split
  all_goals rfl
@[simp] theorem seek_startMissed (b : Bus) : b.seek.startMissed = b.startMissed := by
  unfold Bus.seek
  repeat' split
  all_goals rfl
@[simp] theorem seek_repeats (b : Bus) : b.seek.repeats = b.repeats := by
  unfold Bus.seek
  repeat' split
  all_goals rfl
@[simp] theorem wake_link (b : Bus) : b.wake.link = b.link := by
  unfold Bus.wake
  split <;> simp
@[simp] theorem wake_lineBusy (b : Bus) : b.wake.lineBusy = b.lineBusy := by
  unfold Bus.wake
  split <;> simp
@[simp] theorem wake_startMissed (b : Bus) : b.wake.startMissed = b.startMissed := by
  unfold Bus.wake
  split <;> simp
@[simp] theorem wake_repeats (b : Bus) : b.wake.repeats = b.repeats := by
  unfold Bus.wake
  split <;> simp

theorem steady_bus (b : Bus) (s : State)
    (h : b.link = s.bus.link ∧ b.lineBusy = s.bus.lineBusy ∧ b.startMissed = s.bus.startMissed ∧
      b.repeats = s.bus.repeats) :
    ({ s with bus := b } : State).steady = s.steady := by
  simp [State.steady, h]

@[simp] theorem takeNotice_steady (b : Body) (s : State) : (takeNotice b s).steady = s.steady := by
  have h (b' : Bus) (hb : b'.link = s.bus.link ∧ b'.lineBusy = s.bus.lineBusy ∧ b'.startMissed = s.bus.startMissed ∧
        b'.repeats = s.bus.repeats) :
      ({ s with bus := b' } : State).steady = s.steady := steady_bus b' s hb
  unfold takeNotice
  repeat' split
  · exact h _ (by simp [Bus.took])
  · exact h _ (by simp [Bus.took])
  · rw [pageNotSent_steady, bump_steady, h _ (by simp [Bus.took])]
  · simp

@[simp] theorem hand_steady (b : Body) (s : State) : (hand b s).steady = s.steady := by
  unfold hand
  repeat' split
  all_goals simp

/-! ### The conveyor -/

theorem steady_ware (w : Ware) (s : State)
    (h : ({ w with conveyor := .off, margin := false } : Ware) = { s.ware with conveyor := .off, margin := false }) :
    ({ s with ware := w } : State).steady = s.steady := by
  simp [State.steady, h]

@[simp] theorem driveConveyor_steady (s : State) : (driveConveyor s).steady = s.steady := by
  have h (c : Conveyor) : (mapWare (·.move c) s).steady = s.steady := steady_ware _ _ (by simp [Ware.move])
  unfold driveConveyor
  dsimp only
  split
  · rw [raise_steady, h]
  · rw [h]

@[simp] theorem evalConveyor_steady (s : State) : (evalConveyor s).steady = s.steady := by
  unfold evalConveyor
  repeat' split
  all_goals simp

/-! ### Runs -/

@[simp] theorem faultCheck_steady (z : ZoneNo) (s : State) : (faultCheck z s).steady = s.steady := by
  unfold faultCheck
  dsimp only
  repeat' split
  all_goals simp

@[simp] theorem enterStage_steady (k : Nat) (z : ZoneNo) (s : State) : (enterStage k z s).steady = s.steady := by
  simp [enterStage]

@[simp] theorem sampleStage_steady (z : ZoneNo) (s : State) : (sampleStage z s).steady = s.steady := by
  unfold sampleStage
  dsimp only
  repeat' split
  all_goals simp

theorem foldl_steady {α : Type} (f : State → α → State) (h : ∀ s a, (f s a).steady = s.steady) (l : List α) (s : State) :
    (l.foldl f s).steady = s.steady := foldl_keeps State.steady f h l s

@[simp] theorem fireRuns_steady (c : CourseNo) (s : State) : (fireRuns c s).steady = s.steady := by
  unfold fireRuns
  exact foldl_steady _ (fun s z => by split <;> simp) _ _

@[simp] theorem releaseRuns_steady (c : CourseNo) (s : State) : (releaseRuns c s).steady = s.steady := by
  unfold releaseRuns
  exact foldl_steady _ (fun s z => by dsimp only; split <;> simp) _ _

@[simp] theorem runEvent_steady (z : ZoneNo) (r : Run) (zn : Zone) (s : State) :
    (runEvent z r zn s).steady = s.steady := by
  unfold runEvent
  repeat' split
  all_goals simp

@[simp] theorem tickRun_steady (z : ZoneNo) (s : State) : (tickRun z s).steady = s.steady := by
  unfold tickRun
  dsimp only
  repeat' split
  all_goals simp

/-! ### Courses -/

@[simp] theorem removeRec_steady (c : CourseNo) (s : State) : (removeRec c s).steady = s.steady := by
  unfold removeRec
  repeat' split
  all_goals simp

@[simp] theorem handCourse_steady (c : CourseNo) (rel fire : Bool) (s : State) :
    (handCourse c rel fire s).steady = s.steady := by
  unfold handCourse
  repeat' split
  all_goals simp

@[simp] theorem handHold_steady (c : CourseNo) (q : Nat) (s : State) : (handHold c q s).steady = s.steady := by
  simp [handHold]

@[simp] theorem addClearing_steady (e : ClearEntry) (s : State) : (addClearing e s).steady = s.steady := by
  unfold addClearing
  dsimp only
  repeat' split
  all_goals simp

@[simp] theorem releaseRec_steady (r : CourseRec) (st : Station) (l : Bool) (s : State) :
    (releaseRec r st l s).steady = s.steady := by
  unfold releaseRec
  dsimp only
  repeat' split
  all_goals simp

@[simp] theorem releaseCourse_steady (c : CourseNo) (st : Station) (l : Bool) (s : State) :
    (releaseCourse c st l s).steady = s.steady := by
  unfold releaseCourse
  repeat' split
  all_goals simp

@[simp] theorem enterReady_steady (r : CourseRec) (s : State) : (enterReady r s).steady = s.steady := by
  unfold enterReady
  dsimp only
  repeat' split
  all_goals simp

@[simp] theorem evalReady_steady (c : CourseNo) (s : State) : (evalReady c s).steady = s.steady := by
  unfold evalReady
  dsimp only
  repeat' split
  all_goals simp

@[simp] theorem enterHeld_steady (r : CourseRec) (s : State) : (enterHeld r s).steady = s.steady := by
  simp [enterHeld]

@[simp] theorem requestHold_steady (c : CourseNo) (q : Nat) (o : Station) (s : State) :
    (requestHold c q o s).steady = s.steady := by
  unfold requestHold
  dsimp only
  repeat' split
  all_goals simp

@[simp] theorem lateHold_steady (c : CourseNo) (s : State) : (lateHold c s).steady = s.steady := by
  simp [lateHold]

@[simp] theorem takeStanding_steady (c : CourseNo) (g : Option (Standing × Nat)) (s : State) :
    (takeStanding c g s).steady = s.steady := by
  unfold takeStanding
  dsimp only
  repeat' split
  all_goals simp

@[simp] theorem derive_steady (c : CourseNo) (s : State) : (derive c s).steady = s.steady := by
  unfold derive
  dsimp only
  repeat' split
  all_goals simp

@[simp] theorem deriveAll_steady (s : State) : (deriveAll s).steady = s.steady := by
  unfold deriveAll
  exact foldl_steady _ (fun _ _ => derive_steady _ _) _ _

@[simp] theorem addRec_steady (r : CourseRec) (s : State) : (addRec r s).steady = s.steady := by
  unfold addRec
  repeat' split
  all_goals simp

@[simp] theorem createRec_steady (r : CourseRec) (s : State) : (createRec r s).steady = s.steady := by
  unfold createRec
  dsimp only
  repeat' split
  all_goals simp

@[simp] theorem ensureRec_steady (c : CourseNo) (s : State) : (ensureRec c s).steady = s.steady := by
  unfold ensureRec
  repeat' split
  all_goals simp

@[simp] theorem fireOrder_steady (c : CourseNo) (s : State) : (fireOrder c s).steady = s.steady := by
  unfold fireOrder
  dsimp only
  repeat' split
  all_goals simp

@[simp] theorem fireLocal_steady (c : CourseNo) (s : State) : (fireLocal c s).steady = s.steady := by
  simp [fireLocal]

@[simp] theorem fire_steady (c : CourseNo) (s : State) : (fire c s).steady = s.steady := by
  simp [fire]

@[simp] theorem fireScheduled_steady (c : CourseNo) (s : State) : (fireScheduled c s).steady = s.steady := by
  unfold fireScheduled
  repeat' split
  all_goals simp

@[simp] theorem loseMember_steady (st : Station) (c : CourseNo) (s : State) :
    (loseMember st c s).steady = s.steady := by
  unfold loseMember
  dsimp only
  repeat' split
  all_goals simp

@[simp] theorem loseMembers_steady (st : Station) (s : State) : (loseMembers st s).steady = s.steady := by
  unfold loseMembers
  exact foldl_steady _ (fun _ _ => loseMember_steady _ _ _) _ _

@[simp] theorem tickHold_steady (c : CourseNo) (s : State) : (tickHold c s).steady = s.steady := by
  unfold tickHold
  repeat' split
  all_goals simp

@[simp] theorem tickLate_steady (c : CourseNo) (s : State) : (tickLate c s).steady = s.steady := by
  unfold tickLate
  repeat' split
  all_goals simp

@[simp] theorem tickAge_steady (c : CourseNo) (s : State) : (tickAge c s).steady = s.steady := by
  unfold tickAge
  repeat' split
  all_goals simp

@[simp] theorem tickRepeat_steady (c : CourseNo) (s : State) : (tickRepeat c s).steady = s.steady := by
  unfold tickRepeat
  repeat' split
  all_goals simp

/-! ### Commands -/

theorem overZones_steady (zs : List ZoneNo) (f : ZoneNo → State → State) (hf : ∀ z s, (f z s).steady = s.steady)
    (s : State) : (overZones zs f s).steady = s.steady := foldl_steady _ (fun _ _ => hf _ _) _ _

@[simp] theorem sampleRun_steady (z : ZoneNo) (s : State) : (sampleRun z s).steady = s.steady := by
  simp [sampleRun]

@[simp] theorem takeSamples_steady (xs : List (ZoneNo × Int × Option Int)) (s : State) :
    (takeSamples xs s).steady = s.steady := by
  unfold takeSamples
  dsimp only
  rw [evalConveyor_steady, followDemand_steady, deriveAll_steady, overZones_steady _ _ sampleRun_steady,
    foldl_steady _ (fun _ _ => storeSample_steady _ _)]

@[simp] theorem setZones_steady (x : ZoneSettings) (zs : List ZoneNo) (s : State) :
    (setZones x zs s).steady = s.steady := by
  unfold setZones
  rw [followDemand_steady, deriveAll_steady, overZones_steady _ _ faultCheck_steady, overZones_steady _ _ (setZone_steady x)]

@[simp] theorem assignRun_steady (c : CourseNo) (n : Fin 16) (b : Program) (f : Bool) (z : ZoneNo) (s : State) :
    (assignRun c n b f z s).steady = s.steady := by
  unfold assignRun
  dsimp only
  repeat' split
  all_goals simp

@[simp] theorem assign_steady (zs : List ZoneNo) (c : CourseNo) (n : Fin 16) (b : Program) (s : State) :
    (assign zs c n b s).steady = s.steady := by
  unfold assign
  dsimp only
  rw [followDemand_steady, derive_steady, overZones_steady _ _ (assignRun_steady _ _ _ _), ensureRec_steady]

@[simp] theorem abort_steady (zs : List ZoneNo) (s : State) : (abort zs s).steady = s.steady := by
  unfold abort
  dsimp only
  rw [followDemand_steady, foldl_steady _ (fun _ _ => derive_steady _ _), overZones_steady _ _ (fun _ _ => setRun_steady _ _ _)]

@[simp] theorem releaseIfAuto_steady (c : CourseNo) (s : State) : (releaseIfAuto c s).steady = s.steady := by
  unfold releaseIfAuto
  repeat' split
  all_goals simp

@[simp] theorem openCourse_steady (c : CourseNo) (p : List Byte) (s : State) :
    (openCourse c p s).steady = s.steady := by
  unfold openCourse
  dsimp only
  repeat' split
  all_goals simp

@[simp] theorem holdCourse_steady (c : CourseNo) (q : Nat) (s : State) : (holdCourse c q s).steady = s.steady := by
  simp [holdCourse]

@[simp] theorem ageZones_steady (s : State) : (ageZones s).steady = s.steady := by
  unfold ageZones
  rw [foldl_steady _ (fun _ _ => faultCheck_steady _ _), foldl_steady _ (fun _ _ => ageZone_steady _ _)]

@[simp] theorem zonesChanged_steady (s : State) : (zonesChanged s).steady = s.steady := by
  simp [zonesChanged]

@[simp] theorem runTick_steady (z : ZoneNo) (s : State) : (runTick z s).steady = s.steady := by
  simp [runTick]

@[simp] theorem takePlates_steady (x : CourseSaid) (s : State) : (takePlates x s).steady = s.steady := by
  unfold takePlates
  repeat' split
  all_goals simp

@[simp] theorem takeMember_steady (x : CourseSaid) (s : State) : (takeMember x s).steady = s.steady := by
  unfold takeMember
  repeat' split
  all_goals simp

@[simp] theorem takeFire_steady (x : CourseSaid) (s : State) : (takeFire x s).steady = s.steady := by
  unfold takeFire
  repeat' split
  all_goals simp

@[simp] theorem reRelease_steady (x : CourseSaid) (s : State) : (reRelease x s).steady = s.steady := by
  unfold reRelease
  repeat' split
  all_goals simp

@[simp] theorem takeStandingHeard_steady (x : CourseSaid) (s : State) :
    (takeStandingHeard x s).steady = s.steady := by
  simp [takeStandingHeard]

@[simp] theorem takeCourse_steady (x : CourseSaid) (s : State) : (takeCourse x s).steady = s.steady := by
  unfold takeCourse
  repeat' split
  all_goals simp

@[simp] theorem takeCourseNotice_steady (st : Station) (c m : Byte) (f : Bool) (p w : Option Half) (s : State) :
    (takeCourseNotice st c m f p w s).steady = s.steady := by
  unfold takeCourseNotice
  repeat' split
  all_goals simp

@[simp] theorem takeHoldNotice_steady (st : Station) (c q : Byte) (s : State) :
    (takeHoldNotice st c q s).steady = s.steady := by
  unfold takeHoldNotice
  repeat' split
  all_goals simp

end Sys2Proof.Machine
end

