-- ==== Sys2Proof/Tests/Slice0.lean ====
section
/-! SUPPORT. The tests: the ill-formed terms that WellFormed refuses, words written out from the spec's formats, one step at a time
against the spec's worked sequences and rules, and, for each statement with hypotheses, a state and operands that meet them. The
source of each expected value stands in the test's comment. -/

namespace Sys2Proof.Tests

open Sys2Proof Sys2Proof.Machine

set_option Elab.async false

/-! ### Helpers -/

/-- The state after a command. -/
def after (c : Instr) (s : State) : State :=
  match exec c s with
  | .next t => t
  | _ => s

/-- The last result after a command. -/
def resultOf (c : Instr) (s : State) : Result := (after c s).port.lastResult

/-- A station just out of reset with every role. -/
def fresh (n : Station) : State := State.resetWith { number := n, pass := true, radio := true, conveyor := true } true

/-- A configured station with every role, in a link state: L 420, M 20, weight 4, ramp 15, S 60, and the ware settings of 6.7. -/
def up (n : Station) (l : LinkState) : State :=
  let s := fresh n
  { s with
    load := { s.load with limit := 420, reserve := 20, weight := 4, ramp := 15, solo := 60 }
    course := { s.course with lateQuanta := 30 }
    ware := { s.ware with washZone := 4, rinseZone := 5, sanMin := 82, washMin := 65, maxDwell := 240, high := 20, low := 12 }
    bus := { s.bus with link := l }
    port := { s.port with configured := true } }

/-- The station with one zone as given. -/
def withZone (z : ZoneNo) (zn : Zone) (s : State) : State :=
  { s with heat := { s.heat with zones := s.heat.zones.set z zn } }

/-- The station with one run as given. -/
def withRun (z : ZoneNo) (r : Run) (s : State) : State :=
  { s with prog := { s.prog with runs := s.prog.runs.set z r } }

/-- A fresh zone of a rating, band and floor at a temperature. -/
def zoneAt (rating band floor : Nat) (temp : Int) : Zone :=
  { Zone.reset with rating := rating, band := band, limit := 250, floor := floor, temp := some temp, age := 0 }

/-- A program of one HOLD stage. -/
def holdProgram (set : Int) : Program :=
  { stages := [{ kind := .hold, setpoint := set, param := 0 }], heatLimit := 600, holdLimit := 1200, plate := false }

/-- A program that heats, cooks for a time and holds. -/
def cookProgram (set : Int) (time : Int) : Program :=
  { stages := [{ kind := .heat, setpoint := set, param := 0 }, { kind := .timed, setpoint := set, param := time },
      { kind := .hold, setpoint := set, param := 0 }],
    heatLimit := 600, holdLimit := 1200, plate := false }

/-- A run on a course. -/
def runOn (st : RunState) (c : CourseNo) (p : Program) (stage : Nat) : Run :=
  { state := st, program := some 0, course := c, stage := stage, elapsed := 0, late := false, holdElapsed := 0,
    holdOver := false, body := p }

/-- A course record in a state. -/
def recIn (c : CourseNo) (st : CourseState) : CourseRec :=
  { course := c, state := st, plates := 0, auto := false, clearDelay := 0, hold := 0, origin := none, releaseTime := none,
    releaseAge := 0, readyRaised := false, repeatCount := 0, releaseOrder := none, members := [] }

def withBoard (l : List CourseRec) (s : State) : State := { s with course := { s.course with board := l } }

def withQueue (q : List TxEntry) (a : Access) (s : State) : State :=
  { s with bus := { s.bus with queue := q, access := a, nextId := 100 } }

def entry (id : Nat) (b : Body) : TxEntry :=
  { id := id, notice := { sender := 9, seq := 0, body := b }, attempts := 0, waitMs := 0, onLine := false, orphan := false }

def pageIn (n : Nat) (g : GroupNo) (pr : Nat) (st : PageState) (timer : Nat) : Page :=
  { number := n, attempt := 0, group := g, priority := pr, code := n, course := 0, defer := false, expiredOrigin := false,
    state := st, timer := timer, current := none }

def withPages (l : List Page) (s : State) : State := { s with page := { s.page with pages := l } }

def withPeers (l : List Peer) (s : State) : State := { s with load := { s.load with peers := l } }

def peer (st : Station) (q f w : Nat) : Peer :=
  { station := st, q := q, f := f, w := w, d := 0, l := 420, missed := 0, heard := false, grant := 0 }

def withRacks (l : List Rack) (next : Nat) (s : State) : State :=
  { s with ware := { s.ware with racks := l, nextSeq := next } }

/-! ### Well-formed terms -/

/-- R167, R190: code 3 is SET CLOCK, so no frame is UNKNOWN with it. -/
theorem test_wellFormed_unknown : (Instr.unknown 3 []).wellFormed = false := by decide
theorem test_wellFormed_unknown_code : (Instr.unknown 37 []).wellFormed = true := by decide
/-- R85: courses are 1 to 15. -/
theorem test_wellFormed_hold_expiry : (Instr.holdExpiry 0).wellFormed = false := by decide
theorem test_wellFormed_release_age : (Instr.releaseAgeExpiry 0).wellFormed = false := by decide
theorem test_wellFormed_clear_call : (Instr.clearCall 0).wellFormed = false := by decide
theorem test_wellFormed_course_repeat : (Instr.courseRepeat 0).wellFormed = false := by decide
/-- R40: peers are 1 to 31. -/
theorem test_wellFormed_peer : (Instr.peerAgedOut 0).wellFormed = false := by decide
theorem test_wellFormed_wash : (Instr.washViewAgeOut 0).wellFormed = false := by decide
/-- R142: pages are 1 to 255. -/
theorem test_wellFormed_page : (Instr.pageTimeout 0).wellFormed = false := by decide
theorem test_wellFormed_deferral : (Instr.deferralLimit 0).wellFormed = false := by decide

/-! ### Words of the formats -/

/-- R189: the check of a notice. The CRC's published check value, over the digits 1 to 9 in ASCII, is AEE7H. -/
theorem test_crc : crc16 [0x31, 0x32, 0x33, 0x34, 0x35, 0x36, 0x37, 0x38, 0x39] = 0xaee7 := by decide +kernel

/-- R189: LEAVE from station 12 with sequence 7 is kind 1, 12, 7 and the two check bytes. -/
theorem test_leave_bytes :
    (Notice.bytes { sender := 12, seq := 7, body := .leave }).take 3 = [1, 12, 7] ∧
      (Notice.bytes { sender := 12, seq := 7, body := .leave }).length = 5 := by decide +kernel

/-- R189: LOAD of 3.9 (Q 180, F 0, W 4, D 116, L 420) has kind 7 and most significant bytes first. -/
theorem test_load_bytes :
    (Notice.bytes { sender := 3, seq := 1, body := .load 180 0 4 116 420 }).take 12 =
      [7, 3, 1, 0, 180, 0, 0, 4, 0, 116, 1, 164] := by decide +kernel

/-- R189: a COURSE with the fire flag and plates needed of 300 (5.11): flags 3, plates 1, 44. -/
theorem test_course_bytes :
    (Notice.bytes { sender := 20, seq := 0, body := .course 3 7 true 0 (some 300) none }).take 8 = [5, 20, 0, 3, 7, 3, 1, 44] := by
  decide +kernel

/-- R75, R189: the receiver reads those bytes back. -/
theorem test_course_received :
    receive (Notice.bytes { sender := 20, seq := 0, body := .course 3 7 true 0 (some 300) none }) =
      .good { sender := 20, seq := 0, body := .course 3 7 true 0 (some 300) none } := by decide +kernel

/-- R75: one wrong check bit fails. -/
theorem test_bad_check : receive [1, 12, 7, 0, 0] = .badCheck := by decide +kernel

/-- R190: code 12 is SCHEDULE: course 3 at 20:05:00, which is 72,300 s, 1, 26, 108. -/
theorem test_schedule_frame : decodeFrame [12, 3, 1, 26, 108] = some (.schedule [3, 1, 26, 108]) := by decide
/-- R190: code 36 is RESTART; codes 0 and 37 are UNKNOWN. -/
theorem test_restart_frame : decodeFrame [36] = some (.restart []) := by decide
theorem test_unknown_frame : decodeFrame [37, 1] = some (.unknown 37 [1]) ∧ decodeFrame [0] = some (.unknown 0 []) := by decide

/-- R191: TRANSMIT of page 53 of station 9 (9.6: group 20, priority 7, code 13): sync 165, kind 1, the fields, and the check
that makes the sum 0: 1 + 20 + 7 + 13 + 0 + 9 + 53 + 0 = 103, so 153. -/
theorem test_transmit_bytes :
    transmitBytes { key := { origin := 9, number := 53, attempt := 0 }, group := 20, priority := 7, code := 13, course := 0,
                    inFlight := true } = [165, 1, 20, 7, 13, 0, 9, 53, 0, 153] := by decide +kernel

/-- R191: REPLY of pager 40 to it, ACCEPT: 3 + 0 + 40 + 9 + 53 + 0 + 0 = 105, so 151. -/
theorem test_reply_bytes : receiveRadio [3, 0, 40, 9, 53, 0, 0, 151] = .reply 40 9 53 0 0 := by decide +kernel

/-! ### Reset and the machine -/

/-- R61: after reset and CONFIGURE an ordinary station listens; R39: L 420, M 20, S 60. -/
theorem test_configure :
    let t := after (.configure [1, 164, 0, 20, 4, 15, 0, 60, 0, 30, 4, 5, 82, 65, 0, 240, 0, 20, 0, 12]) (fresh 9)
    t.bus.link = .listen ∧ t.load.usable = 400 ∧ t.port.lastResult = .ok := by decide +kernel

/-- R39: M is clamped to floor(L / 4), and S to L − M. -/
theorem test_configure_clamps :
    let t := after (.configure [0, 100, 0, 90, 0, 0, 1, 0, 0, 0, 9, 9, 0, 0, 0, 0, 0, 5, 0, 9]) (fresh 9)
    t.load.reserve = 25 ∧ t.load.solo = 75 ∧ t.load.weight = 1 ∧ t.ware.washZone = 7 ∧ t.ware.low = 4 := by decide +kernel

/-- R173: nothing but its release is taken while reset holds. -/
theorem test_reset_holds : after .entryEdge (after .resetAsserted (up 9 .joined)) = after .resetAsserted (up 9 .joined) := by
  decide +kernel

/-- R60: station number 0 is in MONITOR after reset. -/
theorem test_monitor :
    (after (.resetReleased { number := 0, pass := true, radio := false, conveyor := false }) (up 9 .joined)).bus.link =
      .monitor := by decide +kernel

/-- The queue is first in, first out. -/
theorem test_step_front :
    step { (up 9 .joined) with pending := [.lineBusy, .lineIdle] } =
      exec .lineBusy { (up 9 .joined) with pending := [.lineIdle] } := rfl

/-- R190: the status byte of a JOINED station after REFUSED_STATE is 4 in bits 6 to 4 and 1 in bits 3 to 0. -/
theorem test_status_byte :
    (State.statusByte { (up 9 .joined) with port := { (up 9 .joined).port with lastResult := .refusedState } }) = 0x41 := by
  decide +kernel

/-! ### Heat (1.7) -/

/-- Station 3 of 1.7 with its three zones HEATING. -/
def oven : State :=
  let hot (t : Int) : Program := { cookProgram t 60 with heatLimit := 600 }
  withRun 0 (runOn .heating 3 (hot 230) 0) <| withRun 1 (runOn .heating 3 (hot 230) 0) <|
    withRun 2 (runOn .heating 3 (hot 180) 0) <|
    withZone 0 (zoneAt 80 20 0 190) <| withZone 1 (zoneAt 80 20 0 210) <| withZone 2 (zoneAt 40 10 0 175) (up 3 .joined)

/-- 1.7, first table: Q = 180, and under A = 116 the allotments are 52, 52 and 12. -/
theorem test_allotments :
    oven.declaredQ = 180 ∧ oven.allotments 116 = [52, 52, 12, 0, 0, 0, 0, 0] := by decide +kernel

/-- 1.7: the plans are steps 0–12, 2–14 and 4–9, and the declared draw is 116. -/
theorem test_window_start :
    let t := after .windowStart { oven with heat := { oven.heat with step := 19 }, load := { oven.load with applied := 116 } }
    t.heat.zones[1].plan = [2, 3, 4, 5, 6, 7, 8, 9, 10, 11, 12, 13, 14] ∧ t.heat.zones[2].plan = [4, 5, 6, 7, 8, 9] ∧
      t.heat.draw = 116 ∧ t.heat.step = 0 := by decide +kernel

/-- 1.7: a lower grant of 90 in step 7 re-allots: zone 2 keeps steps 4 to 8, and the draw is 90. -/
theorem test_reallot :
    let t := windowStart { oven with load := { oven.load with applied := 116 } }
    let u := applyGrant 90 { t with heat := { t.heat with step := 7 } }
    u.heat.zones[2].plan = [4, 5, 6, 7, 8] ∧ u.heat.zones[1].plan.length = 10 ∧ u.heat.draw = 90 := by decide +kernel

/-- 1.7: at the boundary that starts step 9 zone 1 goes stale; its run faults, and its plan is cut to steps 2 to 9. -/
theorem test_sample_stale :
    let t := windowStart { oven with load := { oven.load with applied := 116 } }
    let u := after .stepBoundary
      (withZone 1 { t.heat.zones[1] with age := 5, on := true } { t with heat := { t.heat with step := 8 } })
    u.prog.runs[1].state = .fault ∧ u.heat.zones[1].plan = [2, 3, 4, 5, 6, 7, 8, 9] ∧ u.heat.zones[1].on = false := by
  decide +kernel

/-- R5: the stale moment of one zone, its age standing at 5. -/
theorem test_sample_stale_moment :
    let t := after (.sampleStale 1) (withZone 1 { zoneAt 80 20 0 210 with age := 5 } oven)
    t.prog.runs[1].state = .fault ∧ t.prog.runs[0].state = .heating ∧ t.route.events.length = 1 := by decide +kernel

/-- R16, R20: an output follows its plan at the boundary, and no output is on with OE low. -/
theorem test_step_boundary :
    let t := after .stepBoundary
      { (windowStart { oven with load := { oven.load with applied := 116 } }) with oe := true }
    t.heat.step = 1 ∧ t.heat.zones[0].on = true ∧ t.heat.zones[1].on = false ∧
      (after (.oeInterlockChange false) t).heat.zones[0].on = false := by decide +kernel

/-- R1: ZONE SET of zone 2: P 40, B 10, limit 250 (0, 250), floor 50 clamped to P, probe fitted. -/
theorem test_zone_set :
    (after (.zoneSet [4, 40, 10, 0, 250, 50, 1]) (up 3 .joined)).heat.zones[2].settings =
      { rating := 40, band := 10, limit := 250, floor := 40, probeFitted := true } := by decide +kernel

/-- R2: a rating of 0 over a HEATING zone is REFUSED_STATE. -/
theorem test_zone_set_refused : resultOf (.zoneSet [1, 0, 10, 0, 250, 0, 0]) oven = .refusedState := by decide +kernel

/-- R4: a sample of 500 (1, 244) is clamped to 400, which is over the limit of 250, and the run faults (R7). -/
theorem test_sample_over :
    let t := after (.sample [1, 1, 244]) oven
    t.heat.zones[0].temp = some 400 ∧ t.heat.zones[0].isOver = true ∧ t.prog.runs[0].state = .fault := by decide +kernel

/-- R3: ZONE READ of zone 0 gives one entry. -/
theorem test_zone_read : ((after (.zoneRead [1, 0, 0]) oven).port.dataOut.drop 2).take 1 = [1] := by decide +kernel

/-! ### Programs and runs -/

/-- R23: PROGRAM WRITE of one HOLD stage at 75 into entry 3, its heat limit raised to 30 and its hold limit to 60. -/
theorem test_program_write :
    (after (.programWrite [3, 1, 0, 5, 0, 5, 1, 3, 0, 75, 0, 9]) (up 3 .joined)).prog.table[(3 : Fin 16)] =
      some { stages := [{ kind := .hold, setpoint := 75, param := 0 }], heatLimit := 30, holdLimit := 60, plate := true } := by
  decide +kernel

/-- R22: a program whose last stage is not HOLD is INVALID. -/
theorem test_program_write_invalid :
    resultOf (.programWrite [3, 1, 0, 5, 0, 5, 1, 0, 0, 75, 0, 0]) (up 3 .joined) = .invalid := by decide +kernel

/-- R22: an empty entry reads a stage count of 0. -/
theorem test_program_read : (after (.programRead [15, 0, 0]) (up 3 .joined)).port.dataOut.drop 2 = [0] := by decide +kernel

/-- A station with program 0 and a zone 0 of 80 LU. -/
def ready0 : State :=
  let s := withZone 0 (zoneAt 80 20 0 190) (up 3 .joined)
  { s with prog := { s.prog with table := s.prog.table.set 0 (some (cookProgram 230 60)) } }

/-- R27: ASSIGN arms the zone for course 3, whose record is made; an empty entry is INVALID. -/
theorem test_assign :
    let t := after (.assign [1, 3, 0]) ready0
    t.prog.runs[0].state = .armed ∧ t.prog.runs[0].course = 3 ∧ t.course.board.map (·.course) = [3] ∧
      resultOf (.assign [1, 3, 1]) ready0 = .invalid := by decide +kernel

/-- R28, R94: FIRE moves the run into its HEAT stage and the record to FIRED. -/
theorem test_fire :
    let t := after (.fire [3]) (after (.assign [1, 3, 0]) ready0)
    t.prog.runs[0].state = .heating ∧ (t.recOf 3).map (·.state) = some .fired := by decide +kernel

/-- R35: ABORT makes the run IDLE. -/
theorem test_abort : (after (.abort [1]) oven).prog.runs[0] = Run.idle := by decide +kernel

/-- R30: the tick that ends a TIMED stage of 60 s at elapsed 59 enters the HOLD stage. -/
theorem test_timed_stage_end :
    (after (.timedStageEnd 0) (withRun 0 { runOn .cooking 3 (cookProgram 230 60) 1 with elapsed := 59 } oven)).prog.runs[0].state =
      .holding := by decide +kernel

/-- R32: a run past its heat limit of 600 s is late, with ZONE_LATE raised. -/
theorem test_zone_late :
    let t := after (.zoneLate 0) (withRun 0 { runOn .heating 3 (cookProgram 230 60) 0 with elapsed := 600 } oven)
    t.prog.runs[0].late = true ∧ t.prog.runs[0].elapsed = 601 ∧ t.route.events.map (·.kind) = [.zoneLate] := by decide +kernel

/-- R33: 7.7's HOLD_OVER carries the value 1,201 at a hold limit of 1,200. -/
theorem test_hold_over :
    let t := after (.holdOver 0) (withRun 0 { runOn .holding 3 (cookProgram 230 60) 2 with holdElapsed := 1200 } oven)
    t.prog.runs[0].holdOver = true ∧ t.route.events.map (·.value) = [1201] := by decide +kernel

/-- R38: PLATES is clamped to 4,000. -/
theorem test_plates : (after (.plates [3, 255, 255]) oven).prog.plates[(3 : Fin 16)] = 4000 := by decide +kernel

/-! ### Load sharing (3.9) -/

def rows4 (a b c d : Nat × Nat × Nat) : List LiveRow :=
  [{ station := 3, q := a.1, f := a.2.1, w := a.2.2 }, { station := 5, q := b.1, f := b.2.1, w := b.2.2 },
    { station := 9, q := c.1, f := c.2.1, w := c.2.2 }, { station := 12, q := d.1, f := d.2.1, w := d.2.2 }]

/-- 3.9, a grant across four stations. -/
theorem test_grants :
    liveGrants 400 (rows4 (180, 0, 4) (150, 0, 4) (160, 90, 2) (20, 0, 1)) = [116, 116, 148, 20] := by decide +kernel

/-- 3.9, floors that exceed the usable limit, and units left unspent by the sweep. -/
theorem test_grants_floors :
    liveGrants 400 (rows4 (200, 150, 4) (180, 150, 4) (160, 130, 2) (20, 0, 1)) = [140, 140, 120, 0] ∧
      liveGrants 100 [⟨2, 90, 0, 1⟩, ⟨4, 20, 0, 1⟩, ⟨7, 12, 0, 15⟩] = [45, 20, 12] := by decide +kernel

/-- 3.9, a peer lost by aging: at the third period missed station 12 goes. -/
theorem test_load_period_expiry :
    let t := after .loadPeriodExpiry
      (withPeers [{ peer 5 150 0 4 with heard := true }, { peer 12 20 0 1 with missed := 2 }] (up 3 .joined))
    t.load.peers.map (fun p => (p.station, p.missed)) = [(5, 0)] ∧ t.bus.link = .joined ∧ t.bus.queue.length = 1 := by
  decide +kernel

/-- 3.9, joining: the third expiry of LISTEN ends the listen interval. -/
theorem test_listen_end :
    (after .listenEnd
      (withPeers [peer 5 150 0 4] { (up 9 .listen) with load := { (up 9 .listen).load with listenCount := 2 } })).bus.link =
        .joined := by decide +kernel

/-- R46: PEER_AGED_OUT of the last peer leaves the station ALONE. -/
theorem test_peer_aged_out :
    (after (.peerAgedOut 12) (withPeers [{ peer 12 20 0 1 with missed := 2 }] (up 3 .joined))).bus.link = .alone := by
  decide +kernel

/-- R41: a LOAD heard makes an entry; R62: ALONE becomes JOINED. -/
theorem test_load_heard :
    let t := after (.loadHeard 5 1 150 0 4 0 420) (up 3 .alone)
    t.load.peers.map (fun p => (p.station, p.q, p.heard)) = [(5, 150, true)] ∧ t.bus.link = .joined := by decide +kernel

/-- R42: a LOAD with the own number latches NUMBER_CLASH and is not stored. -/
theorem test_load_clash :
    let t := after (.loadHeard 3 1 150 0 4 0 420) (up 3 .joined)
    t.load.peers = [] ∧ t.isPending .numberClash = true := by decide +kernel

/-- R44: a LEAVE heard removes the sender at once. -/
theorem test_leave_heard :
    (after (.leaveHeard 12 1) (withPeers [peer 5 150 0 4, peer 12 20 0 1] (up 3 .joined))).load.peers.map (·.station) = [5] := by
  decide +kernel

/-- R53: READ PEERS of 3.9's station 3: the link code 3 (JOINED) after the own number. -/
theorem test_read_peers : ((after (.readPeers (List.replicate 4 0)) (up 3 .joined)).port.dataOut.drop 1).take 4 = [3, 3, 1, 144] := by
  decide +kernel

/-! ### The Passbus (4.8) -/

/-- 4.8's queue, with entries 1 to 12; the LOAD is on the line. -/
def crowded : State :=
  let c (n : Byte) : Body := .course n 4 false 0 none none
  let p (n : Byte) : Body := .page n 0 20 4 14 0
  withQueue
    ([{ entry 1 (.load 160 90 2 0 420) with onLine := true }, entry 2 (.ware 0 5 2), entry 3 (c 2), entry 4 (p 14), entry 5 (c 3),
      entry 6 (p 15), entry 7 (.hold 3 30), entry 8 (p 16), entry 9 (c 4), entry 10 (.answer 6 1 0 40 0), entry 11 (p 17),
      entry 12 (p 18)]) .sending (up 9 .joined)

/-- 4.8, 1: a new COURSE 3 takes entry 5's place; no count changes. -/
theorem test_supersede :
    let t := hand (.course 3 3 false 0 none none) crowded
    (t.bus.queue[4]?.map (·.body)) = some (.course 3 3 false 0 none none) ∧ t.bus.queue.length = 12 ∧
      (t.counter .txqDrop).value = 0 := by decide +kernel

/-- 4.8, 2 to 4: PAGE 19 displaces WARE, PAGE 20 is refused, HOLD 4 displaces PAGE 19. -/
theorem test_displace :
    let t2 := hand (.page 19 0 20 4 14 0) crowded
    let t3 := hand (.page 20 0 20 4 14 0) t2
    let t4 := hand (.hold 4 30) t3
    (t4.bus.queue.map (·.id)) = [1, 3, 4, 5, 6, 7, 8, 9, 10, 11, 12, 101] ∧ (t4.counter .txqDrop).value = 3 := by decide +kernel

/-- 4.8, 5: the LOAD completes, and the head is then HOLD 3 with a class gap of 48 µs. -/
theorem test_notice_completed :
    let t := after .noticeCompleted crowded
    t.bus.queue.length = 11 ∧ (t.counter .noticesSent).value = 1 ∧ (headOf t.bus.queue).map (·.id) = some 7 ∧
      (t.bus.access = .gap ∨ t.bus.access = .deferred) := by decide +kernel

/-- 4.8, station 12 withdraws with a COURSE on the line: the waiting notices go, LEAVE is queued, the link is LEAVING. -/
theorem test_withdraw :
    let t := after (.withdraw [])
      (withQueue [{ entry 1 (.course 2 4 false 0 none none) with onLine := true }, entry 2 (.load 0 0 1 0 420)] .sending (up 12 .joined))
    t.bus.link = .leaving ∧ t.bus.queue.map (·.body) = [.course 2 4 false 0 none none, .leave] := by decide +kernel

/-- 4.8: LEAVE completed, the station is LEFT with WITHDRAW_DONE latched. -/
theorem test_left :
    let t := after .noticeCompleted (withQueue [{ entry 1 .leave with onLine := true }] .sending (up 12 .leaving))
    t.bus.link = .left ∧ t.bus.queue = [] ∧ t.isPending .withdrawDone = true := by decide +kernel

/-- 4.8: RESTART takes it from LEFT to LISTEN with its configuration. -/
theorem test_restart :
    let t := after (.restart []) (up 12 .left)
    t.bus.link = .listen ∧ t.load.limit = 420 ∧ t.port.configured = true := by decide +kernel

/-- R59, R71: with the line idle in DEFERRED the machine opens a gap; a busy line defers it. -/
theorem test_line :
    let t := after .lineIdle (withQueue [entry 1 (.hold 3 30)] .deferred (up 9 .joined))
    t.bus.access = .gap ∧ (after .lineBusy t).bus.access = .deferred := by decide +kernel

/-- R71: the gap over, the head is in transmission. -/
theorem test_access_gap_expiry :
    let t := after .accessGapExpiry (withQueue [entry 1 (.load 0 0 1 0 420), entry 2 (.hold 3 30)] .gap (up 9 .joined))
    t.bus.access = .sending ∧ (onLineOf t.bus.queue).map (·.id) = some 2 := by decide +kernel

/-- R72: a collision counts an attempt and backs off; the eighth drops the notice. -/
theorem test_collision :
    let e := { entry 1 (.hold 3 30) with onLine := true }
    (after .collision (withQueue [e] .sending (up 9 .joined))).bus.queue.map (·.attempts) = [1] ∧
      (after .collision (withQueue [{ e with attempts := 7 }] .sending (up 9 .joined))).bus.queue = [] := by decide +kernel

/-- R72: the backoff over, the line busy, the machine is in DEFERRED. -/
theorem test_backoff_expiry :
    let s := withQueue [entry 1 (.hold 3 30)] .backoff (up 9 .joined)
    (after .backoffExpiry { s with bus := { s.bus with lineBusy := true } }).bus.access = .deferred := by decide +kernel

/-- R74: the head is dropped and DEFER_DROP counts. -/
theorem test_defer_drop :
    let t := after .deferDrop (withQueue [{ entry 1 (.hold 3 30) with waitMs := 499 }] .deferred (up 9 .joined))
    t.bus.queue = [] ∧ (t.counter .deferDrop).value = 1 := by decide +kernel

/-- 4.8, a late collision: the second copy of station 5's HOLD, sequence 41, has no effect. -/
theorem test_repeat :
    let s := withBoard [recIn 3 .fired] (up 3 .joined)
    let t := after (.holdHeard 5 41 3 10) s
    after (.holdHeard 5 41 3 10) t = t ∧ (t.counter .noticesHeard).value = 1 := by decide +kernel

/-- R75: 33 bytes count TRUNCATED, and a failed check BAD_CHECK. -/
theorem test_notice_discarded :
    ((after (.noticeDiscarded (List.replicate 33 0)) (up 3 .joined)).counter .truncated).value = 1 ∧
      ((after (.noticeDiscarded [1, 12, 7, 0, 0]) (up 3 .joined)).counter .badCheck).value = 1 := by decide +kernel

/-- R75: a notice whose start mark came while the receiver was off is not taken, though RESTART has put it on; the next one is. -/
theorem test_start_missed :
    let s := after (.restart []) (after .lineBusy (up 12 .left))
    let t := after .lineBusy (after .lineIdle s)
    after (.holdHeard 5 41 3 10) s = s ∧ after (.noticeDiscarded [1, 12, 7, 0, 0]) s = s ∧
      ((after (.holdHeard 5 41 3 10) t).counter .noticesHeard).value = 1 := by decide +kernel

/-! ### Courses (5.11) -/

/-- 5.11: OPEN COURSE for course 3 with plates needed 300 and clear delay 10. -/
theorem test_open_course :
    let t := after (.openCourse [3, 1, 44, 0, 10]) (up 20 .joined)
    t.course.board.map (fun r => (r.course, r.state, r.plates, r.clearDelay)) = [(3, .opened, 300, 10)] ∧
      t.bus.queue.map (·.body) = [.course 3 7 false 0 (some 300) none] := by decide +kernel

/-- 5.11: SCHEDULE, and the entry fires at its tick. -/
theorem test_schedule :
    let t := after (.schedule [3, 1, 26, 108]) (withBoard [recIn 3 .opened] (up 20 .joined))
    let u := after (.scheduleEntryFires 0) { t with course := { t.course with clock := 72299 } }
    t.course.schedule = [{ course := 3, time := 72300 }] ∧ u.course.schedule = [] ∧ u.course.board.map (·.state) = [.fired] := by
  decide +kernel

/-- 5.11, the schedule across a change of clock: 19:10:00 spends courses 1 and 2, and leaves course 4. -/
theorem test_set_clock :
    let s := up 20 .joined
    let t := after (.setClock [1, 13, 136])
      { s with course := { s.course with clock := 68390, schedule := [⟨1, 68400⟩, ⟨2, 68400⟩, ⟨4, 70200⟩] } }
    t.course.clock = 69000 ∧ t.course.schedule = [⟨4, 70200⟩] ∧ t.course.board.map (·.course) = [1, 2] := by decide +kernel

/-- A READY course with stations 3, 5 and 12, at station 20. -/
def served : State :=
  let m (st : Station) : Member := { station := st, standing := .ready, warm := 100, fireSeen := true }
  withPeers [peer 3 0 0 1, peer 5 0 0 1, peer 12 0 0 1]
    (withBoard [{ recIn 3 .ready with members := [m 3, m 5, m 12], clearDelay := 10, readyRaised := true }] (up 20 .joined))

/-- 5.11: RELEASE without FORCE: RELEASED at the clock, an entry of 600 s, the report and the RELEASE notice. -/
theorem test_release :
    let t := after (.release [3, 0]) { served with course := { served.course with clock := 72000 } }
    t.course.board.map (fun r => (r.state, r.releaseTime)) = [(.released, some 72000)] ∧
      t.course.clearing = [{ course := 3, remaining := 600, delay := 10 }] ∧
      t.bus.queue.map (·.body) = [.course 3 8 false 0 (some 0) none] ∧ t.port.lastResult = .ok := by decide +kernel

/-- 5.11, hold and release: a HOLD of 10 quanta heard makes 40 s, and RELEASE is then NOT_READY. -/
theorem test_hold_heard :
    let t := after (.holdHeard 3 1 3 10) served
    t.course.board.map (fun r => (r.state, r.hold, r.origin)) = [(.held, 40, some 3)] ∧ resultOf (.release [3, 0]) t = .notReady := by
  decide +kernel

/-- R96: HOLD of 30 quanta, 120 s; 256 quanta are INVALID. -/
theorem test_hold :
    (after (.hold [3, 0, 30]) served).course.board.map (·.hold) = [120] ∧ resultOf (.hold [3, 1, 0]) served = .invalid := by
  decide +kernel

/-- 5.11: the hold reaches 0 and the course enters READY. -/
theorem test_hold_expiry :
    let r : CourseRec := { recIn 3 .held with hold := 1, origin := some 5,
                                              members := [{ station := 5, standing := .ready, warm := 0, fireSeen := true }] }
    let t := after (.holdExpiry 3) (withBoard [r] (up 20 .joined))
    t.course.board.map (fun r => (r.state, r.hold)) = [(.ready, 0)] ∧ t.isPending .courseReady = true := by decide +kernel

/-- 5.11: a COURSE with the fire flag from the pass fires the record; a LATE member's entry follows. -/
theorem test_course_heard :
    let s := withPeers [peer 5 0 0 1, peer 20 0 0 1] (withBoard [recIn 3 .opened] (up 3 .joined))
    let t := after (.courseHeard 20 1 3 7 true 0 (some 300) none) s
    let u := after (.courseHeard 5 1 3 3 false 0 none (some 0)) t
    t.course.board.map (fun r => (r.state, r.plates)) = [(.fired, 300)] ∧
      u.course.board.map (fun r => r.members.map fun m => (m.station, m.standing)) = [[(5, .late)]] := by decide +kernel

/-- 5.11, a member lost: MEMBER_LOST with value 2. -/
theorem test_member_lost :
    (after (.leaveHeard 5 1) served).route.events.map (fun e => (e.kind, e.value)) = [(.memberLost, 2)] := by decide +kernel

/-- R89: the release age of 299 becomes 300 and the record goes; CLOSE COURSE removes one at once. -/
theorem test_release_age :
    let s := withBoard [{ recIn 3 .released with releaseAge := 299, releaseOrder := some 0 }] (up 20 .joined)
    (after (.releaseAgeExpiry 3) s).course.board = [] ∧ (after (.closeCourse [3]) s).course.board = [] := by decide +kernel

/-- 5.11: the clearing entry reaches 0 and CLEAR_CALL carries 10. -/
theorem test_clear_call :
    let s := up 20 .joined
    let t := after (.clearCall 3) { s with course := { s.course with clearing := [{ course := 3, remaining := 1, delay := 10 }] } }
    t.course.clearing = [] ∧ t.route.events.map (fun e => (e.kind, e.value)) = [(.clearCall, 10)] := by decide +kernel

/-- R91: the COURSE notice every 4 s. -/
theorem test_course_repeat :
    (after (.courseRepeat 3) (withBoard [{ recIn 3 .opened with repeatCount := 3 }] (up 20 .joined))).bus.queue.length = 1 := by
  decide +kernel

/-- R104: READ BOARD starts with the clock; 19:10:00 is 1, 13, 136. -/
theorem test_read_board :
    ((after (.readBoard (List.replicate 5 0)) { (up 20 .joined) with course := { (up 20 .joined).course with clock := 69000 } }).port.dataOut.drop 1).take 5 =
      [1, 13, 136, 0, 0] := by decide +kernel

/-- R81, R82: the clock wraps past 86,399, and a run in its HEAT stage counts the second. -/
theorem test_service_clock_tick :
    let t := after .serviceClockTick { oven with course := { oven.course with clock := 86399 } }
    t.course.clock = 0 ∧ t.prog.runs[0].elapsed = 1 := by decide +kernel

/-! ### Ware return (6.7) -/

/-- Station 9 of 6.7 with the rinse zone at a temperature: wash tank 68, enabled, 4 waiting, RUNNING, next sequence 417. -/
def dish (rinse : Int) : State :=
  let s := withZone 4 (zoneAt 80 20 0 68) (withZone 5 (zoneAt 80 20 0 rinse) (up 9 .joined))
  { s with ware := { s.ware with enable := true, waiting := 4, conveyor := .running, nextSeq := 417 } }

def rack (q : Nat) (rinsed : Bool) (temp : Option Int) (res : Option RackResult) (running : Nat) : Rack :=
  { seq := q, entry := 75720, rinsed := rinsed, running := running, temp := temp, result := res }

/-- 6.7: ENTRY appends rack 417; the backlog is 5. At 24 racks the conveyor faults, RACK_LOST. -/
theorem test_entry_edge :
    let t := after .entryEdge (dish 85)
    t.ware.racks.map (fun r => (r.seq, r.rinsed)) = [(417, false)] ∧ t.backlog = 5 ∧
      (after .entryEdge (withRacks (List.replicate 24 (rack 1 false none none 0)) 25 (dish 85))).ware.subCause = some .rackLost := by
  decide +kernel

/-- 6.7: rinsed at 84, rack 417 is CLEAN; at 81 a rack is REWASH. -/
theorem test_rinse_edge :
    (after .rinseEdge (withRacks [rack 417 false none none 0, rack 418 false none none 0] 419 (dish 84))).ware.racks =
        [rack 417 true (some 84) (some .clean) 0, rack 418 false none none 0] ∧
      (after .rinseEdge (withRacks [rack 418 false none none 0] 419 (dish 81))).ware.racks.map (·.result) = [some .rewash] := by
  decide +kernel

/-- 6.7, 21:04:52: rack 418 leaves as REWASH: RACKS_REWASH, RINSE_FAIL with value 81, the held result LOW and the report. -/
theorem test_exit_edge :
    let t := after .exitEdge (withRacks [rack 418 true (some 81) (some .rewash) 0, rack 419 false none none 0] 420 (dish 85))
    t.ware.racks.map (·.seq) = [419] ∧ (t.counter .racksRewash).value = 1 ∧ t.ware.heldLow = true ∧
      t.route.events.map (fun e => (e.kind, e.value)) = [(.rinseFail, 81)] ∧ t.ware.conveyor = .running := by decide +kernel

/-- 6.7, a rack that slips past the rinse sensor: sub-cause SENSOR, CONVEYOR_FAULT with value 2; the late RINSE adds none. -/
theorem test_exit_edge_sensor :
    let t := after .exitEdge (withRacks [rack 431 false none none 0] 432 (dish 85))
    let u := after .rinseEdge t
    t.ware.subCause = some .sensor ∧
      t.route.events.map (fun e => (e.kind, e.value)) = [(.rinseFail, -32768), (.conveyorFault, 2)] ∧
      u.ware.conveyor = .fault ∧ u.route.events.length = 2 := by decide +kernel

/-- 6.7, 21:03:20: the sample of 81 stops the conveyor and sets the margin flag; CONVEYOR_STOP has the rinse zone. -/
theorem test_sample_stops :
    let t := after (.sample [32, 0, 81]) (withRacks [rack 417 true (some 84) (some .clean) 0] 418 (dish 85))
    t.ware.conveyor = .waiting ∧ t.ware.margin = true ∧ t.route.events.map (fun e => (e.kind, e.zone)) = [(.conveyorStop, some 5)] ∧
      (after (.sample [32, 0, 83]) t).ware.conveyor = .waiting ∧ (after (.sample [32, 0, 84]) t).ware.conveyor = .running := by
  decide +kernel

/-- 6.7, a dwell fault: 240 becomes 241 and the conveyor faults, CONVEYOR_FAULT with value 4. -/
theorem test_dwell_fault :
    let t := after .dwellFault (withRacks [rack 440 true (some 84) (some .clean) 240, rack 441 false none none 232] 442 (dish 85))
    t.ware.subCause = some .dwell ∧ t.ware.racks.map (·.running) = [241, 233] ∧ t.route.events.map (·.value) = [4] := by
  decide +kernel

/-- 6.7: CONVEYOR RESET clears the sub-cause and the running seconds, and the conveyor runs at 85. -/
theorem test_conveyor_reset :
    let s := withRacks [rack 440 true (some 84) (some .clean) 241] 441 (dish 85)
    let t := after (.conveyorReset []) { s with ware := { s.ware with conveyor := .fault, subCause := some .dwell, margin := true } }
    t.ware.conveyor = .running ∧ t.ware.subCause = none ∧ t.ware.racks.map (·.running) = [0] := by decide +kernel

/-- 6.7: SANITIZE ACK makes the held result GOOD and the sanitize output high. -/
theorem test_sanitize_ack :
    (after (.sanitizeAck []) { (dish 85) with ware := { (dish 85).ware with heldLow := true } }).sanitizeOut = true := by decide +kernel

/-- 6.7, a backed-up dish room: waiting 14 with 6 racks is a backlog of 20, HIGH; BACKLOG_HIGH 20 and a WARE of HIGH, 20, RUNNING. -/
theorem test_ware_set :
    let t := after (.wareSet [1, 0, 14]) (withRacks (List.replicate 6 (rack 1 false none none 0)) 7 (dish 85))
    t.ware.levelHigh = true ∧ t.route.events.map (fun e => (e.kind, e.value)) = [(.backlogHigh, 20)] ∧
      t.bus.queue.map (·.body) = [.ware 1 20 2] := by decide +kernel

/-- R121: the WARE notice every 10 s. -/
theorem test_ware_repeat :
    (after .wareRepeat { (dish 85) with ware := { (dish 85).ware with repeatCount := 9 } }).bus.queue.map (·.body) =
      [.ware 0 4 2] := by decide +kernel

/-- 6.7: WARE heard with HIGH inserts the entry, NORMAL removes it. -/
theorem test_ware_heard :
    let t := after (.wareHeard 9 1 1 20 2) (up 3 .joined)
    t.ware.wash.map (fun e => (e.station, e.backlog)) = [(9, 20)] ∧ (after (.wareHeard 9 2 0 12 2) t).ware.wash = [] := by
  decide +kernel

/-- R122: the entry goes at 30 s. -/
theorem test_wash_view_age_out :
    (after (.washViewAgeOut 9)
      { (up 3 .joined) with ware := { (up 3 .joined).ware with wash := [⟨9, 20, .running, 29⟩] } }).ware.wash = [] := by
  decide +kernel

/-! ### Routing (7.7) -/

/-- Station 9's rule table of 7.7, written by RULE WRITE frames. -/
def rules77 : Vector Rule 32 :=
  ([[0, 1, 0, 0, 0, 12, 0, 0, 31, 5], [1, 2, 0, 0, 255, 252, 0, 0, 0, 0], [2, 3, 0, 0, 0, 12, 0, 0, 0, 0],
    [3, 2, 0, 0, 255, 255, 0, 0, 0, 0], [4, 1, 5, 2, 0, 3, 1, 0, 0, 0], [5, 1, 7, 0, 0, 1, 0, 0, 20, 7],
    [6, 2, 0, 0, 255, 255, 0, 0, 0, 0], [7, 1, 5, 2, 0, 3, 0, 0, 20, 6], [8, 2, 0, 0, 255, 255, 0, 0, 0, 0],
    [9, 1, 0, 0, 0, 14, 3, 0, 20, 4], [10, 4, 0, 0, 0, 0, 0, 0, 0, 0], [11, 2, 0, 0, 255, 255, 0, 0, 0, 0],
    [12, 3, 1, 1, 0, 0, 0, 0, 0, 0], [13, 1, 6, 3, 0, 16, 1, 0, 0, 0], [14, 1, 5, 0, 0, 1, 0, 1, 0, 0],
    [15, 1, 0, 0, 0, 4, 2, 0, 2, 2], [16, 1, 5, 2, 0, 2, 0, 0, 1, 5], [17, 1, 5, 0, 0, 1, 2, 0, 1, 2],
    [18, 4, 0, 0, 0, 0, 0, 0, 0, 0], [19, 4, 0, 0, 0, 0, 0, 0, 0, 0], [20, 1, 5, 2, 0, 2, 1, 0, 1, 3]] :
      List (List Byte)).foldl (fun s p => after (.ruleWrite p) s) (up 9 .joined) |>.route.rules

def event (k : EventKind) (c : CourseNo) (v : Int) : Event := { kind := k, course := c, zone := none, station := none, value := v }

def asked (k : EventKind) (c : CourseNo) (v : Int) (hour : Nat) (high : Bool) : Option (GroupNo × Nat × Bool) :=
  ({ event := event k c v, rules := rules77, hour := hour, backlogHigh := high } : Evaluation).outcome.map fun r =>
    (r.group, r.priority, r.defer)

/-- 7.7: CONVEYOR_STOP goes to group 20 at priority 4 deferred; HOLD_OVER to group 2 at 2 deferred; LIMIT_MISMATCH to group 1 at 3. -/
theorem test_evaluations :
    asked .conveyorStop 0 3 21 true = some (20, 4, true) ∧ asked .holdOver 3 1201 20 false = some (2, 2, true) ∧
      asked .limitMismatch 0 400 19 false = some (1, 3, false) := by decide +kernel

/-- R130, R138: an event is taken, and with every rule EMPTY a critical one falls back to group 0 at priority 7. -/
theorem test_take_event :
    let s := up 9 .joined
    let t := after .takeEvent { s with route := { s.route with events := [event .rinseFail 0 81] } }
    let u := after .evaluationEnd t
    t.route.events = [] ∧ t.route.evaluation.isSome = true ∧ u.route.evaluation = none ∧
      u.page.pages.map (fun p => (p.group, p.priority, p.code)) = [(0, 7, 13)] := by decide +kernel

/-- 7.7: at 16 events a critical one removes the oldest non-critical and EVENTS_DROPPED rises. -/
theorem test_event_queue :
    let s := up 9 .joined
    let t := raise (event .rinseFail 0 81) { s with route := { s.route with events := List.replicate 16 (event .curtailed 0 1) } }
    t.route.events.length = 16 ∧ (t.route.events.getLast?.map (·.kind)) = some .rinseFail ∧ (t.counter .eventsDropped).value = 1 := by
  decide +kernel

/-- R132: RULE READ of rule 1 gives its type and mask. -/
theorem test_rule_read :
    (after (.ruleRead (1 :: List.replicate 10 0)) { (up 9 .joined) with route := { (up 9 .joined).route with rules := rules77 } }).port.dataOut.drop 2 =
      [2, 0, 0, 255, 252, 0, 0, 0, 0, 0] := by decide +kernel

/-! ### Pages (8.8) -/

/-- Station 6 of 8.8: group 1 escalates to 2, 2 to 0, 0 to itself; the next number is 37. -/
def station6 : State :=
  let s := up 6 .joined
  { s with page := { s.page with
      groups := (s.page.groups.set 1 { escalation := 2, onDuty := true }).set 2 { escalation := 0, onDuty := true }, next := 37 } }

/-- 8.8: the request makes page 37, QUEUED, and its notice is handed. -/
theorem test_page :
    let t := after (.page [1, 5, 3, 2, 0]) station6
    t.page.pages.map (fun p => (p.number, p.group, p.state)) = [(37, 1, .queued)] ∧ t.page.next = 38 ∧
      t.bus.queue.map (·.body) = [.page 37 0 1 5 3 2] ∧ (t.counter .pagesMade).value = 1 := by decide +kernel

/-- 8.8: unanswered, page 37 takes group 2, priority 6 and attempt 1. -/
theorem test_page_timeout :
    let p : Page := { pageIn 37 1 5 .sent 1 with code := 3, course := 2 }
    let t := after (.pageTimeout 37) (withPages [p] station6)
    t.page.pages.map (fun p => (p.group, p.priority, p.attempt, p.state)) = [(2, 6, 1, .queued)] ∧
      (t.counter .pagesEscalated).value = 1 := by decide +kernel

/-- 8.8: at attempt 2 it expires, with PAGE_EXPIRED latched and the event's value 37. -/
theorem test_page_expires :
    let p : Page := { pageIn 37 0 7 .sent 1 with code := 3, course := 2, attempt := 2 }
    let t := after (.pageTimeout 37) (withPages [p] station6)
    t.page.pages = [] ∧ t.isPending .pageExpired = true ∧ t.route.events.map (fun e => (e.kind, e.value)) = [(.pageExpired, 37)] := by
  decide +kernel

/-- 8.8: an ACCEPT of attempt 0 from pager 212 still removes page 37, with its ANSWERED report. -/
theorem test_answer_heard :
    let p : Page := { pageIn 37 0 7 .sent 12 with code := 3, course := 2, attempt := 2 }
    let t := after (.answerHeard 14 1 6 37 0 212 0) (withPages [p] station6)
    t.page.pages = [] ∧ t.port.mailbox.bank0.reports.map (·.body) = [.answered 37 0 0 3 2 212] := by decide +kernel

/-- 8.8: at 120 s a DEFERRED page leaves and is offered. -/
theorem test_deferral_limit :
    (after (.deferralLimit 52) (withPages [{ pageIn 52 20 4 .deferred 119 with defer := true }] station6)).page.pages.map
      (fun p => (p.state, p.timer)) = [(.queued, 0)] := by decide +kernel

/-- 8.8: DUTY off makes a QUEUED page of priority 4 WAITING. -/
theorem test_duty :
    (after (.duty [20, 0]) (withPages [pageIn 52 20 4 .queued 0] station6)).page.pages.map (·.state) = [.waiting] := by decide +kernel

/-- R140: GROUP WRITE. -/
theorem test_group_write :
    (after (.groupWrite [2, 5, 0]) station6).page.groups[(2 : GroupNo)] = { escalation := 5, onDuty := false } := by decide +kernel

/-! ### The radio relay (9.6) -/

/-- Station 14 of 9.6: pair 0 valid at base 0 and mask 31. -/
def station14 : State :=
  let s := up 14 .joined
  { s with relay := { s.relay with pairs := s.relay.pairs.set 0 { base := 0, mask := 31, valid := true } } }

/-- 9.6: page 53 heard goes in flight; DONE with its key removes it. -/
theorem test_page_heard :
    let t := after (.pageHeard 9 1 53 0 20 7 13 0) station14
    let u := after (.done 9 53 0) t
    t.relay.exchange = .first ∧ t.relay.list.map (fun r => (r.key.number, r.inFlight)) = [(53, true)] ∧
      t.relay.transmit = [165, 1, 20, 7, 13, 0, 9, 53, 0, 153] ∧ u.relay.exchange = .idle ∧ u.relay.list = [] := by decide +kernel

/-- 9.6, 21:10: the timer expires in FIRST and the TRANSMIT is sent again; in RETRY RADIO_FAULT is latched. -/
theorem test_completion_timeout :
    let t := after .completionTimeout (after .transmitSent (after (.pageHeard 9 1 53 0 20 7 13 0) station14))
    let u := after .completionTimeout (after .transmitSent t)
    t.relay.exchange = .retry ∧ u.relay.exchange = .idle ∧ u.isPending .radioFault = true := by decide +kernel

/-- 9.6, 21:05:05: a REPLY hands an ANSWER with origin 9, page 53, attempt 0, pager 40, ACCEPT. -/
theorem test_reply : (after (.reply 40 9 53 0 0) station14).bus.queue.map (·.body) = [.answer 9 53 0 40 0] := by decide +kernel

/-- R191: a message that fails its check is discarded, and so is one whose bytes come too late. -/
theorem test_radio_discarded :
    after (.radioMessageDiscarded [3, 0, 40, 9, 53, 0, 0, 150]) station14 = station14 ∧
      after .radioByteTimeout station14 = station14 := by decide +kernel

/-- R157: COVERAGE WRITE of pair 1 at base 20 and mask 0 (9.6). -/
theorem test_coverage_write :
    (after (.coverageWrite [1, 20, 0, 1]) station14).relay.pairs[(1 : Fin 4)] = { base := 20, mask := 0, valid := true } := by
  decide +kernel

/-! ### The command port -/

/-- R190: the report of 8.8 as READ REPORTS gives it: one record of 12 bytes. -/
theorem test_read_reports :
    let s := makeReport (.answered 37 0 0 3 2 212) { station6 with course := { station6.course with clock := 69978 } }
    let t := after (.readReports (List.replicate 13 0)) s
    t.port.dataOut.drop 1 = [1, 1, 0, 1, 17, 90, 37, 0, 0, 3, 2, 0, 212] ∧ t.port.mailbox.bank0.state = .read ∧
      (after (.freeBank []) t).port.mailbox.bank0 = { state := .empty, reports := [] } := by decide +kernel

/-- R182: with WITHDRAW_DONE (14, level 2) and NUMBER_CLASH (3, level 6) pending and unmasked the top cause is 3. -/
theorem test_read_alert :
    let s := up 9 .joined
    let t := after (.readAlert (List.replicate 6 0)) { s with port := { s.port with latched := 0x2004, mask := 0 } }
    t.port.dataOut.drop 1 = [6, 3, 0x20, 0x04, 0, 0] := by decide +kernel

/-- R183: ALERT MASK, and CLEAR ALERT of cause 3. -/
theorem test_clear_alert :
    let s := up 9 .joined
    (after (.alertMask [1, 2]) s).port.mask = 0x0102 ∧
      (after (.clearAlert [0, 4]) { s with port := { s.port with latched := 0x2004 } }).port.latched = 0x2000 := by decide +kernel

/-- R186: READ COUNTERS gives 3 bytes a counter; the clear option zeroes them. -/
theorem test_read_counters :
    let t := after (.readCounters (1 :: List.replicate 42 0)) (bump .noticesSent (up 9 .joined))
    t.port.dataOut.length = 44 ∧ (t.port.dataOut.drop 2).take 3 = [0, 1, 0] ∧ (t.counter .noticesSent).value = 0 := by decide +kernel

/-- R167: a code outside the list is UNKNOWN. -/
theorem test_unknown : resultOf (.unknown 37 [1, 2]) (up 9 .joined) = .unknown := by decide +kernel

/-- R172: READ STATUS starts with the straps. -/
theorem test_read_status : ((after (.readStatus (List.replicate 4 0)) (up 9 .joined)).port.dataOut.drop 1).take 4 = [9, 1, 1, 1] := by decide +kernel

/-- R190: the two minima of the ware settings, 82 °C and 65 °C, in 2 bytes each, among the 22 bytes of the configuration. -/
theorem test_read_status_configuration :
    (((after (.readStatus (List.replicate 26 0)) (up 9 .joined)).port.dataOut.drop 5).drop 12).take 4 = [0, 82, 0, 65] := by
  decide +kernel

/-! ### Witnesses: for each statement with hypotheses, a state and operands that meet them, clause by clause -/

/-- A configured station that meets every condition of a safe state. -/
theorem tx_crowded : TxSafe crowded := by constructor <;> decide +kernel

theorem tx_up : TxSafe (up 9 .joined) := by constructor <;> decide +kernel

theorem mailbox_fresh : MailboxSafe (up 9 .joined).port.mailbox := by constructor <;> decide +kernel

theorem pages_station6 : PagesSafe (withPages [pageIn 37 1 5 .sent 1, pageIn 38 1 5 .deferred 119] station6) := by
  constructor <;> decide +kernel

theorem board_served : BoardSafe served := by constructor <;> decide +kernel

theorem relay_station14 : RelaySafe (after (.pageHeard 9 1 53 0 20 7 13 0) station14) := by constructor <;> decide +kernel

/-- In reset; out of it with no head waiting; a head that has waited 498 ms and one that has waited 499. -/
theorem witness_StepTakesFront :
    let s (ms : Nat) : State := withQueue [{ entry 1 (.hold 3 30) with waitMs := ms }] .deferred (up 9 .joined)
    (up 9 .joined).pending = [] ∧ (after .resetAsserted (up 9 .joined)).pending = [] ∧
      (after .resetAsserted (up 9 .joined)).inReset = true ∧ (up 9 .joined).inReset = false ∧
      headOf (up 9 .joined).bus.queue = none ∧
      ((s 498).pending = [] ∧ (s 498).bus.access.waits = true ∧
        headOf (s 498).bus.queue = some { entry 1 (.hold 3 30) with waitMs := 498 } ∧
        headOf (s 499).bus.queue = some { entry 1 (.hold 3 30) with waitMs := 499 }) ∧ TxSafe (s 498) := by
  refine ⟨rfl, rfl, by decide +kernel, rfl, rfl, by decide +kernel, ?_⟩
  constructor <;> decide +kernel

theorem witness_HeldInReset :
    (after .resetAsserted (up 9 .joined)).inReset = true ∧ (∀ straps, Instr.entryEdge ≠ .resetReleased straps) ∧
      (∀ high, Instr.entryEdge ≠ .oeInterlockChange high) ∧ Instr.entryEdge ≠ .resetAsserted ∧
      Instr.entryEdge ≠ .lineIdle ∧ Instr.entryEdge ≠ .lineBusy := ⟨by decide +kernel, nofun, nofun, nofun, nofun, nofun⟩

theorem witness_EveryCommandCompletes :
    (∀ straps, Instr.exitEdge ≠ .resetReleased straps) ∧ Instr.exitEdge ≠ .resetAsserted ∧
      (∀ high, Instr.exitEdge ≠ .oeInterlockChange high) ∧ frameForm .exitEdge = none ∧
      ∀ code p, Instr.exitEdge ≠ .unknown code p := ⟨nofun, by decide, nofun, rfl, nofun⟩

theorem witness_SettingsKept :
    writesSettings .exitEdge = false ∧ exec .exitEdge (dish 85) = .next (after .exitEdge (dish 85)) := ⟨rfl, rfl⟩

/-- A frame one byte short, and a frame that fits at an unconfigured and at a configured station. -/
theorem witness_FrameRefusals :
    frameForm (.fire []) = some ⟨[], false, false, some 1⟩ ∧ (fresh 9).lengthFits ⟨[], false, false, some 1⟩ (.fire []) = false ∧
      frameForm (.fire [3]) = some ⟨[3], false, false, some 1⟩ ∧ (fresh 9).lengthFits ⟨[3], false, false, some 1⟩ (.fire [3]) = true ∧
      (fresh 9).inReset = false ∧ (fresh 9).port.configured = false ∧ (up 9 .joined).inReset = false ∧
      (up 9 .joined).port.configured = true := by decide +kernel

/-! The invariants: a state that is not the reset state, and a step of it. -/

theorem witness_TransmitQueueKept :
    TxSafe { crowded with pending := [.noticeCompleted] } ∧
      step { crowded with pending := [.noticeCompleted] } = .next (after .noticeCompleted crowded) :=
  ⟨by constructor <;> decide +kernel, rfl⟩

theorem witness_AppliedGrantKept :
    GrantSafe { oven with load := { oven.load with applied := 116 }, pending := [.stepBoundary] } ∧
      ∃ t, step { oven with load := { oven.load with applied := 116 }, pending := [.stepBoundary] } = .next t :=
  ⟨by constructor <;> decide +kernel, _, rfl⟩

theorem witness_BoardKept :
    BoardSafe { served with pending := [.release [3, 0]] } ∧ ∃ t, step { served with pending := [.release [3, 0]] } = .next t :=
  ⟨by constructor <;> decide +kernel, _, rfl⟩

/-- Records at the ends of their ranges: a RELEASED one of age 299 and release time 86,399, and a HELD one of 1,020 s. -/
theorem witness_RecordsKept :
    let m : Member := { station := 31, standing := .late, warm := 4000, fireSeen := true }
    let recs := [{ recIn 15 .released with releaseTime := some 86399, releaseAge := 299, releaseOrder := some 0 },
      { recIn 1 .held with
        plates := 4000, clearDelay := 60, hold := 1020, origin := some 31, repeatCount := 3, members := [m] }]
    let s : State := { (withPeers [peer 31 0 0 1] (withBoard recs (up 20 .joined))) with pending := [.serviceClockTick] }
    BoardSafe s ∧ TablesSafe s ∧ RecordsSafe s ∧ ∃ t, step s = .next t :=
  ⟨by constructor <;> decide +kernel, by constructor <;> decide +kernel, by constructor <;> decide +kernel, _, rfl⟩

/-- A RUNNING conveyor, and a heater output that is on. -/
theorem witness_ConveyorKept :
    let u := { (after .stepBoundary (windowStart { oven with load := { oven.load with applied := 116 } })) with pending := [.abort [1]] }
    ConveyorSafe { (dish 85) with pending := [.oeInterlockChange false] } ∧ (dish 85).ware.conveyor = .running ∧
      (∃ t, step { (dish 85) with pending := [.oeInterlockChange false] } = .next t) ∧
      HeatSafe u ∧ u.heaterOut 0 = true ∧ ∃ t, step u = .next t :=
  ⟨fun _ _ => by decide +kernel, by decide +kernel, ⟨_, rfl⟩, by unfold HeatSafe; decide +kernel, by decide +kernel, _, rfl⟩

theorem witness_RacksKept :
    let s : State := { (withRacks [rack 417 true (some 84) (some .clean) 0, rack 418 false none none 0] 419 (dish 85)) with
      pending := [.rinseEdge] }
    RacksSafe s ∧ ∃ t, step s = .next t := by
  refine ⟨⟨by decide +kernel, by decide +kernel, by decide +kernel, by decide +kernel, ?_, by decide +kernel⟩, _, rfl⟩
  intro r hr hc
  have h : r ∈ [rack 417 true (some 84) (some .clean) 0, rack 418 false none none 0] := hr
  simp only [List.mem_cons, List.not_mem_nil, or_false] at h
  obtain rfl | rfl := h
  · exact ⟨84, rfl, by decide +kernel⟩
  · cases hc

theorem witness_MailboxKept :
    let s : State := { (makeReport .rackUntracked (up 9 .joined)) with pending := [.readReports []] }
    MailboxSafe s.port.mailbox ∧ ∃ t, step s = .next t := ⟨by constructor <;> decide +kernel, _, rfl⟩

theorem witness_PagesKept :
    let s : State := { (withPages [pageIn 37 1 5 .sent 1] station6) with pending := [.pageTimeout 37] }
    PagesSafe s ∧ ∃ t, step s = .next t := ⟨by constructor <;> decide +kernel, _, rfl⟩

theorem witness_RelayKept :
    let s : State := { (after (.pageHeard 9 1 53 0 20 7 13 0) station14) with pending := [.done 9 53 0] }
    PagesSafe s ∧ RelaySafe s ∧ ∃ t, step s = .next t :=
  ⟨by constructor <;> decide +kernel, by constructor <;> decide +kernel, _, rfl⟩

theorem witness_TablesKept :
    let s : State := { (withPeers [peer 5 150 0 4, peer 12 20 0 1] (up 3 .joined)) with pending := [.loadPeriodExpiry] }
    TablesSafe s ∧ ∃ t, step s = .next t := ⟨by constructor <;> decide +kernel, _, rfl⟩

theorem isUp_up (n : Station) (l : LinkState) : (up n l).isUp := ⟨rfl, rfl⟩

/-- Twelve waiting HOLD notices. -/
def holds12 : State :=
  withQueue ((List.range 12).map fun i => entry (i + 1) (.hold (u8 (i + 1)) 1)) .gap (up 9 .joined)

/-- The queue of 4.8 as it stands once PAGE 19 has displaced WARE: no class C notice waits. -/
def crowded2 : State := hand (.page 19 0 20 4 14 0) crowded

/-- Declined; superseding; room for one; displacing class C; displacing class B; refused in each of three ways. -/
theorem witness_HandingNotice :
    TxSafe (up 9 .listen) ∧ (up 9 .listen).bus.link.sends = false ∧ TxSafe crowded ∧ crowded.bus.link.sends = true ∧
      TxSafe crowded2 ∧ TxSafe holds12 ∧ TxSafe (withQueue (crowded.bus.queue.take 11) .sending (up 9 .joined)) ∧
      (crowded.bus.queue = crowded.bus.queue.take 4 ++ entry 5 (.course 3 4 false 0 none none) :: crowded.bus.queue.drop 5 ∧
        (Body.course 3 3 false 0 none none).key = (entry 5 (.course 3 4 false 0 none none)).body.key) ∧
      ((crowded.bus.queue.take 11).length < 12 ∧
        ∀ e ∈ crowded.bus.queue.take 11, e.waiting = true → e.body.key ≠ (Body.page 19 0 20 4 14 0).key) ∧
      (crowded.bus.queue.length = 12 ∧
        (∀ e ∈ crowded.bus.queue, e.waiting = true → e.body.key ≠ (Body.page 19 0 20 4 14 0).key) ∧
        crowded.bus.queue = crowded.bus.queue.take 1 ++ entry 2 (.ware 0 5 2) :: crowded.bus.queue.drop 2 ∧
        ∀ e ∈ crowded.bus.queue.drop 2, e.waiting = true → e.body.txClass ≠ .c) ∧
      (crowded2.bus.queue.length = 12 ∧ (Body.hold 4 30).txClass = .a ∧
        (∀ e ∈ crowded2.bus.queue, e.waiting = true → e.body.key ≠ (Body.hold 4 30).key) ∧
        (∃ v, crowded2.bus.queue.getLast? = some v ∧ v.waiting = true ∧ v.body.txClass = .b) ∧
        ∀ e ∈ crowded2.bus.queue, e.waiting = true → e.body.txClass ≠ .c) ∧
      ((Body.page 20 0 20 4 14 0).txClass = .b ∧ (Body.load 0 0 1 0 420).txClass = .c ∧
        ∀ e ∈ crowded.bus.queue, e.waiting = true → e.body.key ≠ (Body.load 0 0 1 0 420).key) ∧
      (holds12.bus.queue.length = 12 ∧ (∀ e ∈ holds12.bus.queue, e.waiting = true → e.body.txClass = .a) ∧
        ∀ e ∈ holds12.bus.queue, e.waiting = true → e.body.key ≠ (Body.hold 15 30).key) := by
  refine ⟨?_, by decide +kernel, tx_crowded, by decide +kernel, ?_, ?_, ?_, by decide +kernel, by decide +kernel, by decide +kernel,
    ⟨by decide +kernel, by decide +kernel, by decide +kernel, ⟨_, rfl, by decide +kernel, by decide +kernel⟩, by decide +kernel⟩,
    by decide +kernel, by decide +kernel⟩ <;> constructor <;> decide +kernel

/-- An append to an EMPTY machine on an idle and on a busy line, and one past a GAP; a displaced PAGE that its page awaits. -/
theorem witness_HandingNotice_wakes :
    let busy : State := { (up 9 .joined) with bus := { (up 9 .joined).bus with lineBusy := true } }
    let p := withPages [{ pageIn 19 20 4 .queued 0 with current := some 100 }] crowded2
    TxSafe busy ∧ TxSafe p ∧
      ((up 9 .joined).bus.access = .empty ∧ (up 9 .joined).bus.lineBusy = false ∧ busy.bus.lineBusy = true ∧
        busy.bus.access = .empty ∧ busy.bus.queue.length < 12 ∧ holds12.bus.access ≠ .empty) ∧
      (p.bus.queue.length = 12 ∧ (p.bus.queue.getLast?.map fun v => (v.id, v.waiting, v.body.txClass)) = some (100, true, .b) ∧
        (hand (.hold 4 30) p).page.pages.map (·.current) = [none]) := by
  refine ⟨?_, ?_, by decide +kernel, by decide +kernel⟩ <;> constructor <;> decide +kernel

/-- Sixteen events of a kind. -/
def eventful (n : Nat) (k : EventKind) (l : LinkState) : State :=
  { (up 9 l) with route := { (up 9 l).route with events := List.replicate n (event k 0 1) } }

theorem witness_RaisingEvent :
    (eventful 16 .curtailed .leaving).route.events.length ≤ 16 ∧ (eventful 16 .curtailed .leaving).bus.link = .leaving ∧
      (eventful 15 .curtailed .joined).route.events.length < 16 ∧ (eventful 15 .curtailed .joined).bus.link ≠ .left ∧
      ((event .rinseFail 0 81).kind.severity = 3 ∧ (eventful 16 .curtailed .joined).route.events.length = 16 ∧
        (eventful 16 .curtailed .joined).route.events = [] ++ event .curtailed 0 1 :: List.replicate 15 (event .curtailed 0 1) ∧
        (event .curtailed 0 1).kind.severity ≠ 3) ∧
      ((event .curtailed 0 1).kind.severity ≠ 3 ∧ ∀ y ∈ (eventful 16 .rinseFail .joined).route.events, y.kind.severity = 3) := by
  decide +kernel

/-- A mailbox of two banks. -/
def mailOf (a b : BankState) (m n : Nat) (order : List (Fin 2)) : State :=
  let r : Report := { number := 0, clock := 0, body := .rackUntracked }
  { (up 9 .joined) with port := { (up 9 .joined).port with
      mailbox := { bank0 := ⟨a, List.replicate m r⟩, bank1 := ⟨b, List.replicate n r⟩, fullOrder := order, nextNumber := 255 } } }

theorem witness_ReportMailbox :
    MailboxSafe (mailOf .full .read 8 1 [0]).port.mailbox ∧ MailboxSafe (mailOf .filling .empty 6 0 []).port.mailbox ∧
      MailboxSafe (mailOf .filling .empty 7 0 []).port.mailbox ∧ MailboxSafe (mailOf .full .filling 8 7 [0]).port.mailbox ∧
      MailboxSafe (mailOf .empty .empty 0 0 []).port.mailbox ∧ MailboxSafe (mailOf .empty .full 0 8 [1]).port.mailbox ∧
      MailboxSafe (mailOf .read .filling 8 0 []).port.mailbox ∧ (mailOf .read .filling 8 0 []).isUp := by
  refine ⟨?_, ?_, ?_, ?_, ?_, ?_, ?_, ⟨rfl, rfl⟩⟩ <;> constructor <;> decide +kernel

theorem grant_fresh (n : Station) (h : n = 9 ∨ n = 0) : GrantSafe (fresh n) := by
  obtain rfl | rfl := h <;> constructor <;> decide +kernel

theorem racks_fresh : RacksSafe (fresh 9) :=
  ⟨by decide +kernel, by decide +kernel, by decide +kernel, by decide +kernel, nofun, by decide +kernel⟩

/-- LOCKED at a configured station; taken out of OFF and in MONITOR. -/
theorem witness_Configure :
    (List.replicate 20 (255 : Byte)).length = 20 ∧ (up 9 .joined).inReset = false ∧ (up 9 .joined).port.configured = true ∧
      (fresh 9).inReset = false ∧ (fresh 9).port.configured = false ∧ GrantSafe (fresh 9) ∧ RacksSafe (fresh 9) ∧
      (fresh 9).bus.link = .off ∧ GrantSafe (fresh 0) ∧ (fresh 0).bus.link = .monitor := by
  refine ⟨rfl, rfl, rfl, rfl, rfl, grant_fresh 9 (.inl rfl), racks_fresh, rfl, grant_fresh 0 (.inr rfl), rfl⟩

/-- 86,400 and 86,399; a clock that crosses no entry, one that crosses two, and one in MONITOR that crosses one. -/
theorem witness_SetClock :
    let s (x : State) : State :=
      { x with course := { x.course with clock := 68390, schedule := [⟨1, 68400⟩, ⟨2, 69000⟩, ⟨4, 69001⟩] } }
    (s (up 20 .joined)).isUp ∧ (s (up 0 .monitor)).isUp ∧ TablesSafe (s (up 20 .joined)) ∧ TablesSafe (s (up 0 .monitor)) ∧
      (86399 < tripleAt [1, 81, 128] 0 ∧ tripleAt [1, 81, 127] 0 = 86399 ∧ tripleAt [1, 13, 136] 0 = 69000 ∧
        (up 9 .joined).course.schedule = [] ∧ tripleAt [0, 0, 0] 0 ≤ (up 9 .joined).course.clock ∧
        (s (up 0 .monitor)).bus.link.bars = true) :=
  ⟨⟨rfl, rfl⟩, ⟨rfl, rfl⟩, by constructor <;> decide +kernel, by constructor <;> decide +kernel, by decide +kernel⟩

theorem witness_Withdraw :
    (up 9 .left).isUp ∧ (up 9 .left).bus.link.heats = false ∧ crowded.isUp ∧ crowded.bus.link.heats = true ∧ TxSafe crowded :=
  ⟨⟨rfl, rfl⟩, rfl, ⟨rfl, rfl⟩, rfl, tx_crowded⟩

theorem witness_Restart :
    (up 9 .leaving).isUp ∧ (up 9 .left).isUp ∧ (up 9 .listen).isUp ∧ crowded.isUp ∧
      ((up 9 .leaving).bus.link = .leaving ∧ (up 9 .left).bus.link = .left ∧ crowded.bus.link = .joined) :=
  ⟨⟨rfl, rfl⟩, ⟨rfl, rfl⟩, ⟨rfl, rfl⟩, ⟨rfl, rfl⟩, rfl, rfl, rfl⟩

/-- The last program number and the first out of range, and the same of rules; the codes 0 and 37. -/
theorem witness_Reads :
    (up 9 .joined).inReset = false ∧ byteAt [15] 0 = ((15 : Fin 16) : Nat) ∧ 15 < byteAt [16] 0 ∧
      byteAt [31] 0 = ((31 : Fin 32) : Nat) ∧ 31 < byteAt [32] 0 ∧ (Instr.unknown 0 []).wellFormed = true ∧
      (Instr.unknown 37 [1]).wellFormed = true := by decide +kernel

theorem witness_AlertController :
    (up 9 .joined).isUp ∧ ([255, 255] : List Byte).length = 2 ∧
      State.topCause { (up 9 .joined) with port := { (up 9 .joined).port with latched := 0x2004, mask := 0 } } = some .numberClash :=
  ⟨⟨rfl, rfl⟩, rfl, by decide +kernel⟩

/-- Station 9 of 1.7, with floors. -/
def oven9 : State :=
  withRun 0 (runOn .heating 3 (cookProgram 230 60) 0) <| withRun 1 (runOn .heating 3 (cookProgram 230 60) 0) <|
    withRun 4 (runOn .heating 3 (cookProgram 230 60) 0) <|
    withZone 0 (zoneAt 80 20 30 190) <| withZone 1 (zoneAt 80 20 30 215) <| withZone 4 (zoneAt 40 20 10 220) (up 9 .joined)

/-- 1.7: Q 160 and base 70; A 0, 160, 70 (case 2 at its edge) and 71 (case 3). The worked grants give 22, 21, 7 and 47, 40, 13. -/
theorem witness_Allotments :
    oven9.declaredQ = 160 ∧ oven9.declaredF = 70 ∧ (70 < oven9.declaredQ ∧ 70 ≤ oven9.declaredF) ∧ oven9.declaredF < 71 ∧
      oven9.allotments 50 = [22, 21, 0, 0, 7, 0, 0, 0] ∧ oven9.allotments 100 = [47, 40, 0, 0, 13, 0, 0, 0] := by decide +kernel

/-- Step 7 and step 19; no PASS role, and a board with no auto-release record; a grant at the window grant and one below it. -/
theorem witness_WindowStart :
    let last : State := { oven with heat := { oven.heat with step := 19 } }
    let plain : State := { last with port := { last.port with straps := { last.port.straps with pass := false } } }
    let u := windowStart { oven with load := { oven.load with applied := 116 } }
    oven.inReset = false ∧ oven.heat.step ≠ 19 ∧ last.inReset = false ∧ last.heat.step = 19 ∧ plain.isPass = false ∧
      (∀ r ∈ last.course.board, r.auto = false) ∧ u.heat.windowGrant = 116 ∧ 90 < u.heat.windowGrant ∧
      ([4, 5, 6, 7, 8, 9].all fun k => u.heat.zones[2].plan.contains k) = true := by decide +kernel

/-- A zone whose age stands at 5 under an active run, and a zone whose output comes on. -/
theorem witness_StepBoundary :
    let s := withZone 1 { zoneAt 80 20 0 210 with age := 5 } oven
    let u := windowStart { oven with load := { oven.load with applied := 116 } }
    s.inReset = false ∧ s.prog.runs[1].state.active = true ∧ s.heat.zones[1].age = 5 ∧ s.heat.zones[0].age ≠ 5 ∧
      (after .stepBoundary s).heat.step ≠ 0 ∧ (after .stepBoundary s).prog.runs[1].state.active = false ∧
      u.inReset = false ∧ (after .stepBoundary u).heat.zones[0].on = true := by decide +kernel

theorem witness_ZoneSet :
    oven.inReset = false ∧ ([0, 40, 10, 0, 250, 50, 1] : List Byte).length = 7 ∧ zonesAt [0, 40, 10, 0, 250, 50, 1] = [] ∧
      zonesAt [1, 0, 10, 0, 250, 50, 1] ≠ [] ∧
      (byteAt [1, 0, 10, 0, 250, 50, 1] 1 = 0 ∧ ∃ z ∈ zonesAt [1, 0, 10, 0, 250, 50, 1], oven.prog.runs[z].state.live = true) ∧
      (zonesAt [255, 255, 0, 1, 145, 255, 1] ≠ [] ∧ byteAt [255, 255, 0, 1, 145, 255, 1] 1 ≠ 0) ∧
      (oven.heat.zones[0].isOver = false ∧ (after (.zoneSet [1, 80, 20, 0, 100, 0, 0]) oven).heat.zones[0].isOver = true ∧
        oven.prog.runs[0].state.active = true ∧
        (after (.zoneSet [1, 80, 20, 0, 100, 0, 0]) oven).prog.runs[0].state.active = false) := by decide +kernel

theorem witness_Sample :
    oven.isUp ∧ (([] : List Byte).length = oven.sampleLength 0 ∧ maskZones 0 = [] ∧
      ([1, 145, 254, 0] : List Byte).length = oven.sampleLength 129 ∧ maskZones 129 ≠ []) := ⟨⟨rfl, rfl⟩, by decide +kernel⟩

/-- A HEAT stage at 230 that 228 ends and 227 does not; a PROBE stage of target 70 that 70 ends; a run over; a run that is done. -/
theorem witness_Sample_ends :
    let probe : Program :=
      { cookProgram 230 60 with stages := [⟨.probe, 230, 70⟩, ⟨.hold, 60, 0⟩] }
    let s := withRun 1 (runOn .cooking 3 probe 0) <| withZone 1 { zoneAt 80 20 0 220 with probeFitted := true } <|
      withRun 2 (runOn .done 3 probe 0) oven
    s.isUp ∧ ((s.prog.runs[0].body.stages[0]?.map fun st => st.reached (some 228) none) = some true ∧
      (s.prog.runs[0].body.stages[0]?.map fun st => st.reached (some 227) none) = some false ∧
      (s.prog.runs[1].body.stages[0]?.map fun st => st.reached (some 20) (some 70)) = some true ∧
      (∃ st ∈ s.prog.runs[1].body.stages.drop 1, st.kind = .hold) ∧ s.prog.runs[0].state.active = true ∧
      s.prog.runs[2].state.active = false ∧ maskZones 7 = [0, 1, 2] ∧
      s.heat.zones[0].isOver = false ∧ (after (.sample [1, 1, 244]) s).heat.zones[0].isOver = true ∧
      (after (.sample [1, 1, 244]) s).prog.runs[0].state.active = false ∧
      (after (.sample [7, 0, 228, 0, 220, 0, 70, 0, 20]) s).prog.runs[0].stage = 1 ∧
      (after (.sample [7, 0, 228, 0, 220, 0, 70, 0, 20]) s).prog.runs[1].stage = 1) := ⟨⟨rfl, rfl⟩, by decide +kernel⟩

/-- Program 16; program 15 emptied; nine stages; a HOLD that is not the last stage; an entry in use. -/
theorem witness_ProgramWrite :
    let good : List Byte := [15, 1, 0, 5, 0, 5, 1, 3, 0, 75, 0, 9]
    let bad : List Byte := [15, 2, 0, 5, 0, 5, 1, 3, 0, 75, 0, 9, 3, 0, 75, 0, 9]
    let nine : List Byte := [15, 9] ++ List.replicate 50 0
    let kind := fun (p : List Byte) (k : Nat) => byteAt (p.drop (7 + 5 * k)) 0
    let fits := fun p : List Byte => byteAt p 1 ≤ 8 ∧ (∀ k < byteAt p 1, kind p k ≤ 3) ∧
      ∀ k < byteAt p 1, (kind p k = 3 ↔ k + 1 = byteAt p 1)
    oven.inReset = false ∧ good.length = 7 + 5 * byteAt good 1 ∧ fits good ∧ bad.length = 7 + 5 * byteAt bad 1 ∧ ¬ fits bad ∧
      nine.length = 7 + 5 * byteAt nine 1 ∧ ¬ fits nine ∧ 15 < byteAt [16, 0, 0, 0, 0, 0, 0] 0 ∧
      byteAt [15, 0, 0, 0, 0, 0, 0] 1 = 0 ∧ (∃ z : ZoneNo, oven.prog.runs[z].state.live = true ∧ oven.prog.runs[z].program = some 0) ∧
      ¬ ∃ z : ZoneNo, oven.prog.runs[z].state.live = true ∧ oven.prog.runs[z].program = some 15 := by decide +kernel

/-- Four records that are not RELEASED: no room. -/
def fullBoard (s : State) : State := withBoard [recIn 1 .opened, recIn 2 .fired, recIn 4 .held, recIn 5 .ready] s

theorem witness_Assign :
    ready0.isUp ∧ (fullBoard ready0).isUp ∧ ready0.prog.table[(0 : Fin 16)] = some (cookProgram 230 60) ∧
      ready0.prog.table[(1 : Fin 16)] = none ∧ zonesAt [0, 3, 0] = [] ∧ zonesAt [1, 3, 0] ≠ [] ∧
      ((cookProgram 230 60).stages.all (fun st => st.kind != .probe) = true ∧ ready0.bus.link.bars = false ∧
        ready0.isReleased 3 = false ∧ ready0.heat.zones[0].rating ≠ 0 ∧ ready0.prog.runs[0].state = .idle ∧
        ready0.canHaveRec 3 = true) ∧
      ((fullBoard ready0).recOf 3 = none ∧ (fullBoard ready0).course.board.length = 4 ∧
        ∀ r ∈ (fullBoard ready0).course.board, r.state ≠ .released) ∧
      (ready0.heat.zones[1].rating = 0 ∧ ready0.heat.zones[0].probeFitted = false) ∧
      (State.hasFired (withBoard [recIn 3 .fired] ready0) 3 = true ∧ ready0.hasFired 3 = false) :=
  ⟨⟨rfl, rfl⟩, ⟨rfl, rfl⟩, by decide +kernel⟩

theorem witness_Abort :
    oven.isUp ∧ ([0] : List Byte).length = 1 ∧ zonesAt [0] = [] ∧ zonesAt [129] ≠ [] ∧ oven.prog.runs[0].state.active = true ∧
      (after (.abort [129]) oven).prog.runs[0].state.active = false :=
  ⟨⟨rfl, rfl⟩, by decide +kernel⟩

/-- A TIMED stage's last second, a heat limit and a hold limit at their edges, and one second before each. -/
theorem witness_RunTicks :
    let s := withRun 0 { runOn .cooking 3 (cookProgram 230 60) 1 with elapsed := 59 } <|
      withRun 1 { runOn .heating 3 (cookProgram 230 60) 0 with elapsed := 600 } <|
      withRun 2 { runOn .holding 3 (cookProgram 230 60) 2 with holdElapsed := 1200 } oven
    s.inReset = false ∧
      (s.prog.runs[0].state = .cooking ∧ s.prog.runs[0].body.stages[s.prog.runs[0].stage]?.map (·.param) = some 60 ∧
        ∃ st ∈ s.prog.runs[0].body.stages.drop 2, st.kind = .hold) ∧
      (s.prog.runs[1].state = .heating ∧ s.prog.runs[1].late = false ∧ s.prog.runs[1].body.heatLimit < s.prog.runs[1].elapsed + 1) ∧
      (s.prog.runs[2].state = .holding ∧ s.prog.runs[2].holdOver = false ∧
        s.prog.runs[2].body.holdLimit < s.prog.runs[2].holdElapsed + 1) ∧
      s.prog.runs[3].state = .idle := by decide +kernel

/-- Courses 0, 15 and 16; 86,399 and 86,400; a full schedule; RELEASED and not; MONITOR. -/
theorem witness_CourseTables :
    let full : State := { (up 20 .joined) with course := { (up 20 .joined).course with schedule := List.replicate 8 ⟨3, 72300⟩ } }
    let done := withBoard [{ recIn 15 .released with releaseOrder := some 0 }] (up 20 .joined)
    (up 20 .joined).isUp ∧ (up 0 .monitor).isUp ∧ full.isUp ∧ done.isUp ∧
      (byteAt [0, 1, 2] 0 = 0 ∧ 15 < byteAt [16, 1, 2] 0 ∧ byteAt [15, 255, 255] 0 = ((15 : CourseNo) : Nat) ∧
        (up 20 .joined).recOf 15 = none ∧ 86399 < tripleAt [15, 1, 81, 128] 1 ∧ tripleAt [15, 1, 81, 127] 1 ≤ 86399 ∧
        (up 0 .monitor).bus.link.bars = true ∧ (up 20 .joined).bus.link.bars = false ∧ 8 ≤ full.course.schedule.length ∧
        (up 20 .joined).course.schedule.length < 8 ∧ (up 20 .joined).isReleased 15 = false ∧
        done.recOf 15 = some { recIn 15 .released with releaseOrder := some 0 }) :=
  ⟨⟨rfl, rfl⟩, ⟨rfl, rfl⟩, ⟨rfl, rfl⟩, ⟨rfl, rfl⟩, by decide +kernel⟩

/-- A course with no run on it, and one with; a plate count that changes what was last given for a record, and one that does not. -/
theorem witness_CourseTables_plates :
    let plated (p : Program) : Program := { p with plate := true }
    let s := withRun 0 (runOn .holding 3 (plated (cookProgram 230 60)) 2) <| withZone 0 (zoneAt 80 20 0 230) <|
      withBoard [recIn 3 .fired] (up 20 .joined)
    s.isUp ∧ (s.report 4 = none ∧ s.report 3 = some (.ready, 0) ∧ (s.recOf 3).map (·.state) = some .fired ∧
      (State.report { s with prog := { s.prog with plates := s.prog.plates.set 3 100 } } 3) = some (.ready, 100) ∧
      s.prog.given[(3 : CourseNo)] = none ∧ (s.recOf 3).map (fun r => (r.member s.own).isSome) = some false ∧
      s.bus.link.sends = true ∧ s.bus.queue.length < 10 ∧ s.report 4 = s.prog.given[(4 : CourseNo)]) :=
  ⟨⟨rfl, rfl⟩, by decide +kernel⟩

theorem witness_OpenCourse :
    let done := withBoard [{ recIn 3 .released with releaseOrder := some 0 }] (up 20 .joined)
    let full := fullBoard (up 20 .joined)
    let held := withBoard [{ recIn 3 .held with hold := 1 }] (up 20 .joined)
    (up 0 .monitor).isUp ∧ (up 20 .joined).isUp ∧ done.isUp ∧ full.isUp ∧ held.isUp ∧
      ((up 0 .monitor).bus.link.bars = true ∧ (up 20 .joined).isPass = true ∧ (up 20 .joined).bus.link.bars = false ∧
        byteAt [0, 0, 0, 0, 0] 0 = 0 ∧ 15 < byteAt [16, 0, 0, 0, 0] 0 ∧ done.isReleased 3 = true ∧ full.canHaveRec 3 = false ∧
        (up 20 .joined).isReleased 3 = false ∧ (up 20 .joined).canHaveRec 3 = true ∧ (up 20 .joined).recOf 3 = none ∧
        (held.recOf 3).map (·.state) = some .held ∧ (held.recOf 3).map (·.state.isFired) = some true ∧
        (up 20 .joined).bus.link.sends = true ∧ (up 20 .joined).bus.queue.length < 10) :=
  ⟨⟨rfl, rfl⟩, ⟨rfl, rfl⟩, ⟨rfl, rfl⟩, ⟨rfl, rfl⟩, ⟨rfl, rfl⟩, by decide +kernel⟩

/-- A FIRED record whose members are READY with 300 plates: the command's 300 is met, and 301 is not, with and without the flag. -/
theorem witness_OpenCourse_ready :
    let m : Member := { station := 5, standing := .ready, warm := 300, fireSeen := true }
    let old := { recIn 3 .fired with members := [m] }
    let s := withPeers [peer 5 0 0 1] (withBoard [old] (up 20 .joined))
    s.isUp ∧ s.recOf 3 = some old ∧ s.isReleased 3 = false ∧ s.canHaveRec 3 = true ∧
      CourseRec.meetsReady { old with plates := 300, auto := true, clearDelay := 0 } ∧
      ¬ CourseRec.meetsReady { old with plates := 301, auto := false, clearDelay := 0 } ∧
      (wordAt [3, 1, 44, 1, 0] 1 = 300 ∧ wordAt [3, 1, 45, 0, 0] 1 = 301) :=
  ⟨⟨rfl, rfl⟩, rfl, by decide +kernel, by decide +kernel, by unfold CourseRec.meetsReady; decide +kernel,
    by unfold CourseRec.meetsReady; decide +kernel, by decide +kernel⟩

/-- A station with an entry of the schedule due at the next tick. -/
def due (c : CourseNo) (s : State) : State :=
  { s with course := { s.course with clock := 72299, schedule := [⟨c, 72300⟩, ⟨c, 72301⟩] } }

theorem witness_Fire :
    let armed := after (.assign [1, 3, 0]) ready0
    let done := withBoard [{ recIn 3 .released with releaseOrder := some 0 }] (up 20 .joined)
    (up 0 .monitor).isUp ∧ armed.isUp ∧ done.isUp ∧ (fullBoard ready0).isUp ∧
      (byteAt [0] 0 = 0 ∧ 15 < byteAt [16] 0 ∧ byteAt [3] 0 = ((3 : CourseNo) : Nat) ∧ done.isReleased 3 = true ∧
        armed.isReleased 3 = false ∧ (fullBoard ready0).canHaveRec 3 = false ∧ armed.canHaveRec 3 = true ∧
        armed.prog.runs[0].state = .armed ∧ armed.prog.runs[0].course = 3 ∧ armed.hasFired 3 = false ∧
        (∃ st ∈ armed.prog.runs[0].body.stages, st.kind = .hold) ∧
        State.hasFired (withBoard [recIn 3 .fired] ready0) 3 = true ∧ armed.load.applied ≤ armed.declaredQ) ∧
      ((due 3 ready0).inReset = false ∧ (due 3 ready0).course.schedule[1]? = some ⟨3, 72301⟩ ∧
        (due 3 ready0).course.schedule[2]? = none ∧ (due 3 ready0).course.schedule[0]? = some ⟨3, 72300⟩ ∧
        72300 = ((due 3 ready0).course.clock + 1) % 86400 ∧ (due 3 ready0).port.configured = true ∧ (3 : CourseNo) ≠ 0 ∧
        (due 3 (up 0 .monitor)).bus.link.bars = true ∧ (due 3 (fullBoard ready0)).canHaveRec 3 = false ∧
        (due 3 ready0).canHaveRec 3 = true ∧ (due 3 ready0).isReleased 3 = false) :=
  ⟨⟨rfl, rfl⟩, ⟨by decide +kernel, by decide +kernel⟩, ⟨rfl, rfl⟩, ⟨rfl, rfl⟩, by decide +kernel, by decide +kernel⟩

theorem witness_Release :
    served.isUp ∧ (up 0 .monitor).isUp ∧ BoardSafe served ∧ BoardSafe (withBoard [recIn 3 .fired] (up 20 .joined)) ∧
      ((up 0 .monitor).bus.link.bars = true ∧ served.isPass = true ∧ served.bus.link.bars = false ∧ byteAt [0, 0] 0 = 0 ∧
        15 < byteAt [16, 0] 0 ∧ served.recOf 4 = none ∧ (served.recOf 3).map (·.state) = some .ready ∧
        (served.recOf 3).map (·.clearDelay) = some 10 ∧
        (State.recOf (withBoard [recIn 3 .fired] (up 20 .joined)) 3).map (·.state) = some .fired ∧
        byteAt [3, 0] 1 = 0 ∧ byteAt [3, 1] 1 ≠ 0) :=
  ⟨⟨rfl, rfl⟩, ⟨rfl, rfl⟩, board_served, by constructor <;> decide +kernel, by decide +kernel⟩

/-- 255 quanta and 256; a notice from station 0, one for course 16, one for course 15; a hold of 1 s. -/
theorem witness_HoldRequests :
    let n (st : Station) (c : Byte) : Notice := { sender := st, seq := 1, body := .hold c 10 }
    let last := withBoard [{ recIn 3 .held with hold := 1 }] (up 20 .joined)
    served.isUp ∧ (up 0 .monitor).isUp ∧
      (byteAt [16, 0, 0] 0 > 15 ∧ 255 < wordAt [3, 1, 0] 1 ∧ wordAt [3, 0, 255] 1 ≤ 255 ∧ (up 0 .monitor).bus.link.bars = true ∧
        served.bus.link.bars = false ∧ (served.recOf 3).map (·.state) = some .ready) ∧
      served.takesNotice (n 0 3) ∧ served.takesNotice (n 5 16) ∧ served.takesNotice (n 5 3) ∧ served.takesNotice (n 5 15) ∧
      (served.recOf 15 = none ∧ (15 : Byte).toNat = ((15 : CourseNo) : Nat)) ∧
      (last.inReset = false ∧ (last.recOf 3).map (fun r => (r.state, r.hold)) = some (.held, 1) ∧
        (served.recOf 3).map (·.hold) = some 0) :=
  ⟨⟨rfl, rfl⟩, ⟨rfl, rfl⟩, by decide +kernel, ⟨rfl, rfl, rfl, by decide, rfl⟩, ⟨rfl, rfl, rfl, by decide, rfl⟩, ⟨rfl, rfl, rfl, by decide, rfl⟩, ⟨rfl, rfl, rfl, by decide, rfl⟩, by decide +kernel,
    by decide +kernel⟩

/-- A HELD record at its last second that is then ready, by itself and at a PASS station with auto-release; one that is not ready; an
OPEN one; a RELEASED one. -/
theorem witness_HoldRequests_expiry :
    let m (st : Standing) : Member := { station := 5, standing := st, warm := 0, fireSeen := true }
    let r (st : Standing) : CourseRec := { recIn 3 .held with hold := 1, members := [m st] }
    let s (x : CourseRec) := withBoard [x] (up 20 .joined)
    (s (r .ready)).inReset = false ∧ (s (r .ready)).recOf 3 = some (r .ready) ∧ (r .ready).readyRaised = false ∧
      (r .ready).auto = false ∧ CourseRec.meetsReady { r .ready with hold := 0 } ∧
      ¬ CourseRec.meetsReady { r .late with hold := 0 } ∧ (s { r .ready with auto := true }).isPass = true ∧
      ((s { recIn 3 .opened with hold := 1 }).recOf 3).map (fun r => (r.state, r.hold)) = some (.opened, 1) ∧
      (s { r .ready with hold := 2 }).recOf 3 = some { r .ready with hold := 2 } :=
  ⟨rfl, rfl, rfl, rfl, by unfold CourseRec.meetsReady; decide +kernel, by unfold CourseRec.meetsReady; decide +kernel, rfl,
    by decide +kernel, rfl⟩

/-- A run at its heat limit whose course's record has the own entry FIRING: the tick makes it LATE. -/
theorem witness_HoldRequests_late :
    let own : Member := { station := 3, standing := .firing, warm := 0, fireSeen := true }
    let b := withBoard [{ recIn 3 .fired with members := [own] }] <|
      withRun 0 { runOn .heating 3 (cookProgram 230 60) 0 with elapsed := 600 } (withZone 0 (zoneAt 80 20 0 190) (up 3 .joined))
    let s : State := { b with prog := { b.prog with given := b.prog.given.set 3 (some (.firing, 0)) } }
    let run := s.prog.runs[0]
    let ticked : State := { s with prog := { s.prog with
      runs := s.prog.runs.set 0 { run with elapsed := min 7200 (run.elapsed + 1), late := true } } }
    s.inReset = false ∧ BoardSafe s ∧
      (run.state = .heating ∧ run.late = false ∧ run.body.heatLimit < run.elapsed + 1 ∧ run.course ≠ 0 ∧
        s.recOf run.course = some { recIn 3 .fired with members := [own] } ∧
        s.prog.given[run.course] = some (.firing, 0) ∧ own.standing ≠ .late ∧
        (ticked.report run.course).map (·.1) = some .late ∧ s.bus.link.sends = true ∧ s.bus.queue.length ≤ 4 ∧
        (∀ c : CourseNo, c ≠ run.course → s.report c = s.prog.given[c]) ∧ 0 < s.course.lateQuanta) :=
  ⟨rfl, by constructor <;> decide +kernel, by decide +kernel⟩

theorem witness_CourseHeard :
    let n (st : Station) (c m : Byte) : Notice := { sender := st, seq := 1, body := .course c m true 0 (some 4001) (some 5) }
    let done := withBoard [{ recIn 3 .released with releaseOrder := some 0 }] (up 20 .joined)
    served.takesNotice (n 5 16 1) ∧ served.takesNotice (n 5 15 9) ∧ done.takesNotice (n 5 3 8) ∧
      (fullBoard served).takesNotice (n 5 3 7) ∧
      (15 < (16 : Byte).toNat ∧ 8 < (9 : Byte).toNat ∧ served.recOf 15 = none ∧ done.isReleased 3 = true ∧
        (fullBoard served).recOf 3 = none ∧ (fullBoard served).boardHasRoom = false ∧
        (served.recOf 3).map (·.state) = some .ready ∧ served.isReleased 3 = false ∧ served.canHaveRec 3 = true ∧
        served.canHaveRec 15 = true ∧ served.isMemberPeer 5 = true ∧ Standing.ofCode (1 : Byte).toNat = some .armed ∧
        Standing.ofCode (5 : Byte).toNat = some .fault ∧ (4001 : Half) ≠ 0) :=
  ⟨⟨rfl, rfl, rfl, by decide, rfl⟩, ⟨rfl, rfl, rfl, by decide, rfl⟩, ⟨rfl, rfl, rfl, by decide, rfl⟩, ⟨rfl, rfl, rfl, by decide, rfl⟩, by decide +kernel⟩

/-- A RELEASED record at a PASS station and a member still ARMED; a RELEASE for a record that is not RELEASED; a sender outside the
peer table; a RELEASE and a WITHDRAWN for no record. -/
theorem witness_CourseHeard_released :
    let n (st : Station) (m : Byte) : Notice := { sender := st, seq := 1, body := .course 3 m false 0 none none }
    let done := withBoard [{ recIn 3 .released with releaseOrder := some 0 }] (up 20 .joined)
    let plain : State := { done with port := { done.port with straps := { done.port.straps with pass := false } } }
    done.takesNotice (n 5 1) ∧ plain.takesNotice (n 5 1) ∧ served.takesNotice (n 0 8) ∧ served.takesNotice (n 9 5) ∧
      (up 3 .joined).takesNotice (n 5 6) ∧ BoardSafe served ∧
      (done.recOf 3 = some { recIn 3 .released with releaseOrder := some 0 } ∧ done.isPass = true ∧ plain.isPass = false ∧
        plain.isReleased 3 = true ∧ done.bus.link.sends = true ∧ done.bus.queue.length < 12 ∧ (served.recOf 3).isSome = true ∧
        served.isReleased 3 = false ∧ served.isMemberPeer 9 = false ∧ served.isMemberPeer 5 = true ∧ (up 3 .joined).recOf 3 = none) :=
  ⟨⟨rfl, rfl, rfl, by decide, rfl⟩, ⟨rfl, rfl, rfl, by decide, rfl⟩, ⟨rfl, rfl, rfl, by decide, rfl⟩, ⟨rfl, rfl, rfl, by decide, rfl⟩,
    ⟨rfl, rfl, rfl, by decide, rfl⟩, board_served, by decide +kernel⟩

theorem witness_CourseMoments :
    let s := withBoard [{ recIn 3 .released with releaseAge := 299, releaseOrder := some 0 }, { recIn 4 .opened with repeatCount := 3 },
      { recIn 5 .released with releaseAge := 298, releaseOrder := some 1 }, { recIn 6 .opened with repeatCount := 2 }] (up 20 .joined)
    let t : State := { s with course := { s.course with clearing := [⟨3, 1, 10⟩, ⟨4, 2, 10⟩] } }
    t.inReset = false ∧ (t.recOf 3).map (·.releaseAge) = some 299 ∧ (t.recOf 5).map (·.releaseAge) = some 298 ∧
      (t.recOf 4).map t.involved = some true ∧ (t.recOf 4).map (·.repeatCount) = some 3 ∧
      (t.recOf 6).map (·.repeatCount) = some 2 ∧ t.course.clearing.find? (fun e => e.course == 3) = some ⟨3, 1, 10⟩ ∧
      t.course.clearing.find? (fun e => e.course == 4) = some ⟨4, 2, 10⟩ := by decide +kernel

theorem witness_ServiceClockTick :
    let s := withRun 0 { runOn .heating 3 (cookProgram 230 60) 0 with elapsed := 600 } <|
      withRun 1 { runOn .holding 3 (cookProgram 230 60) 2 with holdElapsed := 1200 } <|
      withZone 0 (zoneAt 80 20 0 190) <| withZone 1 (zoneAt 80 20 0 230) <|
      withPages [pageIn 37 1 5 .sent 2, pageIn 38 1 5 .deferred 119] station6
    s.inReset = false ∧ PagesSafe s ∧ BoardSafe s ∧
      (s.prog.runs[0].state = .heating ∧ (after .serviceClockTick s).prog.runs[0].state = .heating ∧
        s.prog.runs[0].body.heatLimit < s.prog.runs[0].elapsed + 1) ∧
      (s.prog.runs[1].state = .holding ∧ (after .serviceClockTick s).prog.runs[1].state = .holding ∧
        s.prog.runs[1].body.holdLimit < s.prog.runs[1].holdElapsed + 1) :=
  ⟨rfl, by constructor <;> decide +kernel, by constructor <;> decide +kernel, by decide +kernel, by decide +kernel⟩

/-- Records with a hold of 2 s, with a late hold at its half, RELEASED for 298 s and for 299; clearing entries of 2 s and of 1; a TIMED
stage that goes on; a dwell at its limit; no entry due, and no auto-release record. -/
theorem witness_ServiceClockTick_quiet :
    let late : Member := { station := 9, standing := .late, warm := 0, fireSeen := true }
    let recs := [{ recIn 3 .held with hold := 2, repeatCount := 3 }, { recIn 4 .held with hold := 61, members := [late] },
      { recIn 5 .released with releaseAge := 298, releaseOrder := some 0 },
      { recIn 6 .released with releaseAge := 299, releaseOrder := some 1 }]
    let b := withRacks [rack 440 true (some 84) (some .clean) 240] 441 <|
      withRun 0 { runOn .cooking 0 (cookProgram 230 60) 1 with elapsed := 58 } (withBoard recs (dish 85))
    let s : State := { b with
      course := { b.course with clearing := [⟨7, 2, 10⟩, ⟨8, 1, 10⟩], schedule := [⟨3, 72300⟩] }
      ware := { b.ware with repeatCount := 9 } }
    s.inReset = false ∧ PagesSafe s ∧ BoardSafe s ∧
      ((∀ e ∈ s.course.schedule, e.time ≠ (s.course.clock + 1) % 86400) ∧ (∀ r ∈ s.course.board, r.auto = false) ∧
        s.course.lateQuanta * 2 + 1 = 61 ∧ (s.recOf 4).map (fun r => (r.member s.own).map (·.standing)) = some (some .late) ∧
        (s.recOf 3).map (fun r => (s.involved r, (r.member s.own).isNone)) = some (true, true) ∧ s.bus.link.takesEvents = true ∧
        (after .serviceClockTick s).prog.runs[0].state = .cooking ∧ (after .serviceClockTick s).prog.runs[0].stage = 1 ∧
        s.ware.conveyor = .running ∧ s.ware.maxDwell < min 65535 (240 + 1) ∧ s.wareActive = true ∧ s.bus.link.sends = true ∧
        s.bus.queue.length + s.page.pages.length ≤ 3 ∧
        (s.recOf 3).map (fun r => (r.member s.own).map fun m => (m.standing, m.warm)) =
          ((after .serviceClockTick s).recOf 3).map (fun r => (r.member s.own).map fun m => (m.standing, m.warm))) :=
  ⟨rfl, by constructor <;> decide +kernel, by constructor <;> decide +kernel, by decide +kernel⟩

/-- 3.9's tables: case 3 with and without units unspent, case 2, and a total that fits at its edge. -/
theorem witness_GrantCases :
    let a := rows4 (180, 0, 4) (150, 0, 4) (160, 90, 2) (20, 0, 1)
    let b := rows4 (200, 150, 4) (180, 150, 4) (160, 130, 2) (20, 0, 1)
    (∀ r ∈ a, r.f ≤ r.q ∧ 1 ≤ r.w) ∧ (∀ r ∈ b, r.f ≤ r.q ∧ 1 ≤ r.w) ∧ ((a.map (·.q)).sum ≤ 510) ∧ (400 < (a.map (·.q)).sum) ∧
      (a.map (·.f)).sum < 400 ∧ 400 ≤ (b.map (·.f)).sum ∧ 400 < (b.map (·.q)).sum := by decide +kernel

theorem witness_LoadPeriodExpiry :
    let s := withPeers [{ peer 5 150 0 4 with heard := true }, { peer 12 20 0 1 with missed := 2 }] (up 3 .joined)
    let l : State := withPeers [peer 5 150 0 4] { (up 3 .listen) with load := { (up 3 .listen).load with listenCount := 2 } }
    s.inReset = false ∧ TablesSafe s ∧ BoardSafe s ∧ l.inReset = false ∧ TablesSafe l ∧ BoardSafe l ∧
      (l.bus.link = .listen ∧ l.load.listenCount = 2 ∧ s.load.clashHeard = false ∧ (after .loadPeriodExpiry s).bus.link = .joined ∧
        s.bus.queue.length + (s.page.pages.filter fun p => p.state = .deferred).length ≤ 6) :=
  ⟨rfl, by constructor <;> decide +kernel, by constructor <;> decide +kernel, rfl, by constructor <;> decide +kernel,
    by constructor <;> decide +kernel, by decide +kernel⟩

/-- No peer lost and no move of the link, with a grant below the floors: the station is curtailed, and its LOAD waits. -/
theorem witness_LoadPeriodExpiry_calm :
    let s := withPeers [{ peer 5 150 150 15 with heard := true }, peer 12 2040 2040 15] <|
      withRun 0 (runOn .heating 3 (cookProgram 230 60) 0) (withZone 0 (zoneAt 80 20 80 190) (up 3 .joined))
    s.inReset = false ∧ TablesSafe s ∧ BoardSafe s ∧
      ((∀ p ∈ s.load.peers, p.heard = true ∨ p.missed < 2) ∧ ¬ (s.bus.link = .listen ∧ 2 ≤ s.load.listenCount) ∧
        s.load.curtailed = false ∧ (after .loadPeriodExpiry s).load.curtailed = true ∧ s.bus.link.takesEvents = true ∧
        (after .loadPeriodExpiry s).bus.link.sends = true ∧
        s.bus.queue.length + (s.page.pages.filter fun p => p.state = .deferred).length ≤ 6) :=
  ⟨rfl, by constructor <;> decide +kernel, by constructor <;> decide +kernel, by decide +kernel⟩

/-- A LOAD heard whose L differs where no entry's did. -/
theorem witness_LoadHeard_mismatch :
    let s := withPeers [peer 5 150 0 4, peer 12 20 0 1] (up 3 .joined)
    s.takesNotice { sender := 12, seq := 1, body := .load 150 0 4 0 400 } ∧
      (s.port.configured = true ∧ s.load.mismatch = false ∧
        (after (.loadHeard 12 1 150 0 4 0 400) s).load.peers.map (fun p => (p.station, p.l)) = [(5, 420)] ++ (12, 400) :: [] ∧
        s.load.limit = 420 ∧ s.load.peers ≠ []) := ⟨⟨rfl, rfl, rfl, by decide, rfl⟩, by decide +kernel⟩

/-- Every station but 3 and 0. -/
def allPeers : List Peer := (((List.range 32).map (Fin.ofNat 32)).filter fun st => st != 0 && st != 3 && st != 31).map fun st => peer st 0 0 1

theorem witness_LoadHeard :
    let n (st : Station) : Notice := { sender := st, seq := 1, body := .load 150 0 4 0 420 }
    let clash : State := { (up 3 .joined) with load := { (up 3 .joined).load with clash := true } }
    let full := withPeers (allPeers ++ [peer 31 0 0 1]) (up 3 .joined)
    let l : State := { (up 3 .listen) with load := { (up 3 .listen).load with listenCount := 2 } }
    (up 3 .alone).takesNotice (n 0) ∧ (up 3 .alone).takesNotice (n 3) ∧ clash.takesNotice (n 3) ∧ (up 3 .alone).takesNotice (n 5) ∧
      (withPeers allPeers (up 3 .joined)).takesNotice (n 31) ∧ full.takesNotice (n 5) ∧
      ((up 3 .joined).load.clash = false ∧ (up 3 .alone).load.peers = [] ∧ allPeers.length = 29 ∧
        full.load.peers.any (fun p => p.station == 5) = true ∧ l.bus.link = .listen ∧ l.inReset = false ∧
        (up 3 .joined).bus.link ≠ .listen) :=
  ⟨⟨rfl, rfl, rfl, by decide, rfl⟩, ⟨rfl, rfl, rfl, by decide, rfl⟩, ⟨rfl, rfl, rfl, by decide, rfl⟩, ⟨rfl, rfl, rfl, by decide, rfl⟩, ⟨rfl, rfl, rfl, by decide, rfl⟩, ⟨rfl, rfl, rfl, by decide, rfl⟩, by decide +kernel⟩

/-- A table of 30 stations that lacks the sender: a monitor station, whose own number is 0, with 30 others of the 31. -/
theorem witness_LoadHeard_full :
    let s := withPeers (allPeers ++ [peer 3 0 0 1]) (up 0 .monitor)
    let n : Notice := { sender := 31, seq := 1, body := .load 150 0 4 0 420 }
    s.takesNotice n ∧ (s.load.peers.length = 30 ∧ s.load.peers.any (fun p => p.station == 31) = false ∧ (31 : Station) ≠ s.own) :=
  ⟨⟨rfl, rfl, rfl, by decide, rfl⟩, by decide +kernel⟩

theorem witness_PeersLost :
    let n (st : Station) : Notice := { sender := st, seq := 1, body := .leave }
    let old := withPeers [{ peer 12 20 0 1 with missed := 2 }] (up 3 .joined)
    let wash : State := { (up 3 .joined) with ware := { (up 3 .joined).ware with wash := [⟨9, 20, .running, 29⟩] } }
    served.takesNotice (n 5) ∧ served.takesNotice (n 6) ∧ BoardSafe served ∧ BoardSafe old ∧ old.inReset = false ∧
      (served.load.peers.any (fun p => p.station == 5) = true ∧ served.load.peers.any (fun p => p.station == 6) = false ∧
        old.load.peers.any (fun p => p.station == 12 && !p.heard && 2 ≤ p.missed) = true ∧
        wash.ware.wash.any (fun e => e.station == 9 && 29 ≤ e.age) = true ∧ wash.ware.levelHigh = false) :=
  ⟨⟨rfl, rfl, rfl, by decide, rfl⟩, ⟨rfl, rfl, rfl, by decide, rfl⟩, board_served, by constructor <;> decide +kernel, rfl, by decide +kernel⟩

theorem witness_Access :
    let s (a : Access) : State := withQueue [entry 1 (.load 0 0 1 0 420), entry 2 (.hold 3 30)] a (up 9 .joined)
    (s .deferred).inReset = false ∧ (s .deferred).bus.access = .deferred ∧ (s .sending).bus.access = .sending ∧
      (s .backoff).bus.access = .backoff ∧ TxSafe (s .gap) ∧ headOf (s .gap).bus.queue = some (entry 2 (.hold 3 30)) ∧
      headOf (up 9 .joined).bus.queue = none :=
  ⟨rfl, rfl, rfl, rfl, by constructor <;> decide +kernel, by decide +kernel, rfl⟩

/-- A PAGE on the line that its page awaits; a LEAVE; an orphan; attempts 6 and 7; the head at the deferral limit. -/
theorem witness_TransmissionEnds :
    let one (e : TxEntry) : State := withQueue [{ e with onLine := true }] .sending (up 9 .joined)
    let p := withPages [{ pageIn 37 1 5 .queued 0 with current := some 1 }] (one (entry 1 (.page 37 0 1 5 3 2)))
    let d (ms : Nat) := withQueue [{ entry 1 (.hold 3 30) with waitMs := ms }] .deferred (up 9 .joined)
    TxSafe (one (entry 1 .leave)) ∧ TxSafe { (one { entry 1 (.hold 3 30) with orphan := true }) with inReset := false } ∧
      TxSafe (one { entry 1 (.hold 3 30) with attempts := 6 }) ∧ TxSafe (one { entry 1 (.hold 3 30) with attempts := 7 }) ∧
      TxSafe p ∧ PagesSafe p ∧ TxSafe (d 499) ∧
      ((one (entry 1 .leave)).inReset = false ∧ (onLineOf p.bus.queue).map (·.id) = some 1 ∧
        (p.page.pages.find? fun q => q.current == some 1).map (·.number) = some 37 ∧ (d 499).bus.access.waits = true ∧
        headOf (d 499).bus.queue = some { entry 1 (.hold 3 30) with waitMs := 499 } ∧
        (headOf (d 498).bus.queue).map (·.waitMs) = some 498 ∧ (up 9 .joined).bus.access ≠ .sending ∧
        (up 9 .joined).bus.access.waits = false) := by
  refine ⟨?_, ?_, ?_, ?_, ?_, ?_, ?_, by decide +kernel⟩ <;> constructor <;> decide +kernel

/-- 32 bytes and 33; a bad check; an unknown kind; a good notice; a repeat within its second. -/
theorem witness_Receiver :
    let n : Notice := { sender := 5, seq := 41, body := .hold 3 10 }
    let s := after (.holdHeard 5 41 3 10) (up 3 .joined)
    (up 3 .joined).inReset = false ∧ (up 3 .left).bus.link.hears = false ∧ (up 3 .joined).bus.link.hears = true ∧
      32 < (List.replicate 33 (0 : Byte)).length ∧ receive [1, 12, 7, 0, 0] = .badCheck ∧
      receive ([8, 1, 0] ++ bytes16 (crc16 [8, 1, 0])) = .unknownKind ∧ receive n.bytes = .good n ∧
      (s.bus.repeats[(5 : Station)].map fun r => (r.seq, decide (r.check = n.check), r.recent)) = some (41, true, true) ∧
      ((up 3 .joined).isRepeat n = false) ∧ (after .lineBusy (up 3 .left)).bus.startMissed = true ∧
      (up 3 .joined).bus.startMissed = false ∧
      State.inReset (withQueue [{ entry 1 (.load 0 0 1 0 420) with onLine := true }] .sending (up 3 .joined)) = false := by decide +kernel

theorem witness_WareCommands :
    let faulty : State := { (dish 85) with ware := { (dish 85).ware with conveyor := .fault } }
    let plain : State := { (dish 85) with port := { (dish 85).port with straps := { (dish 85).port.straps with conveyor := false } } }
    (dish 85).isUp ∧ (up 9 .left).isUp ∧ faulty.isUp ∧ plain.isUp ∧
      ((dish 85).isConveyor = true ∧ (dish 85).bus.link ≠ .left ∧ (up 9 .left).bus.link = .left ∧ faulty.ware.conveyor = .fault ∧
        (dish 85).ware.conveyor ≠ .fault ∧ plain.isConveyor = false ∧ ([] : List Byte).length = 0 ∧
        ([1, 3, 232] : List Byte).length = 3) :=
  ⟨⟨rfl, rfl⟩, ⟨rfl, rfl⟩, ⟨rfl, rfl⟩, ⟨rfl, rfl⟩, by decide +kernel⟩

/-- 23 racks and 24; a LOADED rack after a RINSED one; none LOADED; a CLEAN, a REWASH and a LOADED rack at the exit; none. -/
theorem witness_RackEdges :
    let many (n : Nat) := withRacks (List.replicate n (rack 1 false none none 0)) 25 (dish 85)
    let mixed := withRacks [rack 417 true (some 84) (some .clean) 0, rack 418 false none none 0] 419 (dish 85)
    (many 23).inReset = false ∧ (many 23).wareActive = true ∧ (up 9 .left).wareActive = false ∧ (many 23).ware.racks.length < 24 ∧
      24 ≤ (many 24).ware.racks.length ∧
      mixed.ware.racks = [rack 417 true (some 84) (some .clean) 0] ++ rack 418 false none none 0 :: [] ∧
      (∀ x ∈ (many 0).ware.racks, x.rinsed = true) ∧ (many 0).ware.racks = [] ∧
      (withRacks [rack 418 true (some 81) (some .rewash) 0] 419 (dish 85)).ware.racks = [rack 418 true (some 81) (some .rewash) 0] := by
  decide +kernel

theorem witness_WareMoments :
    let late := withRacks [rack 440 true (some 84) (some .clean) 240] 441 (dish 85)
    let again : State := { (dish 85) with ware := { (dish 85).ware with repeatCount := 9 } }
    let n (st : Station) (l c : Byte) : Notice := { sender := st, seq := 1, body := .ware l 1000 c }
    let four : State := { (up 3 .joined) with ware := { (up 3 .joined).ware with
      wash := [⟨5, 20, .running, 0⟩, ⟨6, 20, .running, 0⟩, ⟨7, 20, .running, 0⟩, ⟨8, 20, .running, 0⟩] } }
    (late.inReset = false ∧ late.ware.conveyor = .running ∧ late.ware.racks.map (·.running) = [240] ∧ late.ware.maxDwell = 240 ∧
      (dish 85).ware.racks = [] ∧ again.wareActive = true ∧ again.bus.link.sends = true ∧ 9 ≤ again.ware.repeatCount ∧
      (dish 85).ware.repeatCount = 0) ∧
      (up 3 .joined).takesNotice (n 0 1 2) ∧ (up 3 .joined).takesNotice (n 9 2 2) ∧ (up 3 .joined).takesNotice (n 9 1 4) ∧
      (up 3 .joined).takesNotice (n 9 1 3) ∧ four.takesNotice (n 9 1 3) ∧
      (four.ware.wash.filter (fun e => e.station != 9) = four.ware.wash ∧ 4 ≤ four.ware.wash.length) :=
  ⟨by decide +kernel, ⟨rfl, rfl, rfl, by decide, rfl⟩, ⟨rfl, rfl, rfl, by decide, rfl⟩, ⟨rfl, rfl, rfl, by decide, rfl⟩, ⟨rfl, rfl, rfl, by decide, rfl⟩, ⟨rfl, rfl, rfl, by decide, rfl⟩, by decide +kernel⟩

/-- Each index and field at the last value in range and the first out of it. -/
theorem witness_TableWrites :
    station6.inReset = false ∧ station6.port.configured = true ∧
      (31 < byteAt [32, 0, 0, 0, 0, 0, 0, 0, 0, 0] 0 ∧ byteAt [31, 4, 7, 3, 0, 0, 0, 1, 31, 7] 0 = ((31 : Fin 32) : Nat) ∧
        4 < byteAt [31, 5, 7, 3, 0, 0, 0, 1, 31, 7] 1 ∧ byteAt [31, 1, 7, 3, 0, 0, 3, 0, 31, 9] 8 ≤ 31 ∧
        31 < byteAt [31, 1, 7, 3, 0, 0, 3, 0, 32, 9] 8 ∧ byteAt [31, 1, 7, 3, 0, 0, 3, 1, 32, 9] 7 = 1) ∧
      (31 < byteAt [31, 32, 0] 1 ∧ byteAt [31, 31, 0] 1 = ((31 : GroupNo) : Nat) ∧ station6.page.groups[(31 : GroupNo)].onDuty = true) ∧
      (31 < byteAt [32, 0] 0 ∧ byteAt [31, 0] 0 = ((31 : GroupNo) : Nat)) ∧
      (3 < byteAt [4, 0, 0, 1] 0 ∧ byteAt [3, 31, 31, 1] 0 = ((3 : Fin 4) : Nat) ∧ byteAt [3, 31, 31, 1] 1 ≤ 31) := by decide +kernel

/-- A group put off duty with a page below priority 7 and one at it QUEUED, and one put on duty with a page WAITING. -/
theorem witness_TableWrites_duty :
    let off := after (.duty [31, 0]) station6
    PagesSafe (withPages [pageIn 37 31 6 .queued 0, pageIn 38 31 7 .queued 0] station6) ∧
      PagesSafe (withPages [pageIn 37 31 6 .waiting 0] off) ∧ off.page.groups[(31 : GroupNo)].onDuty = false ∧
      (byteAt [31, 31, 0] 2 != 0) ≠ station6.page.groups[(31 : GroupNo)].onDuty := by
  refine ⟨?_, ?_, by decide +kernel, by decide +kernel⟩ <;> constructor <;> decide +kernel

theorem witness_Events :
    let s (e : Option Evaluation) (q : List Event) : State :=
      { (up 9 .joined) with route := { (up 9 .joined).route with evaluation := e, events := q } }
    let ev (k : EventKind) : Evaluation := { event := event k 0 3, rules := rules77, hour := 21, backlogHigh := false }
    let no (k : EventKind) : Evaluation :=
      { event := event k 0 3, rules := Vector.replicate 32 Rule.blank, hour := 21, backlogHigh := false }
    (s none [event .curtailed 0 1]).inReset = false ∧ (s (some (ev .numberClash)) []).route.evaluation.isSome = true ∧
      (s none []).route.events = [] ∧ ((ev .numberClash).decided.map (·.reject)) = some false ∧
      (({ (ev .clearCall) with event := event .clearCall 3 10, hour := 15 } : Evaluation).decided.map (·.reject)) = some true ∧
      (no .rinseFail).decided = none ∧ (no .rinseFail).event.kind.severity = 3 ∧ (no .curtailed).decided = none ∧
      (no .curtailed).event.kind.severity ≠ 3 ∧ ∀ i : Fin 32, (no .curtailed).rules[i].type = .empty := by decide +kernel

/-- 7.7's rules 2 and 3: a lead-in and its test; a chain of two tests, met and not; a cluster's OPEN and CLOSE. -/
theorem witness_Events_reading :
    let e : Evaluation := { event := event .clearCall 3 10, rules := rules77, hour := 21, backlogHigh := false }
    let st : Reading := { mask := 0xffff, start := 0xffff, saved := none, mode := .reading }
    let lead := [{ Rule.blank with type := .setMask, value := 0xfffc }]
    let test (v : Half) (more : Bool) : Rule := { Rule.blank with type := .test, property := .course, value := v, andFlag := more }
    st.mode = .reading ∧ (∀ r ∈ lead, r.type = .setMask) ∧ (∀ r ∈ [test 0 true], r.type = .test ∧ r.andFlag = true) ∧
      (test 0 false).type = .test ∧ (∀ r ∈ [test 0 true] ++ [test 0 false], r.passes e 0xfffc = true) ∧
      ¬ (∀ r ∈ [test 0 true] ++ [test 3 false], r.passes e 0xfffc = true) ∧ (rules77[(2 : Fin 32)]).type = .opens ∧
      (rules77[(10 : Fin 32)]).type = .closes := by decide +kernel

/-- The full page queue of 8.8, with 16 pages not SENT below priority 3. -/
def pages16 (pr : Nat) : State := withPages ((List.range 16).map fun i => pageIn (i + 1) 1 pr .queued 0) station6

theorem witness_PageRequests :
    PagesSafe station6 ∧ PagesSafe (pages16 2) ∧ PagesSafe (pages16 7) ∧ station6.isUp ∧ (pages16 2).isUp ∧ (up 9 .left).isUp ∧
      (31 < byteAt [32, 5, 3, 2, 0] 0 ∧ 15 < byteAt [31, 5, 3, 16, 0] 3 ∧ (up 9 .left).bus.link = .left ∧
        station6.page.pages.length < 16 ∧ 16 ≤ (pages16 2).page.pages.length ∧
        (∀ x ∈ (pages16 2).page.pages, ¬ (x.group.val = 31 ∧ x.code = 3 ∧ x.course.val = 15)) ∧
        (∃ v ∈ (pages16 2).page.pages, v.state ≠ .sent ∧ v.priority < 3) ∧
        (∀ x ∈ (pages16 7).page.pages, x.state ≠ .sent → 3 ≤ x.priority) ∧
        ∃ x ∈ (pages16 2).page.pages, x.group.val = 1 ∧ x.code = 16 ∧ x.course.val = 0) := by
  refine ⟨?_, ?_, ?_, ⟨rfl, rfl⟩, ⟨rfl, rfl⟩, ⟨rfl, rfl⟩, by decide +kernel⟩ <;> constructor <;> decide +kernel

theorem witness_PageMoments :
    let s := withPages [pageIn 37 1 5 .sent 1, pageIn 38 1 5 .deferred 119] station6
    let t := withPages [pageIn 37 1 5 .sent 2, pageIn 38 1 5 .deferred 118] station6
    let plain : State := { s with port := { s.port with straps := { s.port.straps with radio := false } } }
    let n (o r : Byte) : Notice := { sender := 14, seq := 1, body := .answer o 37 0 212 r }
    s.inReset = false ∧ PagesSafe s ∧ PagesSafe t ∧
      ((s.page.pages.find? fun x => x.number == (37 : Byte).toNat) = some (pageIn 37 1 5 .sent 1) ∧
        (s.page.pages.find? fun x => x.number == (38 : Byte).toNat) = some (pageIn 38 1 5 .deferred 119) ∧
        (s.page.pages.find? fun x => x.number == (39 : Byte).toNat) = none) ∧
      plain.takesNotice (n 6 0) ∧ plain.takesNotice (n 6 1) ∧ plain.takesNotice (n 6 2) ∧ plain.takesNotice (n 7 0) ∧
      plain.relayActive = false :=
  ⟨rfl, by constructor <;> decide +kernel, by constructor <;> decide +kernel, by decide +kernel, ⟨rfl, rfl, rfl, by decide, rfl⟩, ⟨rfl, rfl, rfl, by decide, rfl⟩,
    ⟨rfl, rfl, rfl, by decide, rfl⟩, ⟨rfl, rfl, rfl, by decide, rfl⟩, rfl⟩

/-- Attempt 2; a group that escalates to itself; a page that folds into one already at the group above. -/
theorem witness_PageMoments_escalates :
    let x := { pageIn 37 1 5 .sent 1 with code := 3 }
    let s := withPages [x, { pageIn 38 0 5 .sent 1 with attempt := 2 }, { pageIn 39 2 5 .sent 1 with code := 3 },
      { pageIn 40 0 5 .sent 1 with attempt := 1 }] station6
    s.inReset = false ∧ PagesSafe s ∧
      (s.page.groups[x.group].escalation = 2 ∧ x.attempt ≠ 2 ∧ s.page.groups[(0 : GroupNo)].escalation = 0 ∧
        ∃ y ∈ s.page.pages.filter (fun y => y.number != 37), y.group = 2 ∧ y.code = x.code ∧ y.course = x.course) :=
  ⟨rfl, by constructor <;> decide +kernel, by decide +kernel⟩

theorem witness_RadioRelay :
    let s := after .transmitSent (after (.pageHeard 9 1 53 0 20 7 13 0) station14)
    let r := after .transmitSent (after .completionTimeout s)
    let n (g p : Byte) : Notice := { sender := 9, seq := 2, body := .page 54 2 g p 13 15 }
    let a : Notice := { sender := 9, seq := 3, body := .answer 31 53 0 40 1 }
    s.inReset = false ∧ RelaySafe s ∧ RelaySafe r ∧
      (([3, 0, 40, 9, 53, 0, 0, 150] : List Byte).foldl (· + ·) (0 : Byte) ≠ 0 ∧ s.relayActive = true ∧ s.relay.exchange = .first ∧
        s.relay.key = some { origin := 9, number := 53, attempt := 0 } ∧ s.relay.timerOn = true ∧ r.relay.exchange = .retry ∧
        r.relay.timerOn = true ∧ station14.relay.timerOn = false ∧ (up 14 .left).relayActive = false ∧
        s.relay.covered (Fin.ofNat 32 31) = true ∧ (up 14 .joined).relay.covered 31 = false ∧ s.relay.list.length < 8) ∧
      s.takesNotice (n 31 7) ∧ s.takesNotice (n 32 7) ∧ s.takesNotice (n 31 8) ∧ s.takesNotice a ∧
      ((1023 : Half).toNat ≤ 1023 ∧ ¬ (1024 : Half).toNat ≤ 1023 ∧ (31 : Byte).toNat ≠ s.own.val) := by
  refine ⟨rfl, ?_, ?_, by decide +kernel, ⟨rfl, rfl, by decide, by decide +kernel⟩, ⟨rfl, rfl, by decide, by decide +kernel⟩, ⟨rfl, rfl, by decide, by decide +kernel⟩,
    ⟨rfl, rfl, by decide, by decide +kernel⟩, by decide +kernel⟩ <;> constructor <;> decide +kernel

/-- An own page on the line that its page awaits, at an active relay that covers its group, beside a relay list; a REPLY of it. -/
theorem witness_RadioRelay_own :
    let p := { pageIn 37 20 5 .queued 0 with current := some 1 }
    let s := withPages [p] (withQueue [{ entry 1 (.page 37 0 20 5 37 0) with onLine := true }] .sending
      (after (.pageHeard 9 1 53 0 20 7 13 0) station14))
    s.inReset = false ∧ RelaySafe s ∧ PagesSafe s ∧
      (s.bus.access = .sending ∧ (onLineOf s.bus.queue).map (fun e => (e.id, e.orphan)) = some (1, false) ∧
        s.page.pages.find? (fun q => q.current == some 1) = some p ∧ s.relayActive = true ∧ s.relay.covered p.group = true ∧
        (14 : Byte).toNat = s.own.val ∧ 1 ≤ (14 : Byte).toNat ∧ (14 : Byte).toNat ≤ 31 ∧
        State.relayActive { s with bus := { s.bus with link := .left } } = false) :=
  ⟨rfl, by constructor <;> decide +kernel, by constructor <;> decide +kernel, by decide +kernel⟩

end Sys2Proof.Tests
end

/-! SUPPORT. The allotment of R11–R13. One sweep, in closed form, with its sum and its bound; the units that the scaled shares
leave over, which are never more than the shares below their cap; and from these O29. -/

namespace Sys2Proof.Machine

/-! ### One sweep -/

@[simp] theorem sweep_nil (n : Nat) : sweep n [] = [] := rfl

theorem sweep_cons (n : Nat) (p : Nat × Nat) (rest : List (Nat × Nat)) :
    sweep n (p :: rest) =
      if 0 < n ∧ p.1 < p.2 then (p.1 + 1) :: sweep (n - 1) rest else p.1 :: sweep n rest :=
  rfl

/-- A pair whose share is below its cap takes a unit exactly when the pairs before it leave one. -/
theorem sweep_eq_map_zipIdx (n : Nat) (pairs : List (Nat × Nat)) :
    sweep n pairs = pairs.zipIdx.map fun x =>
      if x.1.1 < x.1.2 ∧ ((pairs.take x.2).filter fun y => y.1 < y.2).length < n then x.1.1 + 1 else x.1.1 := by
  induction pairs generalizing n with
  | nil => simp
  | cons p rest ih =>
    rw [sweep_cons, List.zipIdx_cons, List.zipIdx_succ, List.map_cons, List.map_map]
    by_cases hlow : p.1 < p.2
    · by_cases hn : 0 < n
      · have hcount (k : Nat) : k + 1 < n ↔ k < n - 1 := by omega
        simp [hlow, hn, ih (n - 1), Function.comp_def, hcount]
      · obtain rfl := Nat.eq_zero_of_not_pos hn
        simp [ih 0, Function.comp_def]
    · simp [hlow, ih n, Function.comp_def]

/-- A sweep gives all its units if enough shares are below their caps, and one to each of those otherwise. -/
theorem sum_sweep (n : Nat) (pairs : List (Nat × Nat)) :
    (sweep n pairs).sum = (pairs.map (·.1)).sum + min n (pairs.countP fun y => y.1 < y.2) := by
  induction pairs generalizing n with
  | nil => simp
  | cons p rest ih =>
    rw [sweep_cons, List.countP_cons]
    split
    next h => simp [ih, h.2]; omega
    next h =>
      by_cases hlow : p.1 < p.2
      · have hn : n = 0 := by omega
        simp [ih, hn]
      · simp [ih, hlow]; omega

theorem sweep_le_caps (n : Nat) (pairs : List (Nat × Nat)) (h : ∀ p ∈ pairs, p.1 ≤ p.2) :
    ∀ x ∈ (sweep n pairs).zip (pairs.map (·.2)), x.1 ≤ x.2 := by
  induction pairs generalizing n with
  | nil => simp
  | cons p rest ih =>
    obtain ⟨hp, hrest⟩ := List.forall_mem_cons.mp h
    rw [sweep_cons]
    split
    next hlow => exact List.forall_mem_cons.mpr ⟨hlow.2, ih (n - 1) hrest⟩
    next => exact List.forall_mem_cons.mpr ⟨hp, ih n hrest⟩

theorem topUp_eq_sweptOver (total : Nat) (shares caps : List Nat) :
    topUp total shares caps = sweptOver total shares caps :=
  sweep_eq_map_zipIdx _ _

theorem topUp_le_caps (total : Nat) {shares caps : List Nat} (hlen : caps.length ≤ shares.length)
    (h : ∀ x ∈ shares.zip caps, x.1 ≤ x.2) : ∀ x ∈ (topUp total shares caps).zip caps, x.1 ≤ x.2 := by
  have hswept := sweep_le_caps (total - shares.sum) _ h
  rwa [List.map_snd_zip hlen] at hswept

/-! ### What rounding down leaves over -/

theorem mul_sum_div_le (wants : List Nat) (units m : Nat) :
    m * (wants.map fun w => w * units / m).sum ≤ wants.sum * units := by
  induction wants with
  | nil => simp
  | cons w rest ih =>
    have hw : m * (w * units / m) ≤ w * units := Nat.mul_div_le _ _
    rw [List.map_cons, List.sum_cons, List.sum_cons, Nat.mul_add, Nat.add_mul]
    exact Nat.add_le_add hw ih

/-- Where rounding takes something off a want's part, the part is below the want and a unit makes it up. -/
theorem mul_units_le_mul_div_add {units m : Nat} (hm : 0 < m) (hle : units ≤ m) (w : Nat) :
    w * units ≤ m * (w * units / m + if w * units / m < w then 1 else 0) := by
  split
  next => exact (Nat.lt_mul_div_succ _ hm).le
  next h =>
    calc w * units ≤ m * w := by rw [Nat.mul_comm m]; exact Nat.mul_le_mul_left w hle
      _ ≤ m * (w * units / m + 0) := Nat.mul_le_mul_left m (Nat.le_of_not_lt h)

theorem sum_mul_units_le (wants : List Nat) {units m : Nat} (hm : 0 < m) (hle : units ≤ m) :
    wants.sum * units ≤
      m * ((wants.map fun w => w * units / m).sum + wants.countP fun w => w * units / m < w) := by
  induction wants with
  | nil => simp
  | cons w rest ih =>
    have hw := mul_units_le_mul_div_add hm hle w
    simp only [List.map_cons, List.sum_cons, List.countP_cons, decide_eq_true_eq, Nat.mul_add, Nat.add_mul] at hw ih ⊢
    omega

/-- R12, R13: the parts that the wants have of the units, rounded down, leave over no more units than there are parts below their
want, so one sweep spends them. -/
theorem sum_parts_bounds (wants : List Nat) {units : Nat} (hpos : 0 < wants.sum) (hle : units ≤ wants.sum) :
    (wants.map fun w => w * units / wants.sum).sum ≤ units ∧
      units ≤ (wants.map fun w => w * units / wants.sum).sum +
        wants.countP fun w => w * units / wants.sum < w :=
  ⟨Nat.le_of_mul_le_mul_left (mul_sum_div_le wants units wants.sum) hpos,
    Nat.le_of_mul_le_mul_left (sum_mul_units_le wants hpos hle) hpos⟩

/-- R12, R13: bases, and the parts that the wants above them have of some units, topped up below the wants, sum to the bases and
the units. R12 is the case in which the wants are the bases, above 0. -/
theorem sum_topUp_scaled {α : Type} (zones : List α) (base want : α → Nat) {units : Nat}
    (hpos : 0 < (zones.map want).sum) (hle : units ≤ (zones.map want).sum) :
    (topUp ((zones.map base).sum + units)
      (zones.map fun z => base z + want z * units / (zones.map want).sum)
      (zones.map fun z => base z + want z)).sum = (zones.map base).sum + units := by
  obtain ⟨hsum, hcount⟩ := sum_parts_bounds (zones.map want) hpos hle
  simp only [List.map_map, List.countP_map, Function.comp_def] at hsum hcount
  simp only [topUp, sum_sweep, List.zip_map', List.map_map, List.countP_map, Function.comp_def, List.sum_map_add,
    Nat.add_lt_add_iff_left]
  omega

/-! ### The three cases of the allotment -/

theorem allotments_of_grant_zero (zones : List (Nat × Nat)) : allotments 0 zones = zones.map fun _ => 0 := rfl

section Cases
variable {grant : Nat} {zones : List (Nat × Nat)}

theorem allotments_of_demands_le (hpos : 0 < grant) (hfit : (zones.map (·.1)).sum ≤ grant) :
    allotments grant zones = zones.map (·.1) := by
  simp [allotments, hpos.ne', hfit]

theorem allotments_of_le_bases (hpos : 0 < grant) (hover : grant < (zones.map (·.1)).sum)
    (hbases : grant ≤ (zones.map (·.2)).sum) :
    allotments grant zones =
      topUp grant ((zones.map (·.2)).map fun b => b * grant / (zones.map (·.2)).sum) (zones.map (·.2)) := by
  simp only [allotments, hpos.ne', hover.not_ge, hbases, if_true, if_false]

theorem allotments_of_bases_lt (hpos : 0 < grant) (hover : grant < (zones.map (·.1)).sum)
    (hbases : (zones.map (·.2)).sum < grant) :
    allotments grant zones =
      topUp grant
        (zones.map fun x =>
          x.2 + (x.1 - x.2) * (grant - (zones.map (·.2)).sum) / (zones.map fun x => x.1 - x.2).sum)
        (zones.map (·.1)) := by
  simp only [allotments, hpos.ne', hover.not_ge, hbases.not_ge, if_false]

theorem sum_allotments_of_le_bases (hpos : 0 < grant) (hover : grant < (zones.map (·.1)).sum)
    (hbases : grant ≤ (zones.map (·.2)).sum) : (allotments grant zones).sum = grant := by
  have hsum := sum_topUp_scaled zones (fun _ => 0) (·.2) (hpos.trans_le hbases) hbases
  rw [allotments_of_le_bases hpos hover hbases]
  simpa [Function.comp_def] using hsum

/-- Each base lies within its demand, as `Zone.base` has it. -/
def BasesWithin (zones : List (Nat × Nat)) : Prop := ∀ x ∈ zones, x.2 ≤ x.1

theorem BasesWithin.base_add_excess (h : BasesWithin zones) :
    (zones.map fun x => x.2 + (x.1 - x.2)) = zones.map (·.1) :=
  List.map_congr_left fun x hx => Nat.add_sub_cancel' (h x hx)

theorem BasesWithin.sum_excess (h : BasesWithin zones) :
    (zones.map fun x => x.1 - x.2).sum = (zones.map (·.1)).sum - (zones.map (·.2)).sum := by
  rw [← h.base_add_excess, List.sum_map_add, Nat.add_sub_cancel_left]

theorem sum_allotments_of_bases_lt (h : BasesWithin zones) (hpos : 0 < grant)
    (hover : grant < (zones.map (·.1)).sum) (hbases : (zones.map (·.2)).sum < grant) :
    (allotments grant zones).sum = grant := by
  have hexcess := h.sum_excess
  have hsum := sum_topUp_scaled zones (·.2) (fun x => x.1 - x.2)
    (units := grant - (zones.map (·.2)).sum) (by omega) (by omega)
  rwa [h.base_add_excess, Nat.add_sub_cancel' hbases.le, ← allotments_of_bases_lt hpos hover hbases] at hsum

/-- R13: the excess is less than all the demand above the bases, so no share passes its demand before the sweep. -/
theorem allotments_le_demands (h : BasesWithin zones) (hpos : 0 < grant)
    (hover : grant < (zones.map (·.1)).sum) (hbases : (zones.map (·.2)).sum < grant) :
    ∀ x ∈ (allotments grant zones).zip (zones.map (·.1)), x.1 ≤ x.2 := by
  have hexcess := h.sum_excess
  rw [allotments_of_bases_lt hpos hover hbases]
  refine topUp_le_caps _ (by simp) fun p hp => ?_
  rw [List.zip_map'] at hp
  obtain ⟨x, hx, rfl⟩ := List.mem_map.mp hp
  have hpart : (x.1 - x.2) * (grant - (zones.map (·.2)).sum) / (zones.map fun x => x.1 - x.2).sum ≤ x.1 - x.2 :=
    Nat.div_le_of_le_mul (by rw [Nat.mul_comm]; exact Nat.mul_le_mul_right _ (by omega))
  have hbase := h x hx
  dsimp only
  omega

end Cases

/-! ### The allotments of a state -/

/-- The demand and the base of each zone, as R10 takes them. -/
def State.zoneNeeds (s : State) : List (Nat × Nat) := zoneNos.map fun z => (s.demand z, s.base z)

theorem State.allotments_eq (s : State) (grant : Nat) : s.allotments grant = Machine.allotments grant s.zoneNeeds := rfl

@[simp] theorem State.zoneNeeds_demands (s : State) : s.zoneNeeds.map (·.1) = zoneNos.map s.demand := rfl

theorem State.basesWithin_zoneNeeds (s : State) : BasesWithin s.zoneNeeds := by
  intro x hx
  obtain ⟨z, -, rfl⟩ := List.mem_map.mp hx
  exact Nat.min_le_left _ _

end Sys2Proof.Machine

namespace Sys2Proof.Proofs
open Sys2Proof.Machine

/-- Settles O29: R11 by the first two cases of the allotment, R12 and R13 by the sweep's closed form and sum. -/
theorem allotments : Obligations.Allotments := by
  intro s grant
  have hwithin := s.basesWithin_zoneNeeds
  refine ⟨?_, fun hpos hfit => ?_, fun hpos hover hbases => ⟨?_, ?_⟩, fun hpos hover hbases => ⟨?_, ?_, ?_⟩⟩
  · rintro rfl
    exact allotments_of_grant_zero s.zoneNeeds
  · exact allotments_of_demands_le hpos hfit
  · exact (allotments_of_le_bases (zones := s.zoneNeeds) hpos hover hbases).trans (topUp_eq_sweptOver _ _ _)
  · exact sum_allotments_of_le_bases hpos hover hbases
  · rw [s.allotments_eq, allotments_of_bases_lt (zones := s.zoneNeeds) hpos hover hbases, topUp_eq_sweptOver,
      hwithin.sum_excess]
    rfl
  · exact sum_allotments_of_bases_lt hwithin hpos hover hbases
  · simpa [s.allotments_eq] using allotments_le_demands hwithin hpos hover hbases

end Sys2Proof.Proofs

/-! SUPPORT. The event queue of R128 and R129: which link states take events, what becomes of the queue in each case, and what
an event raised does to the whole state; and from these O21. -/

namespace Sys2Proof.Machine

/-! ### The queue -/

theorem LinkState.takesEvents_eq_true_iff (l : LinkState) : l.takesEvents = true ↔ l ≠ .leaving ∧ l ≠ .left := by
  cases l <;> simp [takesEvents]

theorem LinkState.takesEvents_eq_false_iff (l : LinkState) : l.takesEvents = false ↔ l = .leaving ∨ l = .left := by
  cases l <;> simp [takesEvents]

theorem queueEvent_of_room {q : List Event} (e : Event) (hroom : q.length < 16) : queueEvent q e = q ++ [e] :=
  if_pos hroom

/-- R129: at a full queue a critical event takes the place of the oldest non-critical one. -/
theorem queueEvent_displaces {e x : Event} {l1 l2 : List Event} (hfull : (l1 ++ x :: l2).length = 16)
    (hcritical : e.kind.severity = 3) (hx : x.kind.severity ≠ 3) (hbefore : ∀ y ∈ l1, y.kind.severity = 3) :
    queueEvent (l1 ++ x :: l2) e = l1 ++ l2 ++ [e] := by
  have hnone : l1.findIdx? (·.kind.severity ≠ 3) = none := by simpa using hbefore
  have hfirst : (l1 ++ x :: l2).findIdx? (·.kind.severity ≠ 3) = some l1.length := by
    rw [List.findIdx?_append, hnone, List.findIdx?_cons]
    simp [hx]
  have herase : (l1 ++ x :: l2).eraseIdx l1.length = l1 ++ l2 := by
    rw [List.eraseIdx_append_of_length_le le_rfl, Nat.sub_self, List.eraseIdx_cons_zero]
  rw [queueEvent, if_neg hfull.not_lt, if_pos hcritical, hfirst]
  dsimp only
  rw [herase]

/-- R129: at a full queue a non-critical event, and any event where all 16 are critical, is not queued. -/
theorem queueEvent_eq_self {e : Event} {q : List Event} (hfull : q.length = 16)
    (hnot : e.kind.severity ≠ 3 ∨ ∀ y ∈ q, y.kind.severity = 3) : queueEvent q e = q := by
  rw [queueEvent, if_neg hfull.not_lt]
  split
  next hcritical =>
    have hnone : q.findIdx? (·.kind.severity ≠ 3) = none := by simpa using hnot.resolve_left (not_not_intro hcritical)
    rw [hnone]
  next => rfl

/-! ### The state -/

theorem raise_of_not_takes {e : Event} {s : State} (h : s.bus.link.takesEvents = false) : raise e s = s := by
  simp [raise, h, bumpIf]

theorem raise_of_room {e : Event} {s : State} (h : s.bus.link.takesEvents = true) (hroom : s.route.events.length < 16) :
    raise e s = { s with route := { s.route with events := s.route.events ++ [e] } } := by
  simp [raise, h, bumpIf, Nat.not_le.mpr hroom, queueEvent_of_room e hroom]

/-- R129: whichever event a full queue loses, the loss is counted and latches EVENT_DROP. -/
theorem raise_of_full {e : Event} {s : State} (h : s.bus.link.takesEvents = true) (hfull : s.route.events.length = 16) :
    raise e s = bump .eventsDropped (latch .eventDrop
      { s with route := { s.route with events := queueEvent s.route.events e } }) := by
  simp [raise, h, hfull, bump, latch]

end Sys2Proof.Machine

namespace Sys2Proof.Proofs
open Sys2Proof.Machine

/-- Settles O21: by the link state and the queue's room; at a full queue every event costs the same count and latch, and only
the queue differs. -/
theorem raisingEvent : Obligations.RaisingEvent := by
  intro e s _
  refine ⟨fun hlink => ?_, fun hleaving hleft => ?_⟩
  · exact raise_of_not_takes (s.bus.link.takesEvents_eq_false_iff.mpr hlink)
  · have htakes := s.bus.link.takesEvents_eq_true_iff.mpr ⟨hleaving, hleft⟩
    refine ⟨raise_of_room htakes, fun hfull => ⟨fun l1 x l2 hcritical hq hx hbefore => ?_, fun hnot => ?_⟩⟩
    · have hqueue : queueEvent s.route.events e = l1 ++ l2 ++ [e] := by
        rw [hq] at hfull ⊢
        exact queueEvent_displaces hfull hcritical hx hbefore
      rw [raise_of_full htakes hfull, hqueue]
      rfl
    · rw [raise_of_full htakes hfull, queueEvent_eq_self hfull hnot]
      rfl

end Sys2Proof.Proofs

/-! SUPPORT. What a command of the list is: at a station out of reset it runs as a write frame or as a read frame of the
length and the exemption its frame form gives (R166, R167, R169, R170), and its own results never include NOT_CONFIGURED; and
from these O6. -/

namespace Sys2Proof.Machine

/-! ### The length of a SAMPLE -/

/-- R4: the bytes after the mask are read as the zones' readings just where they are as many as the zones take. -/
theorem readings_isSome_iff (fitted : ZoneNo → Bool) (zs : List ZoneNo) (p : List Byte) :
    (readings fitted zs p).isSome = true ↔ p.length = (zs.map fun z => if fitted z then 4 else 2).sum := by
  induction zs generalizing p with
  | nil => cases p <;> simp [readings]
  | cons z zs ih =>
    rw [List.map_cons, List.sum_cons]
    cases hz : fitted z with
    | true =>
      match p with
      | [] | [_] | [_, _] | [_, _, _] => simp [readings, hz]; omega
      | _ :: _ :: _ :: _ :: rest => simp [readings, hz, ih]; omega
    | false =>
      match p with
      | [] | [_] => simp [readings, hz]; omega
      | _ :: _ :: rest => simp [readings, hz, ih]; omega

/-- The test that SAMPLE makes of its frame is the length its frame form gives. -/
theorem readingsOf_isSome (s : State) (p : List Byte) :
    (s.readingsOf p).isSome = s.lengthFits ⟨p, false, false, none⟩ (.sample p) := by
  cases p with
  | nil => rfl
  | cons m rest =>
    rw [Bool.eq_iff_iff]
    exact (readings_isSome_iff _ (maskZones m) rest).trans beq_iff_eq.symm

/-! ### Frames -/

theorem unlessReset_of_not_inReset {s : State} (hreset : s.inReset = false) (f : State → State) :
    unlessReset s f = .next (f s) := by simp [unlessReset, hreset]

/-- What a command frame may leave from a state, by whether its length fits and whether it is taken before CONFIGURE (R167,
R170); a command's own results are other than NOT_CONFIGURED. -/
inductive FrameEnd (s : State) (fits : Bool) : Bool → State → Prop
  | write (before : Bool) (act : State → State × Result) (hact : (act s).2 ≠ .notConfigured) :
      FrameEnd s fits before (writeFrame fits before act s)
  | read (code : Byte) (n : Nat) (p : List Byte) (r : Result) (data : List Byte) (side : State → State)
      (hr : r ≠ .notConfigured) (hfits : fits = decide (n ≤ p.length)) :
      FrameEnd s fits true (readFrame code n p r data side s)

namespace FrameEnd
variable {s t : State} {fits before : Bool}

theorem eq_of_not_fits (h : FrameEnd s false before t) : t = s.refusedWith .frame := by
  cases h with
  | write => rfl
  | read code n p r data side _ hfits =>
    rcases readFrame_cases code n p r data side s with ⟨_, heq⟩ | ⟨hle, _⟩
    · exact heq
    · simp [hle] at hfits

theorem eq_of_not_configured (h : FrameEnd s true false t) (hconf : s.port.configured = false) :
    t = s.refusedWith .notConfigured := by
  cases h with
  | write => simp [writeFrame, hconf, State.refusedWith, answerFrame]

theorem lastResult_ne (h : FrameEnd s fits before t) (hconf : s.port.configured = true) :
    t.port.lastResult ≠ .notConfigured := by
  cases h with
  | write before act hact =>
    rcases writeFrame_cases fits before act s with ⟨_, heq⟩ | ⟨_, _, hnot, _⟩ | ⟨_, _, heq⟩
    · rw [heq]; nofun
    · simp [hconf] at hnot
    · rw [heq]; exact hact
  | read code n p r data side hr _ =>
    rcases readFrame_cases code n p r data side s with ⟨_, heq⟩ | ⟨_, heq⟩
    · rw [heq]; nofun
    · rw [heq]; exact hr

end FrameEnd

/-- A command's frame ends as its frame form says. -/
def EndsByForm (s : State) (c : Instr) (f : FrameForm) : Prop :=
  ∃ t, exec c s = .next t ∧ FrameEnd s (s.lengthFits f c) f.before t

section Commands
variable {s : State} {c : Instr} {f : FrameForm}

theorem EndsByForm.of_write (hreset : s.inReset = false) {act : State → State × Result}
    (hexec : exec c s = unlessReset s (writeFrame (s.lengthFits f c) f.before act)) (hact : (act s).2 ≠ .notConfigured) :
    EndsByForm s c f :=
  ⟨_, hexec.trans (unlessReset_of_not_inReset hreset _), .write _ _ hact⟩

theorem EndsByForm.of_read (hreset : s.inReset = false) {code : Byte} {n : Nat} {r : Result} {data : List Byte}
    {side : State → State} (hbefore : f.before = true)
    (hexec : exec c s = unlessReset s (readFrame code n f.params r data side)) (hr : r ≠ .notConfigured)
    (hfits : s.lengthFits f c = decide (n ≤ f.params.length)) : EndsByForm s c f :=
  ⟨_, hexec.trans (unlessReset_of_not_inReset hreset _), hbefore ▸ .read _ _ _ _ _ _ hr hfits⟩

end Commands

/-- R167, R169, R170: every command of the list. A read's result and each branch of a write's meaning is a literal result
other than NOT_CONFIGURED. -/
theorem endsByForm_of_frameForm {c : Instr} {f : FrameForm} {s : State} (hform : frameForm c = some f)
    (hreset : s.inReset = false) : EndsByForm s c f := by
  cases c <;> cases hform
  case readStatus.refl | zoneRead.refl | readBoard.refl | readPeers.refl | readReports.refl | readAlert.refl |
      readCounters.refl =>
    exact .of_read hreset rfl rfl nofun rfl
  case programRead.refl p =>
    cases hentry : entryAt p 0 with
    | none => exact .of_read (r := .invalid) hreset rfl (by simp only [exec, execProgramRead, hentry]; rfl) nofun rfl
    | some => exact .of_read (r := .ok) hreset rfl (by simp only [exec, execProgramRead, hentry]; rfl) nofun rfl
  case ruleRead.refl p =>
    cases hindex : indexAt p 0 with
    | none => exact .of_read (r := .invalid) hreset rfl (by simp only [exec, execRuleRead, hindex]; rfl) nofun rfl
    | some => exact .of_read (r := .ok) hreset rfl (by simp only [exec, execRuleRead, hindex]; rfl) nofun rfl
  case alertMask.refl | clearAlert.refl => exact .of_write hreset rfl nofun
  case sample.refl p =>
    have hlength := readingsOf_isSome s p
    refine .of_write hreset (by rw [← hlength]; rfl) ?_
    split <;> nofun
  case configure.refl p =>
    refine .of_write hreset rfl ?_
    unfold configure
    split <;> nofun
  case programWrite.refl p =>
    refine .of_write hreset rfl ?_
    unfold writeProgram
    repeat' split
    all_goals nofun
  case assign.refl p =>
    refine .of_write hreset rfl ?_
    unfold assignFrame
    dsimp only
    repeat' split
    all_goals nofun
  case zoneSet.refl p =>
    refine .of_write hreset rfl ?_
    dsimp only
    repeat' split
    all_goals nofun
  case setClock.refl | fire.refl | abort.refl | schedule.refl | openCourse.refl | release.refl | hold.refl |
      closeCourse.refl | plates.refl | wareSet.refl | conveyorReset.refl | sanitizeAck.refl | ruleWrite.refl |
      groupWrite.refl | duty.refl | page.refl | coverageWrite.refl | freeBank.refl | withdraw.refl | restart.refl =>
    refine .of_write hreset rfl ?_
    repeat' split
    all_goals nofun

end Sys2Proof.Machine

namespace Sys2Proof.Proofs
open Sys2Proof.Machine

/-- Settles O6: every command of the list ends as its frame form says, and such a frame tests the length first, then the
configuration. -/
theorem frameRefusals : Obligations.FrameRefusals := by
  intro c f s hform hreset
  obtain ⟨t, hexec, hend⟩ := endsByForm_of_frameForm hform hreset
  rw [hexec]
  refine ⟨fun hfits => ?_, fun hfits hbefore hconf => ?_, fun hconf => ⟨t, rfl, hend.lastResult_ne hconf⟩⟩
  · rw [hfits] at hend
    rw [hend.eq_of_not_fits]
  · rw [hfits, hbefore] at hend
    rw [hend.eq_of_not_configured hconf]

end Sys2Proof.Proofs

/-! SUPPORT. The alert controller (R180–R183): a cause by its bit, the ranking of the causes that READ ALERT's top cause goes
by, and what CLEAR ALERT leaves pending; and from these O28. -/

namespace Sys2Proof.Machine

/-! ### A cause and its bit -/

theorem mem_causes (c : Cause) : c ∈ causes := by cases c <;> decide

theorem causes_getElem? (c : Cause) : causes[c.number - 1]? = some c := by cases c <;> rfl

theorem Cause.number_pred_lt (c : Cause) : c.number - 1 < 16 := by cases c <;> decide

theorem Cause.number_pred_injective {c d : Cause} (h : c.number - 1 = d.number - 1) : c = d := by
  have hget := causes_getElem? c
  rw [h, causes_getElem?] at hget
  exact (Option.some.inj hget).symm

theorem exists_number_pred_eq (i : Fin 16) : ∃ c : Cause, c.number - 1 = i.val :=
  have h : ∀ i : Fin 16, ∃ c ∈ causes, c.number - 1 = i.val := by decide
  (h i).imp fun _ => And.right

theorem Cause.bit_eq_twoPow (c : Cause) : c.bit = BitVec.twoPow 16 (c.number - 1) := rfl

/-- A bit of a cause is set just where the cause is the one of its number. -/
theorem Cause.bit_getLsbD (c d : Cause) : c.bit.getLsbD (d.number - 1) = decide (c = d) := by
  rw [bit_eq_twoPow, BitVec.getLsbD_twoPow, decide_eq_true c.number_pred_lt, Bool.true_and, decide_eq_decide]
  exact ⟨number_pred_injective, fun h => h ▸ rfl⟩

theorem Cause.and_bit_bne (c : Cause) (m : Half) : (m &&& c.bit != 0) = m.getLsbD (c.number - 1) := by
  have hne : BitVec.twoPow 16 (c.number - 1) ≠ 0#16 := by cases c <;> decide
  rw [bit_eq_twoPow, BitVec.and_twoPow]
  cases m.getLsbD (c.number - 1) <;> simp [hne]

theorem latchedCauses_getLsbD (c : Cause) : latchedCauses.getLsbD (c.number - 1) = c.isLatched := by cases c <;> rfl

/-! ### The pending flags -/

theorem foldl_or_getLsbD {w : Nat} (l : List (BitVec w)) (a : BitVec w) (i : Nat) :
    (l.foldl (· ||| ·) a).getLsbD i = (a.getLsbD i || l.any (·.getLsbD i)) := by
  induction l generalizing a with
  | nil => simp
  | cons b l ih => simp [ih, Bool.or_assoc]

theorem pendingFlags_getLsbD (s : State) (c : Cause) : s.pendingFlags.getLsbD (c.number - 1) = s.isPending c := by
  have hflag (d : Cause) :
      (if s.isPending d then d.bit else 0).getLsbD (c.number - 1) = (s.isPending d && decide (d = c)) := by
    cases s.isPending d
    · exact BitVec.getLsbD_zero
    · exact d.bit_getLsbD c
  rw [State.pendingFlags, foldl_or_getLsbD, List.any_map, Bool.eq_iff_iff]
  simp only [Function.comp_def, hflag]
  simp [mem_causes]

theorem State.isPending_of_isLatched (s : State) {c : Cause} (h : c.isLatched = true) :
    s.isPending c = s.port.latched.getLsbD (c.number - 1) := by
  rw [← c.and_bit_bne]
  cases c <;> cases h <;> rfl

/-! ### The top cause -/

/-- R182: a cause comes before another as the top cause, or is it: of the higher level, or of the same level and a number no
higher. -/
abbrev Cause.Outranks (c d : Cause) : Prop := d.level < c.level ∨ (d.level = c.level ∧ c.number ≤ d.number)

theorem Cause.Outranks.antisymm {c d : Cause} (hcd : c.Outranks d) (hdc : d.Outranks c) : c = d :=
  number_pred_injective (by unfold Outranks at hcd hdc; omega)

/-- The causes as READ ALERT ranks them: by level, highest first, and by number within a level. -/
def rankedCauses : List Cause := [7, 6, 5, 4, 3, 2, 1].flatMap fun lv => causes.filter (·.level == lv)

theorem mem_rankedCauses (c : Cause) : c ∈ rankedCauses := by cases c <;> decide

theorem rankedCauses_pairwise : rankedCauses.Pairwise Cause.Outranks := by decide

theorem topCause_eq_find? (s : State) : s.topCause = rankedCauses.find? s.drives := by
  simp only [State.topCause, rankedCauses, List.find?_flatMap, List.find?_filter, Bool.decide_and, Bool.decide_eq_true]

theorem drives_iff (s : State) (c : Cause) :
    s.drives c = true ↔ s.isPending c = true ∧ s.port.mask.getLsbD (c.number - 1) = false := by
  rw [State.drives, Bool.and_eq_true, ← c.and_bit_bne, bne_eq_false_iff_eq, beq_iff_eq]

theorem outranks_of_topCause {s : State} {c d : Cause} (htop : s.topCause = some c) (hd : s.drives d = true) :
    c.Outranks d := by
  rw [topCause_eq_find?] at htop
  obtain ⟨_, before, after, hsplit, hbefore⟩ := List.find?_eq_some_iff_append.mp htop
  have hmem := mem_rankedCauses d
  have hpairwise := rankedCauses_pairwise
  rw [hsplit] at hmem hpairwise
  rcases List.mem_append.mp hmem with hmem | hmem
  · exact absurd hd (by simpa using hbefore d hmem)
  · rcases List.mem_cons.mp hmem with rfl | hmem
    · exact .inr ⟨rfl, le_rfl⟩
    · obtain ⟨_, hafter, _⟩ := List.pairwise_append.mp hpairwise
      exact List.rel_of_pairwise_cons hafter hmem

/-- R182: the top cause is the cause that drives the alert and outranks each that does. -/
theorem topCause_eq_some_iff (s : State) (c : Cause) :
    s.topCause = some c ↔ s.drives c = true ∧ ∀ d, s.drives d = true → c.Outranks d := by
  refine ⟨fun htop => ⟨?_, fun d => outranks_of_topCause htop⟩, fun ⟨hc, hall⟩ => ?_⟩
  · rw [topCause_eq_find?] at htop
    exact List.find?_some htop
  · cases htop : s.topCause with
    | none =>
      rw [topCause_eq_find?] at htop
      exact absurd hc (List.find?_eq_none.mp htop c (mem_rankedCauses c))
    | some d =>
      have hd := List.find?_some ((topCause_eq_find? s).symm.trans htop)
      rw [(hall d hd).antisymm (outranks_of_topCause htop hc)]

/-! ### The frames -/

theorem exec_readAlert {s : State} (hreset : s.inReset = false) (p : List Byte) :
    exec (.readAlert p) s = .next (answerFrame s.statusByte (s.alertData.take p.length) .ok s) :=
  unlessReset_of_not_inReset hreset _

/-- A configured station's write frame of the right length answers with the command's own effect and result. -/
theorem unlessReset_writeFrame_of_isUp {s : State} (hup : s.isUp) {ok before : Bool} (hok : ok = true)
    (act : State → State × Result) :
    unlessReset s (writeFrame ok before act) = .next (answerFrame s.statusByte [] (act s).2 (act s).1) := by
  obtain ⟨hreset, hconf⟩ := hup
  rw [unlessReset_of_not_inReset hreset]
  simp [writeFrame, hconf, hok]

theorem alertData_of_topCause {s : State} {c : Cause} (htop : s.topCause = some c) :
    s.alertData = [u8 c.level, u8 c.number] ++ bytes16 s.pendingFlags ++ bytes16 s.port.mask := by
  simp [State.alertData, htop]

theorem alertData_drop (s : State) : s.alertData.drop 2 = bytes16 s.pendingFlags ++ bytes16 s.port.mask := by
  unfold State.alertData
  cases s.topCause <;> rfl

theorem answerFrame_isPending (status : Byte) (data : List Byte) (r : Result) (s : State) (c : Cause) :
    (answerFrame status data r s).isPending c = s.isPending c := by
  cases c <;> rfl

/-- R183: a selected latched cause is no longer pending; a condition cause and a cause not selected stand. -/
theorem clearLatched_isPending (select : Half) (s : State) (c : Cause) :
    (clearLatched select s).isPending c = (s.isPending c && !(c.isLatched && select.getLsbD (c.number - 1))) := by
  cases hc : c.isLatched with
  | true =>
    rw [State.isPending_of_isLatched _ hc, State.isPending_of_isLatched _ hc, clearLatched, BitVec.getLsbD_and,
      BitVec.getLsbD_not, BitVec.getLsbD_and, latchedCauses_getLsbD, hc, decide_eq_true c.number_pred_lt]
    simp
  | false =>
    have hsame : (clearLatched select s).isPending c = s.isPending c := by
      cases c <;> cases hc <;> rfl
    simp [hsame]

end Sys2Proof.Machine

namespace Sys2Proof.Proofs
open Sys2Proof.Machine

/-- Settles O28: the frames' answers, the flags bit by bit, and the top cause by the ranking. -/
theorem alertController : Obligations.AlertController := by
  intro p s
  refine ⟨fun hreset => ⟨?_, fun c => ?_⟩, fun hup hlen => ⟨?_, ?_⟩⟩
  · refine ⟨_, exec_readAlert hreset p, rfl, fun c htop => ?_, ?_, fun i => ?_⟩
    · rw [← alertData_of_topCause htop]
      rfl
    · rw [← alertData_drop, ← List.drop_take]
      rfl
    · obtain ⟨c, hc⟩ := exists_number_pred_eq i
      rw [← hc, pendingFlags_getLsbD, causes_getElem?]
      rfl
  · simp only [topCause_eq_some_iff, drives_iff, and_imp, and_assoc]
  · exact unlessReset_writeFrame_of_isUp hup (beq_iff_eq.mpr hlen) _
  · refine ⟨_, unlessReset_writeFrame_of_isUp hup (beq_iff_eq.mpr hlen) _, rfl, fun c => ?_⟩
    rw [answerFrame_isPending, clearLatched_isPending]

end Sys2Proof.Proofs

/-! SUPPORT. The command frames of R190: a code byte and its parameters spell the command whose frame they are; and from these O8. -/

namespace Sys2Proof

/-- The code byte and the parameters of a frame are those of the command it spells. -/
theorem frameBytes_commandOf (code : Byte) (params : List Byte) :
    frameBytes (commandOf code params) = some (code :: params) := by
  unfold commandOf
  split
  case h_37 => rfl
  all_goals
    next h =>
      have hcode : BitVec.ofNat 8 code.toNat = code := (by simp)
      rw [h] at hcode
      rw [← hcode]
      rfl

/-- UNKNOWN is the command of a code outside the list, and of no other. -/
theorem commandOf_of_unlisted {code : Byte} (h : code.toNat = 0 ∨ 36 < code.toNat) (params : List Byte) :
    commandOf code params = .unknown code params := by
  unfold commandOf
  split
  case h_37 => rfl
  all_goals omega

theorem commandOf_wellFormed (code : Byte) (params : List Byte) : (commandOf code params).wellFormed = true := by
  by_cases h : code.toNat = 0 ∨ 36 < code.toNat
  · rw [commandOf_of_unlisted h]
    simpa [Instr.wellFormed] using h
  · unfold commandOf
    split
    case h_37 => simp_all; omega
    all_goals rfl

/-- A well-formed host command is the command of its own frame. -/
theorem decodeFrame_of_frameBytes {i : Instr} {bytes : List Byte} (hbytes : frameBytes i = some bytes)
    (hwf : i.wellFormed = true) : decodeFrame bytes = some i := by
  cases i
  case unknown code params =>
    cases hbytes
    have hcode : code.toNat = 0 ∨ 36 < code.toNat := by simpa [Instr.wellFormed] using hwf
    exact congrArg some (commandOf_of_unlisted hcode params)
  all_goals cases hbytes <;> rfl

end Sys2Proof

namespace Sys2Proof.Proofs
open Sys2Proof.Machine

/-- Settles O8: a frame is its code byte and parameters, and the codes of the list are the commands'. -/
theorem framesAreRead : Obligations.FramesAreRead := by
  intro bytes i
  constructor
  · intro h
    cases bytes with
    | nil => cases h
    | cons code params =>
      cases h
      exact ⟨frameBytes_commandOf code params, commandOf_wellFormed code params⟩
  · rintro ⟨hbytes, hwf⟩
    exact decodeFrame_of_frameBytes hbytes hwf
end Sys2Proof.Proofs

/-! SUPPORT. The bytes of a notice (R189): two bytes and a 16-bit value, the flags byte of a COURSE, the fields of each kind, the
receiver's checks in both directions; and from these O7. -/

namespace Sys2Proof.Machine

/-! ### Two bytes and a 16-bit value -/

theorem bytes16_join16 (hi lo : Byte) : bytes16 (join16 hi lo) = [hi, lo] := by
  have hhi : (hi ++ lo).extractLsb' 8 8 = hi := BitVec.extractLsb'_append_eq_left
  have hlo : (hi ++ lo).extractLsb' 0 8 = lo := BitVec.extractLsb'_append_eq_right
  exact congrArg₂ (fun a b => [a, b]) hhi hlo

theorem join16_bytes16 (h : Half) : join16 (h.extractLsb' 8 8) (h.extractLsb' 0 8) = h :=
  BitVec.extractLsb'_append_extractLsb' (w := 8) (len := 8)

theorem bytes16_length (h : Half) : (bytes16 h).length = 2 := rfl

/-! ### The flags byte of a COURSE -/

/-- A bit of the flags byte: its lowest three bits are the flags, the rest the spare ones. -/
theorem courseFlags_getLsbD (fire : Bool) (spare : BitVec 5) (plates warm : Option Half) (i : Nat) :
    (courseFlags fire spare plates warm).getLsbD i =
      match i with
      | 0 => fire
      | 1 => plates.isSome
      | 2 => warm.isSome
      | k + 3 => spare.getLsbD k := by
  have h := BitVec.getLsbD_append (x := spare ++ BitVec.ofBool warm.isSome ++ BitVec.ofBool plates.isSome)
    (y := BitVec.ofBool fire) (i := i)
  have h1 := BitVec.getLsbD_append (x := spare ++ BitVec.ofBool warm.isSome) (y := BitVec.ofBool plates.isSome) (i := i - 1)
  have h2 := BitVec.getLsbD_append (x := spare) (y := BitVec.ofBool warm.isSome) (i := i - 1 - 1)
  rw [h1, h2] at h
  refine Eq.trans (b := _) h ?_
  match i with
  | 0 | 1 | 2 => simp
  | k + 3 => simp

/-- A flags byte is that of its own bits. -/
theorem courseFlags_of_bits {flags : Byte} {plates warm : Option Half} (hp : flags.getLsbD 1 = plates.isSome) (hw : flags.getLsbD 2 = warm.isSome) :
    courseFlags (flags.getLsbD 0) (flags.extractLsb' 3 5) plates warm = flags := by
  refine BitVec.eq_of_getLsbD_eq fun i hi => ?_
  rw [courseFlags_getLsbD]
  match i with
  | 0 => rfl
  | 1 => exact hp.symm
  | 2 => exact hw.symm
  | k + 3 => simp [Nat.add_comm 3 k, show k < 5 by omega, BitVec.getLsbD_eq_getElem hi]

theorem courseFlags_spare (fire : Bool) (spare : BitVec 5) (plates warm : Option Half) : (courseFlags fire spare plates warm).extractLsb' 3 5 = spare := by
  refine BitVec.eq_of_getLsbD_eq fun i hi => ?_
  rw [BitVec.getLsbD_extractLsb', Nat.add_comm, courseFlags_getLsbD]
  simp [hi]

/-! ### The fields of a notice -/

theorem parseBody_fields (b : Body) : parseBody b.code b.fields = some b := by
  cases b with
  | course c m fire spare plates warm =>
    have hfire := courseFlags_getLsbD fire spare plates warm 0
    have hplates := courseFlags_getLsbD fire spare plates warm 1
    have hwarm := courseFlags_getLsbD fire spare plates warm 2
    have hspare := courseFlags_spare fire spare plates warm
    cases plates <;> cases warm <;>
      simp_all [parseBody, Body.code, Body.fields, bytes16, join16_bytes16]
  | _ => simp [parseBody, Body.code, Body.fields, bytes16, join16_bytes16]

/-- Field bytes that spell a body are its own, under its own kind code. -/
theorem eq_of_parseBody {code : Byte} {fields : List Byte} {b : Body} (h : parseBody code fields = some b) :
    code = b.code ∧ fields = b.fields := by
  have hcode (k : Nat) (hk : code.toNat = k) : code = BitVec.ofNat 8 k := by rw [← hk]; simp
  unfold parseBody at h
  split at h
  case h_5 hk =>
    dsimp only at h
    split at h
    case h_5 => cases h
    all_goals
      next hp hw =>
        cases h
        exact ⟨hcode _ hk, by rw [Body.fields, courseFlags_of_bits hp hw]; simp [bytes16_join16]⟩
  case h_8 => cases h
  all_goals
    next hk =>
      cases h
      simp [hcode _ hk, Body.code, Body.fields, bytes16_join16]

theorem Body.fields_length_le (b : Body) : b.fields.length ≤ 9 := by
  cases b with
  | course c m fire spare plates warm => cases plates <;> cases warm <;> simp [Body.fields, bytes16]
  | _ => simp [Body.fields, bytes16]

theorem Body.code_range (b : Body) : 1 ≤ b.code.toNat ∧ b.code.toNat ≤ 7 := by cases b <;> simp [Body.code]

/-! ### The receiver -/

theorem u8_station_toNat (st : Station) : (u8 st).toNat = st.val := by
  simp [u8, BitVec.toNat_ofNat]; omega

theorem u8_ofNat_sender {sender : Byte} (h : sender.toNat ≤ 31) : u8 (Fin.ofNat 32 sender.toNat : Station) = sender := by
  apply BitVec.eq_of_toNat_eq
  rw [u8_station_toNat]
  simp [Fin.ofNat]; omega

/-- R75, R189: the receiver takes a notice's own bytes as the notice. -/
theorem receive_bytes (n : Notice) : receive n.bytes = .good n := by
  have hlen := n.body.fields_length_le
  have hcode := n.body.code_range
  have hsender := u8_station_toNat n.sender
  have hlt := n.sender.isLt
  have htotal : n.bytes.length = n.body.fields.length + 5 := by
    simp [Notice.bytes, Notice.covered, bytes16_length]
  have htake : n.bytes.take (n.bytes.length - 2) = n.covered := by
    rw [htotal]; simp [Notice.bytes, Notice.covered]
  have hdrop : n.bytes.drop (n.bytes.length - 2) = bytes16 n.check := by
    rw [htotal]; simp [Notice.bytes, Notice.covered]
  unfold receive
  rw [if_neg (by omega), if_neg (by omega)]
  simp only [htake, hdrop, Notice.check, ne_eq, not_true_eq_false, if_false]
  simp only [Notice.covered, List.cons_append, List.nil_append]
  rw [if_neg (by omega), if_neg (by omega), parseBody_fields, hsender]
  simp

/-- R75, R189: bytes that the receiver takes as a notice are that notice's. -/
theorem eq_bytes_of_receive {bytes : List Byte} {n : Notice} (h : receive bytes = .good n) : bytes = n.bytes := by
  unfold receive at h
  dsimp only at h
  repeat' (split at h)
  all_goals try cases h
  next hcheck _ code sender hsender _ _ seq fields hcovered _ body hbody =>
    obtain ⟨hcode, hfields⟩ := eq_of_parseBody hbody
    have hcov : bytes.take (bytes.length - 2) =
        Notice.covered { sender := Fin.ofNat 32 sender.toNat, seq := seq, body := body } := by
      rw [hcovered, Notice.covered, u8_ofNat_sender (Nat.le_of_not_lt hsender), hcode, hfields]
      rfl
    have hsum : bytes.drop (bytes.length - 2) = bytes16 (crc16 (bytes.take (bytes.length - 2))) := not_not.mp hcheck
    rw [← List.take_append_drop (bytes.length - 2) bytes, hsum, hcov]
    rfl

end Sys2Proof.Machine

namespace Sys2Proof.Proofs
open Sys2Proof.Machine

/-- Settles O7: the receiver's checks undo the notice's bytes, field by field. -/
theorem noticesAreRead : Obligations.NoticesAreRead :=
  fun _ n => ⟨eq_bytes_of_receive, fun h => h ▸ receive_bytes n⟩

end Sys2Proof.Proofs

/-! SUPPORT. Which commands keep what: the events and notices keep all of what `kept` holds, the frames keep it but for their own
answer, and the frames that write settings keep the queue, the reset line, the OE input and the straps; and from these O4 and O5. -/

namespace Sys2Proof.Machine

/-- What only reset, the OE input and the queue itself move. -/
structure Core where
  pending : List Instr
  inReset : Bool
  oe : Bool
  straps : Straps

def State.core (s : State) : Core :=
  { pending := s.pending, inReset := s.inReset, oe := s.oe, straps := s.port.straps }

theorem core_of_kept {s t : State} (h : t.kept = s.kept) : t.core = s.core := by
  simp only [State.kept, Kept.mk.injEq, State.settings, Settings.mk.injEq] at h
  simp [State.core, h]

theorem settings_of_kept {s t : State} (h : t.kept = s.kept) : t.settings = s.settings :=
  congrArg Kept.settings h

/-! ### Commands that are no frames -/

theorem unlessReset_kept (s : State) {f : State → State} (hf : (f s).kept = s.kept) :
    ∃ t, unlessReset s f = .next t ∧ t.kept = s.kept := by
  refine ⟨_, rfl, ?_⟩
  split
  · rfl
  · exact hf

/-- The events of time, line, sensor and radio link, and the notices heard, keep what `kept` holds. -/
theorem exec_event_kept {c : Instr} (s : State) (hform : frameForm c = none) (hunknown : ∀ code p, c ≠ .unknown code p)
    (hreleased : ∀ straps, c ≠ .resetReleased straps) (hasserted : c ≠ .resetAsserted)
    (hoe : ∀ high, c ≠ .oeInterlockChange high) : ∃ t, exec c s = .next t ∧ t.kept = s.kept := by
  cases c
  case resetAsserted => exact absurd rfl hasserted
  case resetReleased straps => exact absurd rfl (hreleased straps)
  case unknown code p => exact absurd rfl (hunknown code p)
  case oeInterlockChange high => exact absurd rfl (hoe high)
  case lineIdle => exact ⟨_, rfl, by unfold lineIdle; (repeat' split) <;> simp⟩
  case lineBusy => exact ⟨_, rfl, by unfold deferGap; (repeat' split) <;> simp⟩
  case loadHeard | leaveHeard | courseHeard | holdHeard | wareHeard | pageHeard | answerHeard =>
    exact unlessReset_kept s (hearing_kept _ _ (fun s => by simp) _)
  all_goals cases hform
  all_goals simp only [exec, execLoadPeriodExpiry, execCollision, execNoticeCompleted, execScheduleEntryFires, execClearCall,
    execPageTimeout, execCompletionTimeout, execRadioMessageDiscarded, execTransmitSent]
  all_goals refine unlessReset_kept s ?_
  all_goals beta_reduce
  all_goals repeat' split
  all_goals simp

/-! ### Frames -/

theorem answerFrame_core (st : Byte) (data : List Byte) (r : Result) (s : State) :
    (answerFrame st data r s).core = s.core := rfl

theorem answerFrame_settings (st : Byte) (data : List Byte) (r : Result) (s : State) :
    (answerFrame st data r s).settings = s.settings := rfl

section Frames
variable {α : Type} (g : State → α) (hg : ∀ st data r s, g (answerFrame st data r s) = g s) (s : State)
include hg

/-- What a frame's answer leaves alone, a write frame keeps where its command's effect does. -/
theorem writeFrame_keeps (ok before : Bool) {act : State → State × Result} (hact : g (act s).1 = g s) :
    g (writeFrame ok before act s) = g s := by
  unfold writeFrame
  repeat' split
  · exact hg ..
  · exact hg ..
  · exact (hg ..).trans hact

theorem readFrame_keeps (code : Byte) (n : Nat) (p : List Byte) (r : Result) (data : List Byte) {side : State → State}
    (hside : g (side s) = g s) : g (readFrame code n p r data side s) = g s := by
  unfold readFrame
  split
  · exact (hg ..).trans hside
  · exact hg ..

theorem unlessReset_write_keeps (ok before : Bool) {act : State → State × Result} (hact : g (act s).1 = g s) :
    ∃ t, unlessReset s (writeFrame ok before act) = .next t ∧ g t = g s := by
  refine ⟨_, rfl, ?_⟩
  split
  · rfl
  · exact writeFrame_keeps g hg s ok before hact

theorem unlessReset_read_keeps (code : Byte) (n : Nat) (p : List Byte) (r : Result) (data : List Byte)
    {side : State → State} (hside : g (side s) = g s) :
    ∃ t, unlessReset s (readFrame code n p r data side) = .next t ∧ g t = g s := by
  refine ⟨_, rfl, ?_⟩
  split
  · rfl
  · exact readFrame_keeps g hg s code n p r data hside

end Frames

/-! ### The commands that write settings -/

theorem configure_core (p : List Byte) (s : State) : (configure p s).1.core = s.core := by
  unfold configure
  split
  · rfl
  · refine (core_of_kept (evalConveyor_kept _)).trans ?_
    unfold leaveOff
    split
    · exact (core_of_kept (changeLink_kept _ _)).trans rfl
    · rfl

theorem setZones_core (x : ZoneSettings) (zs : List ZoneNo) (s : State) : (setZones x zs s).core = s.core := by
  have hfaults (l : List ZoneNo) (s : State) : (overZones l faultCheck s).kept = s.kept :=
    overZones_kept l faultCheck faultCheck_kept s
  have hsets : (overZones zs (setZone x) s).core = s.core := 
    foldl_keeps State.core (fun s z => setZone x z s) (fun _ _ => rfl) zs s
  have hrest : (setZones x zs s).kept = (overZones zs (setZone x) s).kept := by
    rw [setZones, followDemand_kept, deriveAll_kept, hfaults]
  exact (core_of_kept hrest).trans hsets

theorem writeProgram_core (p : List Byte) (s : State) : (writeProgram p s).1.core = s.core := by
  unfold writeProgram
  repeat' split
  all_goals rfl

theorem writeGroup_core (g : GroupNo) (x : Group) (s : State) : (writeGroup g x s).core = s.core := by
  unfold writeGroup
  dsimp only
  split
  · rfl
  · exact (core_of_kept (moveForDuty_kept _ _)).trans rfl

theorem setDuty_core (g : GroupNo) (on : Bool) (s : State) : (setDuty g on s).core = s.core :=
  (core_of_kept (moveForDuty_kept _ _)).trans rfl

theorem mapWare_unfaulted_kept (s : State) : (mapWare Ware.unfaulted s).kept = s.kept := rfl

theorem mapWare_acknowledged_kept (s : State) : (mapWare (fun w => { w with heldLow := false }) s).kept = s.kept := rfl

/-- A frame that writes no settings keeps them, with the queue, the reset line, the OE input and the straps. -/
theorem exec_frame_keeps {α : Type} (g : State → α) (hg : ∀ st data r s, g (answerFrame st data r s) = g s)
    (hkept : ∀ {s t : State}, t.kept = s.kept → g t = g s) {c : Instr} (s : State) (hform : frameForm c ≠ none)
    (hwrites : writesSettings c = false) : ∃ t, exec c s = .next t ∧ g t = g s := by
  cases c
  case programRead p =>
    simp only [exec, execProgramRead]
    split <;> exact unlessReset_read_keeps g hg s _ _ _ _ _ rfl
  case ruleRead p =>
    simp only [exec, execRuleRead]
    split <;> exact unlessReset_read_keeps g hg s _ _ _ _ _ rfl
  case readCounters p =>
    refine unlessReset_read_keeps g hg s _ _ _ _ _ (hkept ?_)
    split <;> simp
  case readStatus | zoneRead | readBoard | readPeers | readReports | readAlert =>
    exact unlessReset_read_keeps g hg s _ _ _ _ _ (hkept rfl)
  case assign p =>
    refine unlessReset_write_keeps g hg s _ _ (hkept ?_)
    unfold assignFrame
    dsimp only
    (repeat' split) <;> simp
  case setClock | sample | fire | abort | schedule | openCourse | release | hold | closeCourse | plates | wareSet |
      conveyorReset | sanitizeAck | page | freeBank | clearAlert | withdraw | restart =>
    refine unlessReset_write_keeps g hg s _ _ (hkept ?_)
    beta_reduce
    (repeat' split) <;> simp [mapWare_unfaulted_kept, mapWare_acknowledged_kept]
  all_goals first | exact absurd rfl hform | cases hwrites

/-- Every frame keeps the queue of waiting commands, the reset line, the OE input and the straps. -/
theorem exec_frame_core {c : Instr} (s : State) (hform : frameForm c ≠ none) :
    ∃ t, exec c s = .next t ∧ t.core = s.core := by
  have hwrite (ok before : Bool) (act : State → State × Result) (hact : (act s).1.core = s.core) :=
    unlessReset_write_keeps State.core answerFrame_core s ok before hact
  cases hwrites : writesSettings c with
  | false => exact exec_frame_keeps State.core answerFrame_core core_of_kept s hform hwrites
  | true =>
    cases c
    case resetReleased => exact absurd rfl hform
    case configure p => exact hwrite _ _ _ (configure_core p s)
    case zoneSet p =>
      refine hwrite _ _ _ ?_
      dsimp only
      (repeat' split) <;> simp [setZones_core]
    case programWrite p => exact hwrite _ _ _ (writeProgram_core p s)
    case ruleWrite p => exact hwrite _ _ _ (by split <;> rfl)
    case groupWrite p => exact hwrite _ _ _ (by split <;> simp [writeGroup_core])
    case duty p => exact hwrite _ _ _ (by split <;> simp [setDuty_core])
    case coverageWrite p => exact hwrite _ _ _ (by split <;> rfl)
    case alertMask p => exact hwrite _ _ _ rfl
    all_goals cases hwrites

/-! ### The OE input and UNKNOWN -/

theorem setOe_kept (high : Bool) (s : State) : (setOe high s).kept = ({ s with oe := high } : State).kept := by
  unfold setOe
  dsimp only
  split <;> simp

theorem exec_oeInterlockChange_kept (high : Bool) (s : State) :
    ∃ t, exec (.oeInterlockChange high) s = .next t ∧ t.kept = ({ s with oe := high } : State).kept := by
  refine ⟨_, rfl, ?_⟩
  split
  · rfl
  · exact setOe_kept high s

theorem exec_unknown_keeps {α : Type} (g : State → α) (hg : ∀ st data r s, g (answerFrame st data r s) = g s)
    (code : Byte) (p : List Byte) (s : State) : ∃ t, exec (.unknown code p) s = .next t ∧ g t = g s := by
  refine ⟨_, rfl, ?_⟩
  repeat' split
  · rfl
  · exact hg ..
  · rfl

end Sys2Proof.Machine

namespace Sys2Proof.Proofs
open Sys2Proof.Machine

/-- Settles O4: by the kinds of command, frames, events, UNKNOWN, the OE input and reset. -/
theorem everyCommandCompletes : Obligations.EveryCommandCompletes := by
  intro c s
  by_cases hform : frameForm c = none
  case neg =>
    obtain ⟨t, hexec, hcore⟩ := exec_frame_core s hform
    simp only [State.core, Core.mk.injEq] at hcore
    obtain ⟨hpending, hreset, hoe, hstraps⟩ := hcore
    exact ⟨t, hexec, hpending, fun _ => hstraps, fun _ _ => hreset, fun _ => hoe, fun h => absurd h hform⟩
  by_cases hreleased : ∃ straps, c = .resetReleased straps
  · obtain ⟨straps, rfl⟩ := hreleased
    exact ⟨_, rfl, rfl, fun h => absurd rfl (h straps), fun h => absurd rfl (h straps), fun _ => rfl,
      fun _ _ h => absurd rfl (h straps)⟩
  by_cases hasserted : c = .resetAsserted
  · subst hasserted
    exact ⟨_, rfl, rfl, fun _ => rfl, fun _ h => absurd rfl h, fun _ => rfl, fun _ _ _ h => absurd rfl h⟩
  by_cases hunknown : ∃ code p, c = .unknown code p
  · obtain ⟨code, p, rfl⟩ := hunknown
    obtain ⟨t, hexec, hcore⟩ := exec_unknown_keeps State.core answerFrame_core code p s
    simp only [State.core, Core.mk.injEq] at hcore
    obtain ⟨hpending, hreset, hoe, hstraps⟩ := hcore
    exact ⟨t, hexec, hpending, fun _ => hstraps, fun _ _ => hreset, fun _ => hoe, fun _ h => absurd rfl (h code p)⟩
  by_cases hoe : ∃ high, c = .oeInterlockChange high
  · obtain ⟨high, rfl⟩ := hoe
    obtain ⟨t, hexec, hkept⟩ := exec_oeInterlockChange_kept high s
    simp only [State.kept, Kept.mk.injEq, State.settings, Settings.mk.injEq] at hkept
    exact ⟨t, hexec, by simp [hkept], fun _ => by simp [hkept], fun _ _ => by simp [hkept],
      fun h => absurd rfl (h high), fun _ _ _ _ => by simp [hkept]⟩
  · obtain ⟨t, hexec, hkept⟩ := exec_event_kept s hform (fun code p h => hunknown ⟨code, p, h⟩)
      (fun straps h => hreleased ⟨straps, h⟩) hasserted (fun high h => hoe ⟨high, h⟩)
    simp only [State.kept, Kept.mk.injEq, State.settings, Settings.mk.injEq] at hkept
    exact ⟨t, hexec, by simp [hkept], fun _ => by simp [hkept], fun _ _ => by simp [hkept], fun _ => by simp [hkept],
      fun _ _ _ _ => by simp [hkept]⟩

/-- Settles O5: the frames that write no settings keep them, and so does every command that is no frame. -/
theorem settingsKept : Obligations.SettingsKept := by
  intro c s t hwrites hexec
  suffices ∃ t', exec c s = .next t' ∧ t'.settings = s.settings by
    obtain ⟨t', hexec', hsettings⟩ := this
    rw [hexec] at hexec'
    cases hexec'
    exact hsettings
  by_cases hform : frameForm c = none
  case neg => exact exec_frame_keeps State.settings answerFrame_settings settings_of_kept s hform hwrites
  by_cases hasserted : c = .resetAsserted
  · subst hasserted
    exact ⟨_, rfl, rfl⟩
  by_cases hunknown : ∃ code p, c = .unknown code p
  · obtain ⟨code, p, rfl⟩ := hunknown
    exact exec_unknown_keeps State.settings answerFrame_settings code p s
  by_cases hoe : ∃ high, c = .oeInterlockChange high
  · obtain ⟨high, rfl⟩ := hoe
    obtain ⟨t', hexec', hkept⟩ := exec_oeInterlockChange_kept high s
    exact ⟨t', hexec', (settings_of_kept hkept).trans rfl⟩
  · obtain ⟨t', hexec', hkept⟩ := exec_event_kept s hform (fun code p h => hunknown ⟨code, p, h⟩)
      (fun straps h => by subst h; cases hwrites) hasserted (fun high h => hoe ⟨high, h⟩)
    exact ⟨t', hexec', settings_of_kept hkept⟩

end Sys2Proof.Proofs

/-! SUPPORT. The idle millisecond, reset and what the state after it meets: O1, O2, O3 and O19. -/

namespace Sys2Proof.Machine

/-- With no head waiting, or the access machine at rest, no wait time grows. -/
theorem waiter_eq_none {b : Bus} (h : b.access.waits = false ∨ headOf b.queue = none) : b.waiter = none := by
  unfold Bus.waiter
  rcases h with h | h <;> simp [h]

theorem waiter_eq_some {b : Bus} {h : TxEntry} (hwaits : b.access.waits = true) (hhead : headOf b.queue = some h) :
    b.waiter = some h := by simp [Bus.waiter, hwaits, hhead]

/-- The repeat records have no part in who waits. -/
theorem waiter_repeats (b : Bus) (r : Vector (Option RepeatRec) 32) : ({ b with repeats := r } : Bus).waiter = b.waiter :=
  rfl

theorem ageRepeats_inReset (f : RepeatRec → RepeatRec) (s : State) : (ageRepeats f s).inReset = s.inReset := by
  simp only [ageRepeats]

/-- In a queue with distinct identities, a rewrite by identity touches the one entry alone. -/
theorem map_id_eq {l1 l2 : List TxEntry} {x : TxEntry} (hids : ((l1 ++ x :: l2).map (·.id)).Nodup) (f : TxEntry → TxEntry) :
    ((l1 ++ x :: l2).map fun e => if e.id = x.id then f e else e) = l1 ++ f x :: l2 := by
  have hdisj := List.nodup_append.mp (List.map_append ▸ hids)
  obtain ⟨-, hright, hcross⟩ := hdisj
  rw [List.map_cons, List.nodup_cons] at hright
  have hl1 : ∀ e ∈ l1, e.id ≠ x.id := fun e he =>
    hcross e.id (List.mem_map_of_mem he) x.id (by simp)
  have hl2 : ∀ e ∈ l2, e.id ≠ x.id := fun e he h => hright.1 (h ▸ List.mem_map_of_mem he)
  have hkeep (l : List TxEntry) (hl : ∀ e ∈ l, e.id ≠ x.id) : (l.map fun e => if e.id = x.id then f e else e) = l :=
    (List.map_congr_left fun e he => if_neg (hl e he)).trans (List.map_id' l)
  rw [List.map_append, List.map_cons, if_pos rfl, hkeep l1 hl1, hkeep l2 hl2]

end Sys2Proof.Machine

namespace Sys2Proof.Proofs
open Sys2Proof.Machine

/-- Settles O2: R173, by the commands; `unlessReset` shuts out every other. -/
theorem heldInReset : Obligations.HeldInReset := by
  refine ⟨fun s => ⟨_, rfl, rfl⟩, fun s hreset => ?_⟩
  refine ⟨fun z => by simp [State.heaterOut, hreset], by simp [State.conveyorOut, hreset],
    by simp [State.sanitizeOut, hreset], by simp [State.alertLow, hreset], fun high => ?_, ?_, ?_, ?_⟩
  · show Host.Outcome.next _ = _
    rw [if_pos hreset]
  · simp [exec, execLineIdle, setBusy, State.receiverOn, hreset]
  · simp [exec, execLineBusy, setBusy, State.receiverOn, hreset]
  · intro c hreleased hoe hasserted hidle hbusy
    have hnone (f : State → State) : unlessReset s f = .next s := by simp [unlessReset, hreset]
    cases c
    case resetReleased straps => exact absurd rfl (hreleased straps)
    case oeInterlockChange high => exact absurd rfl (hoe high)
    case resetAsserted => exact absurd rfl hasserted
    case lineIdle => exact absurd rfl hidle
    case lineBusy => exact absurd rfl hbusy
    all_goals
      simp only [exec, execLoadPeriodExpiry, execCollision, execNoticeCompleted, execScheduleEntryFires, execClearCall,
        execPageTimeout, execDeferralLimit, execCompletionTimeout, execRadioMessageDiscarded, execTransmitSent]
      exact hnone _

/-- Settles O3: each block is its reset value, and the kept parts are those of the state before. -/
theorem resetReleased : Obligations.ResetReleased := by
  intro straps s
  refine ⟨_, rfl, ?_⟩
  simp [State.resetWith, Port.reset, Heat.reset, Prog.reset, Load.reset, Bus.reset, Course.reset, Ware.reset, Route.reset,
    PageBlock.reset, Relay.reset, Mailbox.reset, Bank.reset, Zone.reset, Run.idle, Rule.blank, Bus.deafened]

/-- Settles O1: an idle step ages the repeat records and then lets the head wait its millisecond. -/
theorem stepTakesFront : Obligations.StepTakesFront := by
  refine ⟨fun _ _ => rfl, fun s hpending => ?_⟩
  have hstep : step s = .next (idleStep s) := by simp [step, hpending]
  dsimp only
  rw [hstep]
  refine ⟨fun hreset => by simp [idleStep, hreset], fun hreset => ?_⟩
  have hidle : idleStep s = waitMilli (ageRepeats RepeatRec.milli s) := by simp [idleStep, hreset]
  have hwaiter : (ageRepeats RepeatRec.milli s).bus.waiter = s.bus.waiter :=
    waiter_repeats s.bus _
  rw [hidle]
  refine ⟨fun hrest => ?_, fun h hwaits hhead => ⟨fun hlate => ?_, fun hearly htx l1 l2 hqueue => ?_⟩⟩
  · rw [waitMilli, hwaiter, waiter_eq_none hrest]
    rfl
  · have hsome := hwaiter.trans (waiter_eq_some hwaits hhead)
    have hbrink : (ageRepeats RepeatRec.milli s).bus.brinkDefer = true := by
      rw [Bus.brinkDefer, hsome]
      simpa using hlate
    have hdrop : execDeferDrop (ageRepeats RepeatRec.milli s) = .next (waitMilli (ageRepeats RepeatRec.milli s)) := by
      have haged : (ageRepeats RepeatRec.milli s).inReset = false := by rw [ageRepeats_inReset, hreset]
      rw [execDeferDrop, unlessReset_of_not_inReset haged, if_pos hbrink]
    exact hdrop.symm
  · have hsome := hwaiter.trans (waiter_eq_some hwaits hhead)
    have hids := htx.ids
    rw [hqueue] at hids
    have hmap := map_id_eq hids fun e => { e with waitMs := e.waitMs + 1 }
    rw [waitMilli, hsome]
    simp only [if_neg (Nat.not_le.mpr hearly)]
    simp only [ageRepeats, hqueue, hmap]
    rfl

/-- Settles O19: each condition on the reset values. -/
theorem resetMeetsAll : Obligations.ResetMeetsAll := by
  intro straps oe
  dsimp only
  have hzone (z : ZoneNo) : (State.resetWith straps oe).heat.zones[z] = Zone.reset := by
    simp [State.resetWith, Heat.reset]
  have hrun (z : ZoneNo) : (State.resetWith straps oe).prog.runs[z] = Run.idle := by
    simp [State.resetWith, Prog.reset]
  have hplates (c : CourseNo) : (State.resetWith straps oe).prog.plates[c] = 0 := by
    simp [State.resetWith, Prog.reset]
  have hlink : (State.resetWith straps oe).bus.link = if straps.number = 0 then .monitor else .off := rfl
  have hheats : (State.resetWith straps oe).bus.link.heats = false := by rw [hlink]; split <;> rfl
  refine ⟨?_, ?_, ?_, ?_, ?_, ?_, ?_, ?_, ?_, ?_, ?_⟩
  · constructor <;> simp [State.resetWith, Bus.reset]
  · refine ⟨Nat.zero_le _, fun _ => Nat.zero_le _, fun _ => Nat.zero_le _, fun _ => rfl, Nat.zero_le _, Nat.zero_le _,
      fun _ => ⟨?_, rfl, rfl⟩⟩
    rw [hlink]
    split <;> simp
  · constructor <;> simp [State.resetWith, Course.reset]
  · constructor
    case counts => exact fun c => by rw [hplates]; omega
    case monitor => exact fun h => ⟨by rw [hlink]; exact if_pos h, rfl, fun z => by rw [hrun]; rfl⟩
    all_goals simp [State.resetWith, Course.reset]
  · intro _ h
    cases h
  · intro z h
    rw [State.heaterOut, hzone] at h
    simp [Zone.reset] at h
  · constructor <;> simp [State.resetWith, Ware.reset]
  · constructor
    case size | full | notFull | empty | order =>
      exact fun i => by fin_cases i <;> simp [State.resetWith, Port.reset, Mailbox.reset, Bank.reset, Mailbox.bank]
    all_goals simp [State.resetWith, Port.reset, Mailbox.reset, Bank.reset]
  · constructor
    case rules => simp [State.resetWith, Route.reset, Rule.inRange, Rule.blank]
    all_goals simp [State.resetWith, PageBlock.reset, Route.reset]
  · constructor <;> simp [State.resetWith, Relay.reset]
  · constructor
    case ages => exact fun z => by rw [hzone]; exact Nat.le_refl 6
    all_goals simp [State.resetWith, Route.reset, Course.reset, Load.reset, Ware.reset, Heat.reset]

end Sys2Proof.Proofs

/-! SUPPORT. What the shared operations that branch leave alone, block by block: the transmit queue's taking of a notice, the
grant's following, the conveyor, the change of link, and a COURSE notice handed. -/

namespace Sys2Proof.Machine

/-! ### Notices taken and handed -/

@[simp] theorem takeNotice_pending (b : Body) (s : State) : (takeNotice b s).pending = s.pending := by
  unfold takeNotice; (repeat' split) <;> rfl
@[simp] theorem takeNotice_inReset (b : Body) (s : State) : (takeNotice b s).inReset = s.inReset := by
  unfold takeNotice; (repeat' split) <;> rfl
@[simp] theorem takeNotice_oe (b : Body) (s : State) : (takeNotice b s).oe = s.oe := by
  unfold takeNotice; (repeat' split) <;> rfl
@[simp] theorem takeNotice_heat (b : Body) (s : State) : (takeNotice b s).heat = s.heat := by
  unfold takeNotice; (repeat' split) <;> rfl
@[simp] theorem takeNotice_prog (b : Body) (s : State) : (takeNotice b s).prog = s.prog := by
  unfold takeNotice; (repeat' split) <;> rfl
@[simp] theorem takeNotice_load (b : Body) (s : State) : (takeNotice b s).load = s.load := by
  unfold takeNotice; (repeat' split) <;> rfl
@[simp] theorem takeNotice_course (b : Body) (s : State) : (takeNotice b s).course = s.course := by
  unfold takeNotice; (repeat' split) <;> rfl
@[simp] theorem takeNotice_ware (b : Body) (s : State) : (takeNotice b s).ware = s.ware := by
  unfold takeNotice; (repeat' split) <;> rfl
@[simp] theorem takeNotice_route (b : Body) (s : State) : (takeNotice b s).route = s.route := by
  unfold takeNotice; (repeat' split) <;> rfl
@[simp] theorem takeNotice_relay (b : Body) (s : State) : (takeNotice b s).relay = s.relay := by
  unfold takeNotice; (repeat' split) <;> rfl
@[simp] theorem takeNotice_page_groups (b : Body) (s : State) : (takeNotice b s).page.groups = s.page.groups := by
  unfold takeNotice; (repeat' split) <;> rfl
@[simp] theorem takeNotice_page_next (b : Body) (s : State) : (takeNotice b s).page.next = s.page.next := by
  unfold takeNotice; (repeat' split) <;> rfl
@[simp] theorem takeNotice_port_straps (b : Body) (s : State) : (takeNotice b s).port.straps = s.port.straps := by
  unfold takeNotice; (repeat' split) <;> rfl
@[simp] theorem takeNotice_port_configured (b : Body) (s : State) : (takeNotice b s).port.configured = s.port.configured := by
  unfold takeNotice; (repeat' split) <;> rfl
@[simp] theorem takeNotice_port_lastResult (b : Body) (s : State) : (takeNotice b s).port.lastResult = s.port.lastResult := by
  unfold takeNotice; (repeat' split) <;> rfl
@[simp] theorem takeNotice_port_dataOut (b : Body) (s : State) : (takeNotice b s).port.dataOut = s.port.dataOut := by
  unfold takeNotice; (repeat' split) <;> rfl
@[simp] theorem takeNotice_port_mailbox (b : Body) (s : State) : (takeNotice b s).port.mailbox = s.port.mailbox := by
  unfold takeNotice; (repeat' split) <;> rfl
@[simp] theorem takeNotice_port_latched (b : Body) (s : State) : (takeNotice b s).port.latched = s.port.latched := by
  unfold takeNotice; (repeat' split) <;> rfl
@[simp] theorem takeNotice_port_mask (b : Body) (s : State) : (takeNotice b s).port.mask = s.port.mask := by
  unfold takeNotice; (repeat' split) <;> rfl

@[simp] theorem hand_pending (b : Body) (s : State) : (hand b s).pending = s.pending := by
  unfold hand; split <;> simp
@[simp] theorem hand_inReset (b : Body) (s : State) : (hand b s).inReset = s.inReset := by
  unfold hand; split <;> simp
@[simp] theorem hand_oe (b : Body) (s : State) : (hand b s).oe = s.oe := by
  unfold hand; split <;> simp
@[simp] theorem hand_heat (b : Body) (s : State) : (hand b s).heat = s.heat := by
  unfold hand; split <;> simp
@[simp] theorem hand_prog (b : Body) (s : State) : (hand b s).prog = s.prog := by
  unfold hand; split <;> simp
@[simp] theorem hand_load (b : Body) (s : State) : (hand b s).load = s.load := by
  unfold hand; split <;> simp
@[simp] theorem hand_course (b : Body) (s : State) : (hand b s).course = s.course := by
  unfold hand; split <;> simp
@[simp] theorem hand_ware (b : Body) (s : State) : (hand b s).ware = s.ware := by
  unfold hand; split <;> simp
@[simp] theorem hand_route (b : Body) (s : State) : (hand b s).route = s.route := by
  unfold hand; split <;> simp
@[simp] theorem hand_relay (b : Body) (s : State) : (hand b s).relay = s.relay := by
  unfold hand; split <;> simp
@[simp] theorem hand_page_groups (b : Body) (s : State) : (hand b s).page.groups = s.page.groups := by
  unfold hand; split <;> simp
@[simp] theorem hand_page_next (b : Body) (s : State) : (hand b s).page.next = s.page.next := by
  unfold hand; split <;> simp
@[simp] theorem hand_port_straps (b : Body) (s : State) : (hand b s).port.straps = s.port.straps := by
  unfold hand; split <;> simp
@[simp] theorem hand_port_configured (b : Body) (s : State) : (hand b s).port.configured = s.port.configured := by
  unfold hand; split <;> simp
@[simp] theorem hand_port_lastResult (b : Body) (s : State) : (hand b s).port.lastResult = s.port.lastResult := by
  unfold hand; split <;> simp
@[simp] theorem hand_port_dataOut (b : Body) (s : State) : (hand b s).port.dataOut = s.port.dataOut := by
  unfold hand; split <;> simp
@[simp] theorem hand_port_mailbox (b : Body) (s : State) : (hand b s).port.mailbox = s.port.mailbox := by
  unfold hand; split <;> simp
@[simp] theorem hand_port_latched (b : Body) (s : State) : (hand b s).port.latched = s.port.latched := by
  unfold hand; split <;> simp
@[simp] theorem hand_port_mask (b : Body) (s : State) : (hand b s).port.mask = s.port.mask := by
  unfold hand; split <;> simp

/-! ### The grant -/

@[simp] theorem applyGrant_pending (g : Nat) (s : State) : (applyGrant g s).pending = s.pending := by
  unfold applyGrant; dsimp only; split <;> rfl
@[simp] theorem applyGrant_inReset (g : Nat) (s : State) : (applyGrant g s).inReset = s.inReset := by
  unfold applyGrant; dsimp only; split <;> rfl
@[simp] theorem applyGrant_oe (g : Nat) (s : State) : (applyGrant g s).oe = s.oe := by
  unfold applyGrant; dsimp only; split <;> rfl
@[simp] theorem applyGrant_prog (g : Nat) (s : State) : (applyGrant g s).prog = s.prog := by
  unfold applyGrant; dsimp only; split <;> rfl
@[simp] theorem applyGrant_bus (g : Nat) (s : State) : (applyGrant g s).bus = s.bus := by
  unfold applyGrant; dsimp only; split <;> rfl
@[simp] theorem applyGrant_course (g : Nat) (s : State) : (applyGrant g s).course = s.course := by
  unfold applyGrant; dsimp only; split <;> rfl
@[simp] theorem applyGrant_ware (g : Nat) (s : State) : (applyGrant g s).ware = s.ware := by
  unfold applyGrant; dsimp only; split <;> rfl
@[simp] theorem applyGrant_route (g : Nat) (s : State) : (applyGrant g s).route = s.route := by
  unfold applyGrant; dsimp only; split <;> rfl
@[simp] theorem applyGrant_page (g : Nat) (s : State) : (applyGrant g s).page = s.page := by
  unfold applyGrant; dsimp only; split <;> rfl
@[simp] theorem applyGrant_relay (g : Nat) (s : State) : (applyGrant g s).relay = s.relay := by
  unfold applyGrant; dsimp only; split <;> rfl
@[simp] theorem applyGrant_port (g : Nat) (s : State) : (applyGrant g s).port = s.port := by
  unfold applyGrant; dsimp only; split <;> rfl
@[simp] theorem applyGrant_heat_step (g : Nat) (s : State) : (applyGrant g s).heat.step = s.heat.step := by
  unfold applyGrant; dsimp only; split <;> rfl

@[simp] theorem lowerGrant_pending (g : Nat) (s : State) : (lowerGrant g s).pending = s.pending := by
  unfold lowerGrant; split <;> simp
@[simp] theorem lowerGrant_inReset (g : Nat) (s : State) : (lowerGrant g s).inReset = s.inReset := by
  unfold lowerGrant; split <;> simp
@[simp] theorem lowerGrant_oe (g : Nat) (s : State) : (lowerGrant g s).oe = s.oe := by
  unfold lowerGrant; split <;> simp
@[simp] theorem lowerGrant_prog (g : Nat) (s : State) : (lowerGrant g s).prog = s.prog := by
  unfold lowerGrant; split <;> simp
@[simp] theorem lowerGrant_bus (g : Nat) (s : State) : (lowerGrant g s).bus = s.bus := by
  unfold lowerGrant; split <;> simp
@[simp] theorem lowerGrant_course (g : Nat) (s : State) : (lowerGrant g s).course = s.course := by
  unfold lowerGrant; split <;> simp
@[simp] theorem lowerGrant_ware (g : Nat) (s : State) : (lowerGrant g s).ware = s.ware := by
  unfold lowerGrant; split <;> simp
@[simp] theorem lowerGrant_route (g : Nat) (s : State) : (lowerGrant g s).route = s.route := by
  unfold lowerGrant; split <;> simp
@[simp] theorem lowerGrant_page (g : Nat) (s : State) : (lowerGrant g s).page = s.page := by
  unfold lowerGrant; split <;> simp
@[simp] theorem lowerGrant_relay (g : Nat) (s : State) : (lowerGrant g s).relay = s.relay := by
  unfold lowerGrant; split <;> simp
@[simp] theorem lowerGrant_port (g : Nat) (s : State) : (lowerGrant g s).port = s.port := by
  unfold lowerGrant; split <;> simp
@[simp] theorem lowerGrant_heat_step (g : Nat) (s : State) : (lowerGrant g s).heat.step = s.heat.step := by
  unfold lowerGrant; split <;> simp

@[simp] theorem followDemand_pending (s : State) : (followDemand s).pending = s.pending := by
  simp [followDemand]
@[simp] theorem followDemand_inReset (s : State) : (followDemand s).inReset = s.inReset := by
  simp [followDemand]
@[simp] theorem followDemand_oe (s : State) : (followDemand s).oe = s.oe := by
  simp [followDemand]
@[simp] theorem followDemand_prog (s : State) : (followDemand s).prog = s.prog := by
  simp [followDemand]
@[simp] theorem followDemand_bus (s : State) : (followDemand s).bus = s.bus := by
  simp [followDemand]
@[simp] theorem followDemand_course (s : State) : (followDemand s).course = s.course := by
  simp [followDemand]
@[simp] theorem followDemand_ware (s : State) : (followDemand s).ware = s.ware := by
  simp [followDemand]
@[simp] theorem followDemand_route (s : State) : (followDemand s).route = s.route := by
  simp [followDemand]
@[simp] theorem followDemand_page (s : State) : (followDemand s).page = s.page := by
  simp [followDemand]
@[simp] theorem followDemand_relay (s : State) : (followDemand s).relay = s.relay := by
  simp [followDemand]
@[simp] theorem followDemand_port (s : State) : (followDemand s).port = s.port := by
  simp [followDemand]
@[simp] theorem followDemand_heat_step (s : State) : (followDemand s).heat.step = s.heat.step := by
  simp [followDemand]

@[simp] theorem regrant_pending (s : State) : (regrant s).pending = s.pending := by
  simp [regrant]
@[simp] theorem regrant_inReset (s : State) : (regrant s).inReset = s.inReset := by
  simp [regrant]
@[simp] theorem regrant_oe (s : State) : (regrant s).oe = s.oe := by
  simp [regrant]
@[simp] theorem regrant_prog (s : State) : (regrant s).prog = s.prog := by
  simp [regrant]
@[simp] theorem regrant_bus (s : State) : (regrant s).bus = s.bus := by
  simp [regrant]
@[simp] theorem regrant_course (s : State) : (regrant s).course = s.course := by
  simp [regrant]
@[simp] theorem regrant_ware (s : State) : (regrant s).ware = s.ware := by
  simp [regrant]
@[simp] theorem regrant_route (s : State) : (regrant s).route = s.route := by
  simp [regrant]
@[simp] theorem regrant_page (s : State) : (regrant s).page = s.page := by
  simp [regrant]
@[simp] theorem regrant_relay (s : State) : (regrant s).relay = s.relay := by
  simp [regrant]
@[simp] theorem regrant_port (s : State) : (regrant s).port = s.port := by
  simp [regrant]
@[simp] theorem regrant_heat_step (s : State) : (regrant s).heat.step = s.heat.step := by
  simp [regrant]

/-! ### The conveyor -/

@[simp] theorem driveConveyor_pending (s : State) : (driveConveyor s).pending = s.pending := by
  unfold driveConveyor; dsimp only; split <;> rfl
@[simp] theorem driveConveyor_inReset (s : State) : (driveConveyor s).inReset = s.inReset := by
  unfold driveConveyor; dsimp only; split <;> rfl
@[simp] theorem driveConveyor_oe (s : State) : (driveConveyor s).oe = s.oe := by
  unfold driveConveyor; dsimp only; split <;> rfl
@[simp] theorem driveConveyor_heat (s : State) : (driveConveyor s).heat = s.heat := by
  unfold driveConveyor; dsimp only; split <;> rfl
@[simp] theorem driveConveyor_prog (s : State) : (driveConveyor s).prog = s.prog := by
  unfold driveConveyor; dsimp only; split <;> rfl
@[simp] theorem driveConveyor_load (s : State) : (driveConveyor s).load = s.load := by
  unfold driveConveyor; dsimp only; split <;> rfl
@[simp] theorem driveConveyor_bus (s : State) : (driveConveyor s).bus = s.bus := by
  unfold driveConveyor; dsimp only; split <;> rfl
@[simp] theorem driveConveyor_course (s : State) : (driveConveyor s).course = s.course := by
  unfold driveConveyor; dsimp only; split <;> rfl
@[simp] theorem driveConveyor_page (s : State) : (driveConveyor s).page = s.page := by
  unfold driveConveyor; dsimp only; split <;> rfl
@[simp] theorem driveConveyor_relay (s : State) : (driveConveyor s).relay = s.relay := by
  unfold driveConveyor; dsimp only; split <;> rfl
@[simp] theorem driveConveyor_route_rules (s : State) : (driveConveyor s).route.rules = s.route.rules := by
  unfold driveConveyor; dsimp only; split <;> rfl
@[simp] theorem driveConveyor_route_evaluation (s : State) : (driveConveyor s).route.evaluation = s.route.evaluation := by
  unfold driveConveyor; dsimp only; split <;> rfl
@[simp] theorem driveConveyor_port_straps (s : State) : (driveConveyor s).port.straps = s.port.straps := by
  unfold driveConveyor; dsimp only; split <;> rfl
@[simp] theorem driveConveyor_port_configured (s : State) : (driveConveyor s).port.configured = s.port.configured := by
  unfold driveConveyor; dsimp only; split <;> rfl
@[simp] theorem driveConveyor_port_lastResult (s : State) : (driveConveyor s).port.lastResult = s.port.lastResult := by
  unfold driveConveyor; dsimp only; split <;> rfl
@[simp] theorem driveConveyor_port_dataOut (s : State) : (driveConveyor s).port.dataOut = s.port.dataOut := by
  unfold driveConveyor; dsimp only; split <;> rfl
@[simp] theorem driveConveyor_port_mailbox (s : State) : (driveConveyor s).port.mailbox = s.port.mailbox := by
  unfold driveConveyor; dsimp only; split <;> rfl
@[simp] theorem driveConveyor_port_mask (s : State) : (driveConveyor s).port.mask = s.port.mask := by
  unfold driveConveyor; dsimp only; split <;> rfl
@[simp] theorem driveConveyor_ware_washZone (s : State) : (driveConveyor s).ware.washZone = s.ware.washZone := by
  unfold driveConveyor; dsimp only; split <;> rfl
@[simp] theorem driveConveyor_ware_rinseZone (s : State) : (driveConveyor s).ware.rinseZone = s.ware.rinseZone := by
  unfold driveConveyor; dsimp only; split <;> rfl
@[simp] theorem driveConveyor_ware_sanMin (s : State) : (driveConveyor s).ware.sanMin = s.ware.sanMin := by
  unfold driveConveyor; dsimp only; split <;> rfl
@[simp] theorem driveConveyor_ware_washMin (s : State) : (driveConveyor s).ware.washMin = s.ware.washMin := by
  unfold driveConveyor; dsimp only; split <;> rfl
@[simp] theorem driveConveyor_ware_maxDwell (s : State) : (driveConveyor s).ware.maxDwell = s.ware.maxDwell := by
  unfold driveConveyor; dsimp only; split <;> rfl
@[simp] theorem driveConveyor_ware_high (s : State) : (driveConveyor s).ware.high = s.ware.high := by
  unfold driveConveyor; dsimp only; split <;> rfl
@[simp] theorem driveConveyor_ware_low (s : State) : (driveConveyor s).ware.low = s.ware.low := by
  unfold driveConveyor; dsimp only; split <;> rfl
@[simp] theorem driveConveyor_ware_enable (s : State) : (driveConveyor s).ware.enable = s.ware.enable := by
  unfold driveConveyor; dsimp only; split <;> rfl
@[simp] theorem driveConveyor_ware_waiting (s : State) : (driveConveyor s).ware.waiting = s.ware.waiting := by
  unfold driveConveyor; dsimp only; split <;> rfl
@[simp] theorem driveConveyor_ware_racks (s : State) : (driveConveyor s).ware.racks = s.ware.racks := by
  unfold driveConveyor; dsimp only; split <;> rfl
@[simp] theorem driveConveyor_ware_nextSeq (s : State) : (driveConveyor s).ware.nextSeq = s.ware.nextSeq := by
  unfold driveConveyor; dsimp only; split <;> rfl
@[simp] theorem driveConveyor_ware_heldLow (s : State) : (driveConveyor s).ware.heldLow = s.ware.heldLow := by
  unfold driveConveyor; dsimp only; split <;> rfl
@[simp] theorem driveConveyor_ware_levelHigh (s : State) : (driveConveyor s).ware.levelHigh = s.ware.levelHigh := by
  unfold driveConveyor; dsimp only; split <;> rfl
@[simp] theorem driveConveyor_ware_repeatCount (s : State) : (driveConveyor s).ware.repeatCount = s.ware.repeatCount := by
  unfold driveConveyor; dsimp only; split <;> rfl
@[simp] theorem driveConveyor_ware_wash (s : State) : (driveConveyor s).ware.wash = s.ware.wash := by
  unfold driveConveyor; dsimp only; split <;> rfl
@[simp] theorem driveConveyor_ware_subCause (s : State) : (driveConveyor s).ware.subCause = s.ware.subCause := by
  unfold driveConveyor; dsimp only; split <;> rfl

@[simp] theorem evalConveyor_pending (s : State) : (evalConveyor s).pending = s.pending := by
  unfold evalConveyor; split <;> simp
@[simp] theorem evalConveyor_inReset (s : State) : (evalConveyor s).inReset = s.inReset := by
  unfold evalConveyor; split <;> simp
@[simp] theorem evalConveyor_oe (s : State) : (evalConveyor s).oe = s.oe := by
  unfold evalConveyor; split <;> simp
@[simp] theorem evalConveyor_heat (s : State) : (evalConveyor s).heat = s.heat := by
  unfold evalConveyor; split <;> simp
@[simp] theorem evalConveyor_prog (s : State) : (evalConveyor s).prog = s.prog := by
  unfold evalConveyor; split <;> simp
@[simp] theorem evalConveyor_load (s : State) : (evalConveyor s).load = s.load := by
  unfold evalConveyor; split <;> simp
@[simp] theorem evalConveyor_bus (s : State) : (evalConveyor s).bus = s.bus := by
  unfold evalConveyor; split <;> simp
@[simp] theorem evalConveyor_course (s : State) : (evalConveyor s).course = s.course := by
  unfold evalConveyor; split <;> simp
@[simp] theorem evalConveyor_page (s : State) : (evalConveyor s).page = s.page := by
  unfold evalConveyor; split <;> simp
@[simp] theorem evalConveyor_relay (s : State) : (evalConveyor s).relay = s.relay := by
  unfold evalConveyor; split <;> simp
@[simp] theorem evalConveyor_route_rules (s : State) : (evalConveyor s).route.rules = s.route.rules := by
  unfold evalConveyor; split <;> simp
@[simp] theorem evalConveyor_route_evaluation (s : State) : (evalConveyor s).route.evaluation = s.route.evaluation := by
  unfold evalConveyor; split <;> simp
@[simp] theorem evalConveyor_port_straps (s : State) : (evalConveyor s).port.straps = s.port.straps := by
  unfold evalConveyor; split <;> simp
@[simp] theorem evalConveyor_port_configured (s : State) : (evalConveyor s).port.configured = s.port.configured := by
  unfold evalConveyor; split <;> simp
@[simp] theorem evalConveyor_port_lastResult (s : State) : (evalConveyor s).port.lastResult = s.port.lastResult := by
  unfold evalConveyor; split <;> simp
@[simp] theorem evalConveyor_port_dataOut (s : State) : (evalConveyor s).port.dataOut = s.port.dataOut := by
  unfold evalConveyor; split <;> simp
@[simp] theorem evalConveyor_port_mailbox (s : State) : (evalConveyor s).port.mailbox = s.port.mailbox := by
  unfold evalConveyor; split <;> simp
@[simp] theorem evalConveyor_port_mask (s : State) : (evalConveyor s).port.mask = s.port.mask := by
  unfold evalConveyor; split <;> simp
@[simp] theorem evalConveyor_ware_washZone (s : State) : (evalConveyor s).ware.washZone = s.ware.washZone := by
  unfold evalConveyor; split <;> simp
@[simp] theorem evalConveyor_ware_rinseZone (s : State) : (evalConveyor s).ware.rinseZone = s.ware.rinseZone := by
  unfold evalConveyor; split <;> simp
@[simp] theorem evalConveyor_ware_sanMin (s : State) : (evalConveyor s).ware.sanMin = s.ware.sanMin := by
  unfold evalConveyor; split <;> simp
@[simp] theorem evalConveyor_ware_washMin (s : State) : (evalConveyor s).ware.washMin = s.ware.washMin := by
  unfold evalConveyor; split <;> simp
@[simp] theorem evalConveyor_ware_maxDwell (s : State) : (evalConveyor s).ware.maxDwell = s.ware.maxDwell := by
  unfold evalConveyor; split <;> simp
@[simp] theorem evalConveyor_ware_high (s : State) : (evalConveyor s).ware.high = s.ware.high := by
  unfold evalConveyor; split <;> simp
@[simp] theorem evalConveyor_ware_low (s : State) : (evalConveyor s).ware.low = s.ware.low := by
  unfold evalConveyor; split <;> simp
@[simp] theorem evalConveyor_ware_enable (s : State) : (evalConveyor s).ware.enable = s.ware.enable := by
  unfold evalConveyor; split <;> simp
@[simp] theorem evalConveyor_ware_waiting (s : State) : (evalConveyor s).ware.waiting = s.ware.waiting := by
  unfold evalConveyor; split <;> simp
@[simp] theorem evalConveyor_ware_racks (s : State) : (evalConveyor s).ware.racks = s.ware.racks := by
  unfold evalConveyor; split <;> simp
@[simp] theorem evalConveyor_ware_nextSeq (s : State) : (evalConveyor s).ware.nextSeq = s.ware.nextSeq := by
  unfold evalConveyor; split <;> simp
@[simp] theorem evalConveyor_ware_heldLow (s : State) : (evalConveyor s).ware.heldLow = s.ware.heldLow := by
  unfold evalConveyor; split <;> simp
@[simp] theorem evalConveyor_ware_levelHigh (s : State) : (evalConveyor s).ware.levelHigh = s.ware.levelHigh := by
  unfold evalConveyor; split <;> simp
@[simp] theorem evalConveyor_ware_repeatCount (s : State) : (evalConveyor s).ware.repeatCount = s.ware.repeatCount := by
  unfold evalConveyor; split <;> simp
@[simp] theorem evalConveyor_ware_wash (s : State) : (evalConveyor s).ware.wash = s.ware.wash := by
  unfold evalConveyor; split <;> simp
@[simp] theorem evalConveyor_ware_subCause (s : State) : (evalConveyor s).ware.subCause = s.ware.subCause := by
  unfold evalConveyor; split <;> simp

@[simp] theorem faultConveyor_pending (c : SubCause) (s : State) : (faultConveyor c s).pending = s.pending := by
  unfold faultConveyor; split <;> rfl
@[simp] theorem faultConveyor_inReset (c : SubCause) (s : State) : (faultConveyor c s).inReset = s.inReset := by
  unfold faultConveyor; split <;> rfl
@[simp] theorem faultConveyor_oe (c : SubCause) (s : State) : (faultConveyor c s).oe = s.oe := by
  unfold faultConveyor; split <;> rfl
@[simp] theorem faultConveyor_heat (c : SubCause) (s : State) : (faultConveyor c s).heat = s.heat := by
  unfold faultConveyor; split <;> rfl
@[simp] theorem faultConveyor_prog (c : SubCause) (s : State) : (faultConveyor c s).prog = s.prog := by
  unfold faultConveyor; split <;> rfl
@[simp] theorem faultConveyor_load (c : SubCause) (s : State) : (faultConveyor c s).load = s.load := by
  unfold faultConveyor; split <;> rfl
@[simp] theorem faultConveyor_bus (c : SubCause) (s : State) : (faultConveyor c s).bus = s.bus := by
  unfold faultConveyor; split <;> rfl
@[simp] theorem faultConveyor_course (c : SubCause) (s : State) : (faultConveyor c s).course = s.course := by
  unfold faultConveyor; split <;> rfl
@[simp] theorem faultConveyor_page (c : SubCause) (s : State) : (faultConveyor c s).page = s.page := by
  unfold faultConveyor; split <;> rfl
@[simp] theorem faultConveyor_relay (c : SubCause) (s : State) : (faultConveyor c s).relay = s.relay := by
  unfold faultConveyor; split <;> rfl
@[simp] theorem faultConveyor_route_rules (c : SubCause) (s : State) : (faultConveyor c s).route.rules = s.route.rules := by
  unfold faultConveyor; split <;> rfl
@[simp] theorem faultConveyor_route_evaluation (c : SubCause) (s : State) : (faultConveyor c s).route.evaluation = s.route.evaluation := by
  unfold faultConveyor; split <;> rfl
@[simp] theorem faultConveyor_port_straps (c : SubCause) (s : State) : (faultConveyor c s).port.straps = s.port.straps := by
  unfold faultConveyor; split <;> rfl
@[simp] theorem faultConveyor_port_configured (c : SubCause) (s : State) : (faultConveyor c s).port.configured = s.port.configured := by
  unfold faultConveyor; split <;> rfl
@[simp] theorem faultConveyor_port_lastResult (c : SubCause) (s : State) : (faultConveyor c s).port.lastResult = s.port.lastResult := by
  unfold faultConveyor; split <;> rfl
@[simp] theorem faultConveyor_port_dataOut (c : SubCause) (s : State) : (faultConveyor c s).port.dataOut = s.port.dataOut := by
  unfold faultConveyor; split <;> rfl
@[simp] theorem faultConveyor_port_mailbox (c : SubCause) (s : State) : (faultConveyor c s).port.mailbox = s.port.mailbox := by
  unfold faultConveyor; split <;> rfl
@[simp] theorem faultConveyor_port_mask (c : SubCause) (s : State) : (faultConveyor c s).port.mask = s.port.mask := by
  unfold faultConveyor; split <;> rfl
@[simp] theorem faultConveyor_ware_washZone (c : SubCause) (s : State) : (faultConveyor c s).ware.washZone = s.ware.washZone := by
  unfold faultConveyor; split <;> rfl
@[simp] theorem faultConveyor_ware_rinseZone (c : SubCause) (s : State) : (faultConveyor c s).ware.rinseZone = s.ware.rinseZone := by
  unfold faultConveyor; split <;> rfl
@[simp] theorem faultConveyor_ware_sanMin (c : SubCause) (s : State) : (faultConveyor c s).ware.sanMin = s.ware.sanMin := by
  unfold faultConveyor; split <;> rfl
@[simp] theorem faultConveyor_ware_washMin (c : SubCause) (s : State) : (faultConveyor c s).ware.washMin = s.ware.washMin := by
  unfold faultConveyor; split <;> rfl
@[simp] theorem faultConveyor_ware_maxDwell (c : SubCause) (s : State) : (faultConveyor c s).ware.maxDwell = s.ware.maxDwell := by
  unfold faultConveyor; split <;> rfl
@[simp] theorem faultConveyor_ware_high (c : SubCause) (s : State) : (faultConveyor c s).ware.high = s.ware.high := by
  unfold faultConveyor; split <;> rfl
@[simp] theorem faultConveyor_ware_low (c : SubCause) (s : State) : (faultConveyor c s).ware.low = s.ware.low := by
  unfold faultConveyor; split <;> rfl
@[simp] theorem faultConveyor_ware_enable (c : SubCause) (s : State) : (faultConveyor c s).ware.enable = s.ware.enable := by
  unfold faultConveyor; split <;> rfl
@[simp] theorem faultConveyor_ware_waiting (c : SubCause) (s : State) : (faultConveyor c s).ware.waiting = s.ware.waiting := by
  unfold faultConveyor; split <;> rfl
@[simp] theorem faultConveyor_ware_racks (c : SubCause) (s : State) : (faultConveyor c s).ware.racks = s.ware.racks := by
  unfold faultConveyor; split <;> rfl
@[simp] theorem faultConveyor_ware_nextSeq (c : SubCause) (s : State) : (faultConveyor c s).ware.nextSeq = s.ware.nextSeq := by
  unfold faultConveyor; split <;> rfl
@[simp] theorem faultConveyor_ware_heldLow (c : SubCause) (s : State) : (faultConveyor c s).ware.heldLow = s.ware.heldLow := by
  unfold faultConveyor; split <;> rfl
@[simp] theorem faultConveyor_ware_levelHigh (c : SubCause) (s : State) : (faultConveyor c s).ware.levelHigh = s.ware.levelHigh := by
  unfold faultConveyor; split <;> rfl
@[simp] theorem faultConveyor_ware_repeatCount (c : SubCause) (s : State) : (faultConveyor c s).ware.repeatCount = s.ware.repeatCount := by
  unfold faultConveyor; split <;> rfl
@[simp] theorem faultConveyor_ware_wash (c : SubCause) (s : State) : (faultConveyor c s).ware.wash = s.ware.wash := by
  unfold faultConveyor; split <;> rfl

/-! ### Courses -/

@[simp] theorem handCourse_pending (c : CourseNo) (release fire : Bool) (s : State) : (handCourse c release fire s).pending = s.pending := by
  unfold handCourse; split <;> simp
@[simp] theorem handCourse_inReset (c : CourseNo) (release fire : Bool) (s : State) : (handCourse c release fire s).inReset = s.inReset := by
  unfold handCourse; split <;> simp
@[simp] theorem handCourse_oe (c : CourseNo) (release fire : Bool) (s : State) : (handCourse c release fire s).oe = s.oe := by
  unfold handCourse; split <;> simp
@[simp] theorem handCourse_heat (c : CourseNo) (release fire : Bool) (s : State) : (handCourse c release fire s).heat = s.heat := by
  unfold handCourse; split <;> simp
@[simp] theorem handCourse_prog (c : CourseNo) (release fire : Bool) (s : State) : (handCourse c release fire s).prog = s.prog := by
  unfold handCourse; split <;> simp
@[simp] theorem handCourse_load (c : CourseNo) (release fire : Bool) (s : State) : (handCourse c release fire s).load = s.load := by
  unfold handCourse; split <;> simp
@[simp] theorem handCourse_ware (c : CourseNo) (release fire : Bool) (s : State) : (handCourse c release fire s).ware = s.ware := by
  unfold handCourse; split <;> simp
@[simp] theorem handCourse_route (c : CourseNo) (release fire : Bool) (s : State) : (handCourse c release fire s).route = s.route := by
  unfold handCourse; split <;> simp
@[simp] theorem handCourse_relay (c : CourseNo) (release fire : Bool) (s : State) : (handCourse c release fire s).relay = s.relay := by
  unfold handCourse; split <;> simp
@[simp] theorem handCourse_course_clock (c : CourseNo) (release fire : Bool) (s : State) : (handCourse c release fire s).course.clock = s.course.clock := by
  unfold handCourse; split <;> simp
@[simp] theorem handCourse_course_schedule (c : CourseNo) (release fire : Bool) (s : State) : (handCourse c release fire s).course.schedule = s.course.schedule := by
  unfold handCourse; split <;> simp
@[simp] theorem handCourse_course_clearing (c : CourseNo) (release fire : Bool) (s : State) : (handCourse c release fire s).course.clearing = s.course.clearing := by
  unfold handCourse; split <;> simp
@[simp] theorem handCourse_course_lateQuanta (c : CourseNo) (release fire : Bool) (s : State) : (handCourse c release fire s).course.lateQuanta = s.course.lateQuanta := by
  unfold handCourse; split <;> simp
@[simp] theorem handCourse_page_groups (c : CourseNo) (release fire : Bool) (s : State) : (handCourse c release fire s).page.groups = s.page.groups := by
  unfold handCourse; split <;> simp
@[simp] theorem handCourse_page_next (c : CourseNo) (release fire : Bool) (s : State) : (handCourse c release fire s).page.next = s.page.next := by
  unfold handCourse; split <;> simp
@[simp] theorem handCourse_port_straps (c : CourseNo) (release fire : Bool) (s : State) : (handCourse c release fire s).port.straps = s.port.straps := by
  unfold handCourse; split <;> simp
@[simp] theorem handCourse_port_configured (c : CourseNo) (release fire : Bool) (s : State) : (handCourse c release fire s).port.configured = s.port.configured := by
  unfold handCourse; split <;> simp
@[simp] theorem handCourse_port_lastResult (c : CourseNo) (release fire : Bool) (s : State) : (handCourse c release fire s).port.lastResult = s.port.lastResult := by
  unfold handCourse; split <;> simp
@[simp] theorem handCourse_port_dataOut (c : CourseNo) (release fire : Bool) (s : State) : (handCourse c release fire s).port.dataOut = s.port.dataOut := by
  unfold handCourse; split <;> simp
@[simp] theorem handCourse_port_mailbox (c : CourseNo) (release fire : Bool) (s : State) : (handCourse c release fire s).port.mailbox = s.port.mailbox := by
  unfold handCourse; split <;> simp
@[simp] theorem handCourse_port_latched (c : CourseNo) (release fire : Bool) (s : State) : (handCourse c release fire s).port.latched = s.port.latched := by
  unfold handCourse; split <;> simp
@[simp] theorem handCourse_port_mask (c : CourseNo) (release fire : Bool) (s : State) : (handCourse c release fire s).port.mask = s.port.mask := by
  unfold handCourse; split <;> simp

end Sys2Proof.Machine

/-! SUPPORT. What a step can do, said once. Every operation of the model is a chain of moves, each the update of one thing with the
conditions under which the operations make it; a condition that every kind of move keeps is kept by every operation. Two
operations are moves of their own besides being chains, because some conditions hold only after them as a whole: the release of a
course (R101) and the entry to LEAVING (R78). -/

namespace Sys2Proof.Machine

/-! ### What single records and lists must meet -/

/-- The ranges and ties of one course record (R85, R95, R101), as `RecordsSafe` asks them of each. -/
structure CourseRec.Fits (r : CourseRec) : Prop where
  course : r.course ≠ 0
  released : r.state = .released → r.hold = 0 ∧ r.releaseTime.isSome = true ∧ r.releaseOrder.isSome = true
  unreleased : r.state ≠ .released → r.releaseTime = none ∧ r.releaseAge = 0 ∧ r.releaseOrder = none
  held : r.state = .held → 0 < r.hold
  hold : r.hold ≤ 1020
  origin : r.origin ≠ some 0 ∧ (r.origin = none ↔ r.hold = 0)
  plates : r.plates ≤ 4000
  delay : r.clearDelay ≤ 60
  repeats : r.repeatCount ≤ 3
  time : ∀ k, r.releaseTime = some k → k ≤ 86399
  age : r.releaseAge ≤ 300
  members : ∀ m ∈ r.members, m.station ≠ 0 ∧ m.warm ≤ 4000

/-- A change of a record in place: it stays RELEASED or not, with its release order; its member entries stay in order and are the
station's own, a peer's or of a station that had one; and it keeps its ranges. -/
structure RecStep (s : State) (r r' : CourseRec) : Prop where
  released : r'.state = .released ↔ r.state = .released
  releaseOrder : r'.releaseOrder = r.releaseOrder
  members : ∀ m ∈ r'.members,
    m.station = s.own ∨ s.isMemberPeer m.station = true ∨ ∃ m₀ ∈ r.members, m₀.station = m.station
  order : r.members.Pairwise (fun a b => a.station < b.station) → r'.members.Pairwise fun a b => a.station < b.station
  fits : RecordsSafe s → r.Fits → r'.Fits

/-- A record as OPEN COURSE or another first mention of its course makes it (R85, R88). -/
def CourseRec.IsNew (r : CourseRec) : Prop :=
  ∃ c plates auto delay, r = { CourseRec.new c with plates := plates, auto := auto, clearDelay := delay } ∧
    plates ≤ 4000 ∧ delay ≤ 60

/-- R102: the clearing list's bound, one entry for a course. -/
def ClearingFits (l : List ClearEntry) : Prop := l.length ≤ 4 ∧ (l.map (·.course)).Nodup

/-- R40: the peer table's bound, order and ranges at a station of the number given. -/
structure PeersFit (own : Station) (l : List Peer) : Prop where
  length : l.length ≤ 30
  order : l.Pairwise fun a b => a.station < b.station
  others : ∀ p ∈ l, p.station ≠ 0 ∧ p.station ≠ own
  ranges : ∀ p ∈ l, p.q ≤ 2040 ∧ p.f ≤ p.q ∧ 1 ≤ p.w ∧ p.w ≤ 15 ∧ p.missed ≤ 2
  figures : ∀ p ∈ l, p.d ≤ 2040 ∧ 10 ≤ p.l ∧ p.l ≤ 6000 ∧ p.grant ≤ 6000

/-- R122: the wash view's bound, order and ranges at a station of the number given. -/
structure WashFits (own : Station) (l : List WashEntry) : Prop where
  length : l.length ≤ 4
  order : l.Pairwise fun a b => a.station < b.station
  others : ∀ e ∈ l, e.station ≠ 0 ∧ e.station ≠ own
  ranges : ∀ e ∈ l, e.backlog ≤ 999 ∧ e.age < 30

/-- The ware settings (R106), which a change of anything else in the ware block leaves. -/
structure SameWareSettings (w w' : Ware) : Prop where
  washZone : w'.washZone = w.washZone
  rinseZone : w'.rinseZone = w.rinseZone
  sanMin : w'.sanMin = w.sanMin
  washMin : w'.washMin = w.washMin

/-- A change in the ware block that moves neither its settings nor the conveyor. -/
structure WareStep (s : State) (w : Ware) : Prop where
  settings : SameWareSettings s.ware w
  conveyor : w.conveyor = s.ware.conveyor
  racks : RacksSafe s → RacksSafe { s with ware := w }
  wash : WashFits s.own s.ware.wash → WashFits s.own w.wash

/-- A change in the load block that moves neither the grants that a station may hold nor its settings. -/
structure LoadStep (l l' : Load) : Prop where
  usable : l'.usable = l.usable
  solo : l'.solo = l.solo
  applied : l'.applied = l.applied
  expiry : l'.expiryGrant = l.expiryGrant

/-- A change of one zone: its age in range, and its output on only where it was on and nothing it rests on is lost. -/
structure ZoneStep (zn zn' : Zone) : Prop where
  age : zn.age ≤ 6 → zn'.age ≤ 6
  on : zn'.on = true →
    zn.on = true ∧ zn'.plan = zn.plan ∧ (zn.stale = false → zn'.stale = false) ∧ (zn.isOver = false → zn'.isOver = false)

/-- A change of the routing block's events and evaluation: no more events, and an evaluation under the rules of the table. -/
structure RouteStep (r r' : Route) : Prop where
  rules : r'.rules = r.rules
  events : r'.events.length ≤ r.events.length
  evaluation : ∀ e, r'.evaluation = some e → r.evaluation = some e ∨ e.rules = r.rules

/-- A change of the command port that moves neither straps nor configuration. -/
structure PortStep (p p' : Port) : Prop where
  straps : p'.straps = p.straps
  configured : p'.configured = p.configured
  mailbox : MailboxSafe p.mailbox → MailboxSafe p'.mailbox

/-- A change of the Passbus controller's own fields: neither the link nor an empty queue moves. -/
structure BusStep (s : State) (b : Bus) : Prop where
  link : b.link = s.bus.link
  queue : s.bus.queue = [] → b.queue = []
  safe : TxSafe s → TxSafe { s with bus := b }

/-- R63: the link state, the outputs, the grant and the conveyor move together. -/
def relink (l : LinkState) (s : State) : State :=
  evalConveyor (regrant (if l.heats then setLink l s else outputsOff (setLink l s)))

/-! ### Moves -/

/-- The kinds of move. A kind carries what decides whether a condition admits it: the zone, the course, the priority of a page
request, the link state entered, and on entry to LEFT the station's configuration and number. -/
inductive Kind where
  | queue | event | report | latch | count | take | bus
  | given (c : CourseNo) | record (c : CourseNo) | enterReleased (c : CourseNo) | release (c : CourseNo)
  | add (c : CourseNo) | remove (c : CourseNo) | clearing | schedule | clock
  | run (z : ZoneNo) | done (c : CourseNo) | plates | table
  | sample (z : ZoneNo) | settings (z : ZoneNo) | step | off | grant
  | drive | fault | ware | enable
  | page | request (priority : Nat) | group | relay | pair | route | rule
  | load | peers | unpeer | compute | ramp
  | link (l : LinkState) | leaving | left (configured : Bool) (own : Station) | restart
  | port | oe | reset | configure

/-- One move of a kind. -/
inductive Move : Kind → State → State → Prop
  | queue (l : List Instr) (s : State) : Move .queue s { s with pending := l }
  | event (e : Event) (s : State) : Move .event s (raise e s)
  | report (b : ReportBody) (s : State) : Move .report s (makeReport b s)
  | latch (c : Cause) (s : State) : Move .latch s (Machine.latch c s)
  | count (k : CounterName) (s : State) : Move .count s (bump k s)
  | take (b : Body) (s : State) (hlink : s.bus.link ≠ .off ∧ s.bus.link ≠ .monitor) : Move .take s (takeNotice b s)
  | bus (b : Bus) (s : State) (h : BusStep s b) : Move .bus s { s with bus := b }
  | given (c : CourseNo) (g : Option (Standing × Nat)) (s : State) : Move (.given c) s (noteGiven c g s)
  | record (c : CourseNo) (f : CourseRec → CourseRec) (s : State) (hcourse : ∀ r, (f r).course = r.course)
      (h : ∀ r, s.recOf c = some r → RecStep s r (f r)) : Move (.record c) s (mapRec c f s)
  | enterReleased (r : CourseRec) (s : State) (hrec : s.recOf r.course = some r) (hstate : r.state ≠ .released) :
      Move (.enterReleased r.course) s (mapRec r.course (·.releasedAt s.course.clock s.releasedCount) s)
  | release (r : CourseRec) (st : Station) (isLocal : Bool) (s : State) (hrec : s.recOf r.course = some r)
      (hstate : r.state ≠ .released) : Move (.release r.course) s (releaseRec r st isLocal s)
  | add (r : CourseRec) (s : State) (hnew : r.IsNew) (hnone : s.recOf r.course = none) : Move (.add r.course) s (addRec r s)
  | remove (c : CourseNo) (s : State) : Move (.remove c) s (removeRec c s)
  | clearing (l : List ClearEntry) (s : State) (h : ClearingFits s.course.clearing → ClearingFits l) :
      Move .clearing s { s with course := { s.course with clearing := l } }
  | schedule (l : List SchedEntry) (s : State)
      (h : (∀ e ∈ l, e ∈ s.course.schedule ∨ (e.course ≠ 0 ∧ e.time ≤ 86399)) ∧
        (l.length ≤ s.course.schedule.length ∨ l.length ≤ 8)) :
      Move .schedule s { s with course := { s.course with schedule := l } }
  | clock (n : Nat) (s : State) (h : n ≤ 86399) : Move .clock s (setClockTo n s)
  | run (z : ZoneNo) (r : Run) (s : State) (h : s.prog.runs[z].state ≠ .idle ∨ r.state = .idle ∨ s.bus.link ≠ .monitor) :
      Move (.run z) s (setRun z r s)
  | done (z : ZoneNo) (s : State) (hlive : s.prog.runs[z].state.live = true) :
      Move (.done s.prog.runs[z].course) s (setRun z { s.prog.runs[z] with state := .done, late := false } s)
  | plates (c : CourseNo) (n : Nat) (s : State) (h : n ≤ 4000) :
      Move .plates s { s with prog := { s.prog with plates := s.prog.plates.set c n } }
  | table (n : Fin 16) (x : Option Program) (s : State) : Move .table s (setEntry n x s)
  | sample (z : ZoneNo) (zn : Zone) (s : State) (h : ZoneStep s.heat.zones[z] zn) :
      Move (.sample z) s (mapZone z (fun _ => zn) s)
  | settings (z : ZoneNo) (zn : Zone) (s : State) (h : ZoneStep s.heat.zones[z] zn)
      (hsample : zn.temp = s.heat.zones[z].temp ∧ zn.age = s.heat.zones[z].age) :
      Move (.settings z) s (mapZone z (fun _ => zn) s)
  | nextStep (s : State) : Move .step s (Machine.nextStep s)
  | window (s : State) : Move .step s (windowStart s)
  | outputs (s : State) : Move .step s (setOutputs s)
  | off (s : State) : Move .off s (outputsOff s)
  | grant (m : Nat) (s : State) : Move .grant s (lowerGrant m s)
  | drive (s : State) : Move .drive s (driveConveyor s)
  | fault (c : SubCause) (s : State) (h : RacksSafe s → s.port.configured = true) :
      Move .fault s (faultConveyor c s)
  | ware (w : Ware) (s : State) (h : WareStep s w) (henable : w.enable = s.ware.enable) : Move .ware s { s with ware := w }
  | enable (w : Ware) (s : State) (h : WareStep s w) : Move .enable s { s with ware := w }
  | page (b : PageBlock) (s : State) (hgroups : b.groups = s.page.groups)
      (h : PagesSafe s → PagesSafe { s with page := b }) : Move .page s { s with page := b }
  | request (priority : Nat) (b : PageBlock) (s : State) (hgroups : b.groups = s.page.groups)
      (h : 1 ≤ priority ∧ priority ≤ 7 → PagesSafe s → PagesSafe { s with page := b }) :
      Move (.request priority) s { s with page := b }
  | group (g : GroupNo) (x : Group) (s : State) : Move .group s (setGroup g x s)
  | relay (r : Relay) (s : State) (hpairs : r.pairs = s.relay.pairs)
      (h : PagesSafe s → RelaySafe s → RelaySafe { s with relay := r }) : Move .relay s { s with relay := r }
  | pair (i : Fin 4) (x : Pair) (s : State) : Move .pair s (setPair i x s)
  | route (r : Route) (s : State) (h : RouteStep s.route r) : Move .route s { s with route := r }
  | rule (i : Fin 32) (r : Rule) (s : State) (h : r.inRange = true) : Move .rule s (setRule i r s)
  | load (l : Load) (s : State) (h : LoadStep s.load l) (hpeers : l.peers = s.load.peers) : Move .load s { s with load := l }
  | peers (l : List Peer) (s : State) (hfit : PeersFit s.own s.load.peers → PeersFit s.own l)
      (hmore : ∀ st, s.load.peers.any (·.station == st) = true → l.any (·.station == st) = true) :
      Move .peers s { s with load := { s.load with peers := l } }
  | unpeer (l : List Peer) (s : State) (hfit : PeersFit s.own s.load.peers → PeersFit s.own l) :
      Move .unpeer s { s with load := { s.load with peers := l } }
  | compute (s : State) : Move .compute s (computeGrant s)
  | ramp (s : State) : Move .ramp s (applyRamp s)
  | link (l : LinkState) (s : State) (hfrom : s.bus.link ≠ .monitor) (hto : l.heats = true ∨ l = .leaving)
      (hconf : (s.port.configured = false → s.bus.link = .off ∨ s.bus.link = .monitor) → s.port.configured = true) :
      Move (.link l) s (relink l s)
  | leaving (s : State) (hlink : s.bus.link.heats = true) (hconf : s.port.configured = true) :
      Move .leaving s (enterLeaving s)
  | left (s : State) : Move (.left s.port.configured s.own) s (enterLeft s)
  | restart (s : State) (hlink : s.bus.link.restarts = true) (hconf : s.port.configured = true) :
      Move .restart s (restartBlocks s)
  | port (p : Port) (s : State) (h : PortStep s.port p) : Move .port s { s with port := p }
  | oe (high : Bool) (s : State) : Move .oe s (setOe high s)
  | oeInReset (high : Bool) (s : State) (h : s.inReset = true) : Move .oe s { s with oe := high }
  | asserted (s : State) : Move .reset s { s with inReset := true, port := { s.port with dataOut := [] } }
  | released (straps : Straps) (draws : Nat) (missed : Bool) (s : State) :
      Move .reset s { State.resetWith straps s.oe with
        pending := s.pending
        bus := { (State.resetWith straps s.oe).bus with draws := draws, startMissed := missed } }
  | configure (p : List Byte) (s : State) (hconf : s.port.configured = false) : Move .configure s (s.configuredBy p)

/-- A chain of moves of the kinds admitted. -/
inductive Reach (K : Kind → Prop) (s : State) : State → Prop
  | refl : Reach K s s
  | tail {t u : State} {k : Kind} (h : Reach K s t) (hk : K k) (hmove : Move k t u) : Reach K s u

section Reach
variable {K K' : Kind → Prop} {s t u : State}

theorem Reach.trans (h : Reach K s t) (h' : Reach K t u) : Reach K s u := by
  induction h' with
  | refl => exact h
  | tail _ hk hmove ih => exact .tail ih hk hmove

theorem Reach.of_move {k : Kind} (hk : K k) (hmove : Move k s t) : Reach K s t := .tail .refl hk hmove

theorem Reach.mono (hle : ∀ k, K k → K' k) (h : Reach K s t) : Reach K' s t := by
  induction h with
  | refl => exact .refl
  | tail _ hk hmove ih => exact .tail ih (hle _ hk) hmove

/-- A condition that every admitted kind of move keeps is kept. -/
theorem Reach.keeps {P : State → Prop} (hP : ∀ {k s t}, K k → Move k s t → P s → P t) (h : Reach K s t) (hs : P s) : P t := by
  induction h with
  | refl => exact hs
  | tail _ hk hmove ih => exact hP hk hmove ih

/-- What every admitted kind of move leaves as it was stands. -/
theorem Reach.same {α : Type} {g : State → α} (hg : ∀ {k s t}, K k → Move k s t → g t = g s) (h : Reach K s t) : g t = g s :=
  h.keeps (P := fun u => g u = g s) (fun hk hmove hu => (hg hk hmove).trans hu) rfl

/-- A relation that holds of every state with itself, and goes on over every admitted move, holds along the chain. -/
theorem Reach.rel {R : State → State → Prop} (hrefl : ∀ s, R s s) (hR : ∀ {k s t u}, K k → Move k t u → R s t → R s u)
    (h : Reach K s t) : R s t := h.keeps (P := R s) (fun hk hmove => hR hk hmove) (hrefl s)

/-- A chain goes on through a fold whose every operation is a chain. -/
theorem Reach.foldl {α : Type} {f : State → α → State} {l : List α} (hf : ∀ a ∈ l, ∀ u, Reach K s u → Reach K s (f u a))
    (h : Reach K s t) : Reach K s (l.foldl f t) := by
  induction l generalizing t with
  | nil => exact h
  | cons a l ih =>
    exact ih (fun b hb => hf b (List.mem_cons_of_mem _ hb)) (hf a List.mem_cons_self t h)

end Reach

/-- Every kind of the second list is admitted by the first. -/
abbrev Admits (K L : Kind → Prop) : Prop := ∀ ⦃k⦄, L k → K k

end Sys2Proof.Machine

/-! SUPPORT. The operations of the course and program blocks as chains of moves: what a change of one course's record brings, the
release of a course, fire orders, members lost, and the courses' part of the tick. -/

namespace Sys2Proof.Machine

/-! ### Records found and rewritten -/

theorem recOf_mapRec {c : CourseNo} {f : CourseRec → CourseRec} (hf : ∀ r, (f r).course = r.course) (s : State) :
    (mapRec c f s).recOf c = (s.recOf c).map f := by
  show List.find? _ (List.map _ _) = Option.map f (List.find? _ _)
  induction s.course.board with
  | nil => rfl
  | cons r l ih =>
    by_cases hr : r.course = c
    · simp [hr, hf]
    · simp [hr, ih]

theorem recOf_mapRec_ne {c d : CourseNo} {f : CourseRec → CourseRec} (hf : ∀ r, (f r).course = r.course) (hne : d ≠ c)
    (s : State) : (mapRec c f s).recOf d = s.recOf d := by
  show List.find? _ (List.map _ _) = List.find? _ _
  induction s.course.board with
  | nil => rfl
  | cons r l ih =>
    by_cases hr : r.course = c
    · simp [hr, hf, Ne.symm hne, ih]
    · by_cases hd : r.course = d
      · simp [hd, hne]
      · simp [hr, hd, ih]

theorem mapRec_mapRec {c : CourseNo} {f g : CourseRec → CourseRec} (hg : ∀ r, (g r).course = r.course) (s : State) :
    mapRec c f (mapRec c g s) = mapRec c (fun r => f (g r)) s := by
  simp only [mapRec, List.map_map]
  congr 2
  refine List.map_congr_left fun r _ => ?_
  by_cases hr : r.course = c <;> simp [hr, hg]

/-! ### Member entries -/

/-- A sorted list stays sorted as a new key is put in its place. -/
theorem pairwise_insert {α : Type} (key : α → Station) (x : α) {l : List α} (h : l.Pairwise fun a b => key a < key b) :
    (l.filter (key · < key x) ++ x :: l.filter (key x < key ·)).Pairwise fun a b => key a < key b := by
  rw [List.pairwise_append, List.pairwise_cons]
  refine ⟨h.filter _, ⟨fun b hb => ?_, h.filter _⟩, fun a ha b hb => ?_⟩
  · simpa using (List.mem_filter.mp hb).2
  · have hax : key a < key x := by simpa using (List.mem_filter.mp ha).2
    rcases List.mem_cons.mp hb with rfl | hb
    · exact hax
    · have hxb : key x < key b := by simpa using (List.mem_filter.mp hb).2
      exact hax.trans hxb

/-- A sorted list stays sorted as entries change and their keys stand. -/
theorem pairwise_map_of_key {α : Type} (key : α → Station) {f : α → α} (hf : ∀ a, key (f a) = key a) {l : List α}
    (h : l.Pairwise fun a b => key a < key b) : (l.map f).Pairwise fun a b => key a < key b := by
  rw [List.pairwise_map]
  simpa [hf] using h

theorem putMember_pairwise (m : Member) {l : List Member} (h : l.Pairwise fun a b => a.station < b.station) :
    (putMember m l).Pairwise fun a b => a.station < b.station := by
  unfold putMember
  split
  · refine pairwise_map_of_key Member.station (fun x => ?_) h
    split
    · next hx => exact hx.symm
    · rfl
  · exact pairwise_insert Member.station m h

/-- A member entry after an entry is put: the entry, or one that stood. -/
theorem mem_putMember {m x : Member} {l : List Member} (h : x ∈ putMember m l) :
    (x.station = m.station ∧ x.standing = m.standing ∧ x.warm = m.warm) ∨ x ∈ l := by
  unfold putMember at h
  split at h
  · obtain ⟨y, hy, rfl⟩ := List.mem_map.mp h
    split
    · exact .inl ⟨rfl, rfl, rfl⟩
    · exact .inr hy
  · rcases List.mem_append.mp h with h | h
    · exact .inr (List.mem_filter.mp h).1
    · rcases List.mem_cons.mp h with rfl | h
      · exact .inl ⟨rfl, rfl, rfl⟩
      · exact .inr (List.mem_filter.mp h).1

theorem mem_dropMember {st : Station} {x : Member} {l : List Member} : x ∈ dropMember st l ↔ x ∈ l ∧ x.station ≠ st := by
  simp [dropMember]

/-! ### Kinds -/

/-- What a change of one course's record brings with it. -/
def reactsOn (c : CourseNo) : Kind → Prop
  | .event | .report | .latch | .count | .take => True
  | .given d | .record d | .release d => d = c
  | _ => False

/-- What changes of any course's record bring with them. -/
def reacts : Kind → Prop
  | .event | .report | .latch | .count | .take | .given _ | .record _ | .release _ => True
  | _ => False

/-- What the release of one course is made of. -/
def releases (c : CourseNo) : Kind → Prop
  | .event | .report | .count | .take | .clearing | .grant => True
  | .given d | .record d | .enterReleased d | .done d => d = c
  | _ => False

theorem reactsOn_le_reacts {c : CourseNo} : Admits reacts (reactsOn c) := by
  intro k hk
  cases k <;> first | exact hk | trivial

section Chains
variable {K : Kind → Prop} {s t : State} {c : CourseNo}

/-! ### Single moves -/

theorem Reach.raise (hK : K .event) (e : Event) (h : Reach K s t) : Reach K s (raise e t) := h.tail hK (.event e t)

theorem Reach.makeReport (hK : K .report) (b : ReportBody) (h : Reach K s t) : Reach K s (makeReport b t) :=
  h.tail hK (.report b t)

theorem Reach.hand (hK : K .take) (b : Body) (h : Reach K s t) : Reach K s (hand b t) := by
  unfold Machine.hand
  split
  · next hsends =>
    refine h.tail hK (.take b t ⟨fun hl => ?_, fun hl => ?_⟩) <;> rw [hl] at hsends <;> cases hsends
  · exact h

theorem Reach.ite {p : Prop} [Decidable p] {u v : State} (ht : p → Reach K s u) (he : ¬p → Reach K s v) :
    Reach K s (if p then u else v) := by
  split
  · next hp => exact ht hp
  · next hp => exact he hp

theorem Reach.noteGiven (hK : K (.given c)) (g : Option (Standing × Nat)) (h : Reach K s t) :
    Reach K s (noteGiven c g t) := h.tail hK (.given c g t)

theorem Reach.followDemand (hK : K .grant) (h : Reach K s t) : Reach K s (followDemand t) := h.tail hK (.grant _ t)

/-- A record rewritten, with nothing to show where there is none. -/
theorem Reach.mapRec (hK : K (.record c)) {f : CourseRec → CourseRec} (hcourse : ∀ r, (f r).course = r.course)
    (hstep : ∀ r, t.recOf c = some r → RecStep t r (f r)) (h : Reach K s t) : Reach K s (mapRec c f t) :=
  h.tail hK (.record c f t hcourse hstep)

/-- A record whose member entries stand takes only new figures. -/
theorem RecStep.of_members_eq {s : State} {r r' : CourseRec} (hmembers : r'.members = r.members)
    (hreleased : r'.state = .released ↔ r.state = .released) (horder : r'.releaseOrder = r.releaseOrder)
    (hfits : RecordsSafe s → r.Fits → r'.Fits) : RecStep s r r' where
  released := hreleased
  releaseOrder := horder
  members := fun m hm => .inr (.inr ⟨m, hmembers ▸ hm, rfl⟩)
  order := fun h => hmembers ▸ h
  fits := hfits

/-! ### Notices -/

theorem Reach.handCourse (htake : K .take) (hrecord : K (.record c)) (release fire : Bool) (h : Reach K s t) :
    Reach K s (handCourse c release fire t) := by
  unfold Machine.handCourse
  split
  · exact h
  · refine Reach.hand htake _ (h.mapRec hrecord (fun _ => rfl) fun r _ => ?_)
    have hstation (m : Member) :
        (if fire ∧ m.station = t.own then { m with fireSeen := true } else m).station = m.station := by split <;> rfl
    refine ⟨Iff.rfl, rfl, fun m hm => ?_, fun horder => pairwise_map_of_key Member.station hstation horder, fun _ hfits => ?_⟩
    · obtain ⟨m₀, hm₀, rfl⟩ := List.mem_map.mp hm
      exact .inr (.inr ⟨m₀, hm₀, (hstation m₀).symm⟩)
    · refine { hfits with repeats := Nat.zero_le _, members := fun m hm => ?_ }
      obtain ⟨m₀, hm₀, rfl⟩ := List.mem_map.mp hm
      split <;> exact hfits.members m₀ hm₀

theorem Reach.handHold (hK : K .take) (q : Nat) (h : Reach K s t) : Reach K s (handHold c q t) := h.hand hK _

/-! ### The own member entry -/

/-- What the program block gives rests on a run and on a plate count (R37, R38). -/
def GivenFits (g : Option (Standing × Nat)) (s : State) : Prop :=
  ∀ x, g = some x → (∃ z : ZoneNo, s.prog.runs[z].state ≠ .idle) ∧ ∃ d : CourseNo, x.2 ≤ s.prog.plates[d]

theorem givenFits_of_prog {g : Option (Standing × Nat)} {s u : State} (hruns : u.prog.runs = s.prog.runs)
    (hplates : u.prog.plates = s.prog.plates) (h : GivenFits g s) : GivenFits g u := by
  unfold GivenFits
  rw [hruns, hplates]
  exact h

theorem warmPlates_le (c : CourseNo) (s : State) : s.warmPlates c ≤ s.prog.plates[c] := by
  unfold State.warmPlates
  dsimp only
  split
  · exact Nat.le_refl _
  · exact Nat.zero_le _

/-- The zones on a course have runs that are not IDLE. -/
theorem ne_idle_of_mem_runsOn {z : ZoneNo} {s : State} (h : z ∈ s.runsOn c) : s.prog.runs[z].state ≠ .idle := by
  intro hidle
  have honcourse := (List.mem_filter.mp h).2
  rw [hidle] at honcourse
  cases honcourse

theorem runsOn_ne_nil_of_report {x : Standing × Nat} {s : State} (h : s.report c = some x) : s.runsOn c ≠ [] := by
  intro hnil
  simp [State.report, State.standing, hnil] at h

theorem report_givenFits (c : CourseNo) (s : State) : GivenFits (s.report c) s := by
  intro x hx
  obtain ⟨z, hz⟩ := List.exists_mem_of_ne_nil _ (runsOn_ne_nil_of_report hx)
  refine ⟨⟨z, ne_idle_of_mem_runsOn hz⟩, c, ?_⟩
  rw [State.report, Option.map_eq_some_iff] at hx
  obtain ⟨st, -, rfl⟩ := hx
  exact warmPlates_le c s

@[simp] theorem noteGiven_report (c d : CourseNo) (g : Option (Standing × Nat)) (s : State) :
    (noteGiven c g s).report d = s.report d := rfl

theorem GivenFits.own_ne_zero {g : Option (Standing × Nat)} {x : Standing × Nat} {s : State} (h : GivenFits g s)
    (hx : g = some x) (hs : RecordsSafe s) : s.own ≠ 0 := by
  intro hown
  obtain ⟨⟨z, hz⟩, -⟩ := h x hx
  exact hz ((hs.monitor hown).2.2 z)

theorem GivenFits.warm_le {g : Option (Standing × Nat)} {x : Standing × Nat} {s : State} (h : GivenFits g s)
    (hx : g = some x) (hs : RecordsSafe s) : x.2 ≤ 4000 := by
  obtain ⟨-, d, hd⟩ := h x hx
  exact hd.trans (hs.counts d)

theorem Reach.followOwn (hK : K (.record c)) {g : Option (Standing × Nat)} (hg : GivenFits g t) (h : Reach K s t) :
    Reach K s (followOwn c g t) := by
  refine h.mapRec hK (fun r => rfl) fun r _ => ?_
  cases g with
  | none =>
    refine ⟨Iff.rfl, rfl, fun m hm => .inr (.inr ⟨m, (mem_dropMember.mp hm).1, rfl⟩), fun horder => horder.filter _,
      fun _ hfits => { hfits with members := fun m hm => hfits.members m (mem_dropMember.mp hm).1 }⟩
  | some x =>
    refine ⟨Iff.rfl, rfl, fun m hm => ?_, putMember_pairwise _, fun hs hfits => { hfits with members := fun m hm => ?_ }⟩
    · rcases mem_putMember hm with ⟨hst, -⟩ | hm
      · exact .inl hst
      · exact .inr (.inr ⟨m, hm, rfl⟩)
    · rcases mem_putMember hm with ⟨hst, -, hwarm⟩ | hm
      · exact ⟨hst ▸ hg.own_ne_zero rfl hs, hwarm ▸ hg.warm_le rfl hs⟩
      · exact hfits.members m hm

/-! ### Release -/

theorem Reach.releaseRuns (hK : K (.done c)) (h : Reach K s t) : Reach K s (releaseRuns c t) := by
  refine h.foldl fun z _ u hu => ?_
  dsimp only
  split
  · next hlive =>
    simp only [Bool.and_eq_true, beq_iff_eq] at hlive
    exact hu.tail (hlive.2 ▸ hK) (.done z u hlive.1)
  · exact hu

theorem leastClear_mem {l : List ClearEntry} {x : ClearEntry} (h : leastClear l = some x) : x ∈ l := by
  induction l generalizing x with
  | nil => cases h
  | cons e rest ih =>
    unfold leastClear at h
    split at h
    · next y hy =>
      split at h <;> cases h
      · exact List.mem_cons_of_mem _ (ih hy)
      · exact List.mem_cons_self
    · cases h
      exact List.mem_cons_self

/-- Entries of other courses with one of a course they lack. -/
theorem clearingFits_append {l : List ClearEntry} {e : ClearEntry} (hlen : l.length < 4) (hnodup : (l.map (·.course)).Nodup)
    (hne : ∀ x ∈ l, x.course ≠ e.course) : ClearingFits (l ++ [e]) := by
  refine ⟨by simp; omega, ?_⟩
  rw [List.map_append]
  refine hnodup.append (by simp) fun d hd hd' => ?_
  obtain ⟨x, hx, rfl⟩ := List.mem_map.mp hd
  simp only [List.map_cons, List.map_nil, List.mem_singleton] at hd'
  exact hne x hx hd'

theorem nodup_filter_map {α β : Type} {f : α → β} {l : List α} (p : α → Bool) (h : (l.map f).Nodup) :
    ((l.filter p).map f).Nodup := h.sublist (List.filter_sublist.map f)

theorem Reach.addClearing (hclear : K .clearing) (hevent : K .event) (e : ClearEntry) (h : Reach K s t) :
    Reach K s (addClearing e t) := by
  unfold Machine.addClearing
  dsimp only
  have hne : ∀ x ∈ t.course.clearing.filter (·.course != e.course), x.course ≠ e.course := fun x hx => by
    simpa using (List.mem_filter.mp hx).2
  split
  · next x hx =>
    have hxmem := leastClear_mem hx
    split
    · next hlen =>
      exact h.tail hclear (.clearing _ t fun hfit => clearingFits_append hlen (nodup_filter_map _ hfit.2) hne)
    · refine (h.tail hclear (.clearing _ t fun hfit => clearingFits_append ?_ ?_ fun y hy => ?_)).raise hevent _
      · have hlt : ((t.course.clearing.filter (·.course != e.course)).filter (·.course != x.course)).length <
            (t.course.clearing.filter (·.course != e.course)).length :=
          List.length_filter_lt_length_iff_exists.mpr ⟨x, hxmem, by simp⟩
        have hle := List.length_filter_le (·.course != e.course) t.course.clearing
        have := hfit.1
        omega
      · exact nodup_filter_map _ (nodup_filter_map _ hfit.2)
      · exact hne y (List.mem_filter.mp hy).1
  · refine h.tail hclear (.clearing _ t fun _ => ⟨by simp, by simp⟩)

/-- R101: a release is a chain of its kinds. -/
theorem releaseRec_reach {r : CourseRec} (st : Station) (isLocal : Bool) (hrec : t.recOf r.course = some r)
    (hstate : r.state ≠ .released) : Reach (releases r.course) t (releaseRec r st isLocal t) := by
  unfold releaseRec
  dsimp only
  refine Reach.followDemand (K := releases r.course) trivial ?_
  refine Reach.noteGiven (K := releases r.course) rfl _ (Reach.followOwn (K := releases r.course) rfl (report_givenFits _ _) ?_)
  refine .ite (fun _ => Reach.handCourse (K := releases r.course) trivial rfl _ _ ?_) (fun _ => ?_) <;>
  refine .ite (fun _ => Reach.addClearing (K := releases r.course) trivial trivial _ ?_) (fun _ => ?_) <;>
  refine Reach.makeReport (K := releases r.course) trivial _ (Reach.raise (K := releases r.course) trivial _ ?_) <;>
  refine .ite (fun _ => Reach.raise (K := releases r.course) trivial _ ?_) (fun _ => ?_) <;>
  exact Reach.releaseRuns (K := releases r.course) rfl
    (.of_move (k := .enterReleased r.course) rfl (.enterReleased r t hrec hstate))

theorem Reach.releaseCourse (hK : K (.release c)) (st : Station) (isLocal : Bool) (h : Reach K s t) :
    Reach K s (releaseCourse c st isLocal t) := by
  rcases releaseCourse_cases c st isLocal t with heq | ⟨r, hrec, hstate, heq⟩ <;> rw [heq]
  · exact h
  · obtain rfl := (recOf_some hrec).2
    exact h.tail hK (.release r st isLocal t hrec hstate)

/-! ### Readiness -/

theorem Reach.enterReady (hK : Admits K (reactsOn c)) {r : CourseRec} (hrec : t.recOf c = some r) (hstate : r.state = .fired)
    (h : Reach K s t) : Reach K s (enterReady r t) := by
  obtain rfl := (recOf_some hrec).2
  have hready : Reach K s (Machine.mapRec r.course (fun x => { x with state := .ready, readyRaised := true }) t) := by
    refine h.mapRec (hK (k := .record r.course) rfl) (fun _ => rfl) fun x hx => ?_
    obtain rfl : x = r := Option.some.inj (hx.symm.trans hrec)
    refine .of_members_eq rfl (by simp [hstate]) rfl fun _ hfits => ?_
    have hun := hfits.unreleased (by simp [hstate])
    exact { hfits with released := nofun, unreleased := fun _ => hun, held := nofun }
  unfold Machine.enterReady
  refine .ite (fun _ => hready) fun _ => ?_
  refine ((hready.raise (hK (k := .event) trivial) _).makeReport (hK (k := .report) trivial) _).tail
    (hK (k := .latch) trivial) (.latch _ _)

theorem Reach.evalReady (hK : Admits K (reactsOn c)) (h : Reach K s t) : Reach K s (evalReady c t) := by
  unfold Machine.evalReady
  split
  · exact h
  · next r hrec =>
    refine .ite (fun hfired => ?_) fun _ => .ite (fun hready => ?_) fun _ => h
    · have hentered := h.enterReady hK hrec hfired.1
      exact .ite (fun _ => hentered.releaseCourse (hK (k := .release c) rfl) _ _) fun _ => hentered
    · refine h.mapRec (hK (k := .record c) rfl) (fun _ => rfl) fun x hx => ?_
      obtain rfl : x = r := Option.some.inj (hx.symm.trans hrec)
      refine .of_members_eq rfl (by simp [hready.1]) rfl fun _ hfits => ?_
      have hun := hfits.unreleased (by simp [hready.1])
      exact { hfits with released := nofun, unreleased := fun _ => hun, held := nofun }

/-! ### Holds -/

theorem Reach.enterHeld (hK : Admits K (reactsOn c)) {r : CourseRec} (hc : r.course = c)
    (hrec : ∀ x, t.recOf c = some x → x.state ≠ .released ∧ 0 < x.hold) (h : Reach K s t) : Reach K s (enterHeld r t) := by
  subst hc
  unfold Machine.enterHeld
  refine Reach.makeReport (hK (k := .report) trivial) _ (h.mapRec (hK (k := .record r.course) rfl) (fun _ => rfl) fun x hx => ?_)
  obtain ⟨hstate, hhold⟩ := hrec x hx
  refine .of_members_eq rfl (by simp [hstate]) rfl fun _ hfits => ?_
  have hun := hfits.unreleased hstate
  exact { hfits with released := nofun, unreleased := fun _ => hun, held := fun _ => hhold }

/-- A hold within its range keeps a record that is not RELEASED fitting, and leaves it HELD only where it is above 0. -/
theorem CourseRec.Fits.withHold {r : CourseRec} {q : Nat} {o : Station} (hfits : r.Fits) (hstate : r.state ≠ .released)
    (hq : q ≤ 255) (ho : o ≠ 0) (hheld : r.state = .held → 0 < q) : (r.withHold q o).Fits := by
  refine { hfits with
    released := fun h => absurd h hstate
    held := fun h => ?_
    hold := ?_
    origin := ?_ }
  · have := hheld h
    show 0 < q * 4
    omega
  · show q * 4 ≤ 1020
    omega
  · show (if q = 0 then none else some o) ≠ some 0 ∧ ((if q = 0 then none else some o) = none ↔ q * 4 = 0)
    split
    · simp [*]
    · simp [*]

theorem Reach.requestHold (hK : Admits K (reactsOn c)) {q : Nat} {o : Station}
    (hrange : RecordsSafe t → q ≤ 255 ∧ o ≠ 0) (h : Reach K s t) : Reach K s (requestHold c q o t) := by
  rcases requestHold_cases c q o t with
    ⟨-, heq⟩ | ⟨r, hrec, ⟨-, heq⟩ | ⟨hstate, heq⟩ | ⟨hq, hstate, heq⟩ | ⟨rfl, hstate, heq⟩⟩ <;> rw [heq]
  · exact h
  · exact h
  · refine h.mapRec (hK (k := .record c) rfl) (fun _ => rfl) fun x hx => ?_
    obtain rfl : x = r := Option.some.inj (hx.symm.trans hrec)
    refine .of_members_eq rfl Iff.rfl rfl fun hs hfits => ?_
    obtain ⟨hq, ho⟩ := hrange hs
    rcases hstate with hstate | ⟨hpos, hstate⟩
    · exact hfits.withHold (by simp [hstate]) hq ho (by simp [hstate])
    · exact hfits.withHold (by simp [hstate]) hq ho fun _ => hpos
  · have hheld : Reach K s (Machine.mapRec c (·.withHold q o) t) := by
      refine h.mapRec (hK (k := .record c) rfl) (fun _ => rfl) fun x hx => ?_
      obtain rfl : x = r := Option.some.inj (hx.symm.trans hrec)
      refine .of_members_eq rfl Iff.rfl rfl fun hs hfits => ?_
      obtain ⟨hq, ho⟩ := hrange hs
      rcases hstate with hstate | hstate <;> exact hfits.withHold (by simp [hstate]) hq ho (by simp [hstate])
    refine hheld.enterHeld hK (recOf_some hrec).2 fun x hx => ?_
    rw [recOf_mapRec (f := (·.withHold q o)) (fun _ => rfl), hrec] at hx
    cases hx
    refine ⟨?_, show 0 < q * 4 by omega⟩
    rcases hstate with hstate | hstate <;> simp [CourseRec.withHold, hstate]
  · rw [mapRec_mapRec (g := (·.withHold 0 o)) fun _ => rfl]
    refine Reach.evalReady hK (h.mapRec (hK (k := .record c) rfl) (fun _ => rfl) fun x hx => ?_)
    obtain rfl : x = r := Option.some.inj (hx.symm.trans hrec)
    have hne : x.state ≠ .released := by intro hr; rw [hr] at hstate; cases hstate
    refine .of_members_eq rfl (by simp [hne]) rfl fun hs hfits => ?_
    have hun := hfits.unreleased hne
    exact { hfits with
      released := nofun, unreleased := fun _ => hun, held := nofun, hold := Nat.zero_le _, origin := ⟨nofun, by simp [CourseRec.withHold]⟩ }

theorem Reach.lateHold (hK : Admits K (reactsOn c)) (hown : RecordsSafe t → t.own ≠ 0) (h : Reach K s t) :
    Reach K s (lateHold c t) :=
  Reach.handHold (hK (k := .take) trivial) _ (h.requestHold hK fun hs => ⟨hs.quanta, hown hs⟩)

/-! ### The station's standing given -/

theorem Reach.takeStanding (hK : Admits K (reactsOn c)) {g : Option (Standing × Nat)} (hg : GivenFits g t) (h : Reach K s t) :
    Reach K s (takeStanding c g t) := by
  unfold Machine.takeStanding
  split
  · exact h
  · have hown := h.followOwn (hK (k := .record c) rfl) hg
    refine .ite (fun _ => hown) fun _ => ?_
    have hhanded := hown.handCourse (hK (k := .take) trivial) (hK (k := .record c) rfl) false false
    refine Reach.evalReady hK (.ite (fun hlate => hhanded.lateHold hK fun hs => ?_) fun _ => hhanded)
    obtain ⟨x, hx, -⟩ := Option.map_eq_some_iff.mp hlate.1
    exact (givenFits_of_prog (by simp) (by simp) hg : GivenFits g _).own_ne_zero hx hs

theorem Reach.derive (hK : Admits K (reactsOn c)) (h : Reach K s t) : Reach K s (derive c t) := by
  rcases derive_cases c t with ⟨-, heq⟩ | ⟨-, heq⟩ <;> rw [heq]
  · exact h
  · exact (h.noteGiven (hK (k := .given c) rfl) _).takeStanding hK (report_givenFits c (Machine.noteGiven c (t.report c) t))

theorem Reach.deriveAll (hK : Admits K reacts) (h : Reach K s t) : Reach K s (deriveAll t) :=
  h.foldl fun _ _ _ hu => hu.derive fun _ hk => hK (reactsOn_le_reacts hk)

/-! ### Records made -/

theorem Reach.createRec {r : CourseRec} (hK : Admits K (reactsOn r.course)) (hadd : K (.add r.course)) (hnew : r.IsNew)
    (hnone : t.recOf r.course = none) (h : Reach K s t) : Reach K s (createRec r t) := by
  have hadded : Reach K s (Machine.addRec r t) := h.tail hadd (.add r t hnew hnone)
  unfold Machine.createRec
  dsimp only
  split
  · exact hadded
  · next g hg =>
    refine (hadded.noteGiven (hK (k := .given r.course) rfl) _).takeStanding hK ?_
    rw [← hg]
    exact report_givenFits r.course (Machine.noteGiven r.course _ _)

theorem isNew_new (c : CourseNo) : (CourseRec.new c).IsNew := ⟨c, 0, false, 0, rfl, by omega, by omega⟩

theorem Reach.ensureRec (hK : Admits K (reactsOn c)) (hadd : K (.add c)) (h : Reach K s t) : Reach K s (ensureRec c t) :=
  .ite (fun _ => h) fun hnone => Reach.createRec (r := CourseRec.new c) hK hadd (isNew_new c)
    (Option.not_isSome_iff_eq_none.mp hnone) h

/-! ### Runs -/

theorem Reach.setRun {z : ZoneNo} (hK : K (.run z)) {r : Run}
    (hr : t.prog.runs[z].state ≠ .idle ∨ r.state = .idle ∨ t.bus.link ≠ .monitor) (h : Reach K s t) :
    Reach K s (setRun z r t) := h.tail hK (.run z r t hr)

theorem Reach.faultCheck {z : ZoneNo} (hrun : K (.run z)) (hevent : K .event) (h : Reach K s t) :
    Reach K s (faultCheck z t) := by
  rcases faultCheck_cases z t with heq | ⟨e, hactive, -, heq⟩ <;> rw [heq]
  · exact h
  · refine (h.setRun hrun (.inl fun hidle => ?_)).raise hevent e
    rw [hidle] at hactive
    cases hactive

theorem Reach.enterStage {z : ZoneNo} (hrun : K (.run z)) (hevent : K .event) {k : Nat}
    (hr : t.prog.runs[z].state ≠ .idle ∨ t.bus.link ≠ .monitor) (h : Reach K s t) : Reach K s (enterStage k z t) :=
  (h.setRun hrun (hr.imp_right .inr)).faultCheck hrun hevent

theorem Reach.fireRuns (hrun : ∀ z, K (.run z)) (hevent : K .event) (h : Reach K s t) : Reach K s (fireRuns c t) :=
  h.foldl fun z _ _ hu =>
    .ite (fun harmed => hu.enterStage (hrun z) hevent (.inl (by rw [harmed.1]; nofun))) fun _ => hu

theorem Reach.runEvent {z : ZoneNo} {r : Run} {zn : Zone} (hevent : K .event) (h : Reach K s t) :
    Reach K s (runEvent z r zn t) := .ite (fun _ => h.raise hevent _) fun _ => .ite (fun _ => h.raise hevent _) fun _ => h

theorem ne_idle_of_timedEnds {r : Run} (h : r.timedEnds = true) : r.state ≠ .idle := by
  intro hidle
  simp [Run.timedEnds, hidle] at h

theorem counted_state (r : Run) : r.counted.state = r.state := by
  unfold Run.counted
  split <;> rfl

theorem Reach.tickRun {z : ZoneNo} (hrun : K (.run z)) (hevent : K .event) (h : Reach K s t) : Reach K s (tickRun z t) := by
  refine .ite (fun htimed => h.enterStage hrun hevent (.inl (ne_idle_of_timedEnds htimed))) fun _ => ?_
  refine (h.setRun hrun ?_).runEvent hevent
  rw [counted_state]
  by_cases hidle : t.prog.runs[z].state = .idle
  · exact .inr (.inl hidle)
  · exact .inl hidle

/-! ### Fire orders -/

/-- What a fire order of a course is made of. -/
def fires (c : CourseNo) : Kind → Prop
  | .run _ => True
  | k => reactsOn c k

theorem faultCheck_course (z : ZoneNo) (s : State) : (Machine.faultCheck z s).course = s.course := by
  rcases faultCheck_cases z s with heq | ⟨e, -, -, heq⟩ <;> simp [heq]

/-- The fire order's runs leave the course block. -/
theorem fireRuns_course (c : CourseNo) (s : State) : (Machine.fireRuns c s).course = s.course :=
  foldl_keeps State.course _ (fun u z => by
    split
    · rw [Machine.enterStage, faultCheck_course, setRun_course]
    · rfl) zoneNos s

theorem Reach.fireOrder (hK : Admits K (fires c)) (h : Reach K s t) : Reach K s (fireOrder c t) := by
  have hreacts : Admits K (reactsOn c) := fun k hk => hK (by cases k <;> first | exact hk | trivial)
  have hrun (z : ZoneNo) : K (.run z) := hK (k := .run z) trivial
  unfold Machine.fireOrder
  split
  · exact h
  · next r hrec =>
    refine .ite (fun _ => h) fun hopened => ?_
    have hstate := not_not.mp hopened
    have hfired : Reach K s (Machine.mapRec c (fun x => { x with state := .fired }) t) := by
      refine h.mapRec (hreacts (k := .record c) rfl) (fun _ => rfl) fun x hx => ?_
      obtain rfl : x = r := Option.some.inj (hx.symm.trans hrec)
      refine .of_members_eq rfl (by simp [hstate]) rfl fun _ hfits => ?_
      have hun := hfits.unreleased (by simp [hstate])
      exact { hfits with released := nofun, unreleased := fun _ => hun, held := nofun }
    have hruns := hfired.fireRuns (c := c) hrun (hreacts (k := .event) trivial)
    refine Reach.evalReady hreacts (Reach.derive hreacts (.ite (fun hhold => ?_) fun _ => hruns))
    refine hruns.enterHeld hreacts (recOf_some hrec).2 fun x hx => ?_
    rw [State.recOf, fireRuns_course, ← State.recOf, recOf_mapRec (f := fun x => { x with state := .fired }) (fun _ => rfl), hrec] at hx
    cases hx
    exact ⟨nofun, hhold⟩

/-- What a FIRE of a course is made of, and the record it may make. -/
def firesWith (c : CourseNo) : Kind → Prop
  | .add d => d = c
  | .grant => True
  | k => fires c k

theorem firesWith_admits_fires (hK : Admits K (firesWith c)) : Admits K (fires c) := fun k hk =>
  hK (by cases k <;> first | exact hk | trivial | cases hk)

theorem firesWith_admits_reactsOn (hK : Admits K (firesWith c)) : Admits K (reactsOn c) := fun k hk =>
  hK (by cases k <;> first | exact hk | trivial | cases hk)

theorem Reach.fireLocal (hK : Admits K (fires c)) (h : Reach K s t) : Reach K s (fireLocal c t) :=
  (h.fireOrder hK).handCourse (hK (k := .take) trivial) (hK (k := .record c) rfl) _ _

/-- A FIRE up to the following of the demand. -/
theorem Reach.fireUnfollowed (hK : Admits K (firesWith c)) (h : Reach K s t) :
    Reach K s (Machine.fireLocal c (Machine.ensureRec c t)) :=
  (h.ensureRec (firesWith_admits_reactsOn hK) (hK (k := .add c) rfl)).fireLocal (firesWith_admits_fires hK)

theorem Reach.fire (hK : Admits K (firesWith c)) (h : Reach K s t) : Reach K s (fire c t) :=
  (h.fireUnfollowed hK).followDemand (hK (k := .grant) trivial)

theorem Reach.bump (hK : K .count) (n : CounterName) (h : Reach K s t) : Reach K s (bump n t) := h.tail hK (.count n t)

theorem Reach.latch (hK : K .latch) (x : Cause) (h : Reach K s t) : Reach K s (latch x t) := h.tail hK (.latch x t)

theorem Reach.fireScheduled (hK : Admits K (firesWith c)) (h : Reach K s t) : Reach K s (fireScheduled c t) :=
  .ite (fun _ => h) fun _ => .ite (fun _ => h.fire hK) fun _ => h.bump (hK (k := .count) trivial) _

/-- The schedule keeps some of its entries. -/
theorem Reach.thinSchedule (hK : K .schedule) {l : List SchedEntry} (hl : l.Sublist t.course.schedule) (h : Reach K s t) :
    Reach K s { t with course := { t.course with schedule := l } } :=
  h.tail hK (.schedule l t ⟨fun _ he => .inl (hl.subset he), .inl hl.length_le⟩)

theorem Reach.fireEntries (hschedule : K .schedule) (hK : ∀ e ∈ t.course.schedule, Admits K (firesWith e.course))
    (due : SchedEntry → Bool) (h : Reach K s t) : Reach K s (fireEntries due t) :=
  (h.thinSchedule hschedule List.filter_sublist).foldl fun e he _ hu => hu.fireScheduled (hK e (List.mem_filter.mp he).1)

/-! ### Members lost -/

theorem Reach.loseMember (hK : Admits K (reactsOn c)) (st : Station) (h : Reach K s t) : Reach K s (loseMember st c t) := by
  unfold Machine.loseMember
  split
  · exact h
  · next r hrec =>
    have hdropped : Reach K s (Machine.mapRec c (fun x => { x with members := dropMember st r.members }) t) := by
      refine h.mapRec (hK (k := .record c) rfl) (fun _ => rfl) fun x hx => ?_
      obtain rfl : x = r := Option.some.inj (hx.symm.trans hrec)
      exact ⟨Iff.rfl, rfl, fun m hm => .inr (.inr ⟨m, (mem_dropMember.mp hm).1, rfl⟩), fun horder => horder.filter _,
        fun _ hfits => { hfits with members := fun m hm => hfits.members m (mem_dropMember.mp hm).1 }⟩
    exact .ite (fun _ => h) fun _ => .ite (fun _ => hdropped) fun _ =>
      Reach.evalReady hK ((hdropped.raise (hK (k := .event) trivial) _).makeReport (hK (k := .report) trivial) _)

theorem Reach.overBoard {f : CourseNo → State → State} (hf : ∀ c u, Reach K s u → Reach K s (f c u)) (h : Reach K s t) :
    Reach K s (overBoard f t) := h.foldl fun d _ u hu => hf d u hu

theorem Reach.loseMembers (hK : Admits K reacts) (st : Station) (h : Reach K s t) : Reach K s (loseMembers st t) :=
  h.foldl fun _ _ _ hu => hu.loseMember (fun _ hk => hK (reactsOn_le_reacts hk)) st

/-! ### The tick -/

theorem RecordsSafe.fits {r : CourseRec} (hs : RecordsSafe s) (hr : r ∈ s.course.board) : r.Fits where
  course := hs.course r hr
  released := hs.released r hr
  unreleased := hs.unreleased r hr
  held := hs.held r hr
  hold := hs.hold r hr
  origin := hs.origin r hr
  plates := hs.plates r hr
  delay := hs.delay r hr
  repeats := hs.repeats r hr
  time := hs.time r hr
  age := hs.age r hr
  members := hs.members r hr

theorem RecordsSafe.fits_of_recOf {r : CourseRec} (hs : RecordsSafe s) (hr : s.recOf c = some r) : r.Fits :=
  hs.fits (recOf_some hr).1

theorem Reach.tickHold (hK : Admits K (reactsOn c)) (h : Reach K s t) : Reach K s (tickHold c t) := by
  unfold Machine.tickHold
  split
  · exact h
  · next r hrec =>
    refine .ite (fun _ => h) fun hnot => .ite (fun hone => Reach.evalReady hK ?_) fun hmore => ?_ <;>
      obtain ⟨hstate, hpos⟩ := not_or.mp hnot
    · refine h.mapRec (hK (k := .record c) rfl) (fun _ => rfl) fun x hx => ?_
      obtain rfl : x = r := Option.some.inj (hx.symm.trans hrec)
      have hleft : (if x.state = .held then CourseState.fired else x.state) ≠ .released ∧
          (if x.state = .held then CourseState.fired else x.state) ≠ .held := by
        split
        · exact ⟨nofun, nofun⟩
        · exact ⟨hstate, by assumption⟩
      refine .of_members_eq rfl ⟨fun hr => absurd hr hleft.1, fun hr => absurd hr hstate⟩ rfl fun _ hfits => ?_
      have hun := hfits.unreleased hstate
      exact { hfits with
        released := fun hr => absurd hr hleft.1, unreleased := fun _ => hun, held := fun hr => absurd hr hleft.2,
        hold := Nat.zero_le _, origin := ⟨nofun, by simp⟩ }
    · refine h.mapRec (hK (k := .record c) rfl) (fun _ => rfl) fun x hx => ?_
      obtain rfl : x = r := Option.some.inj (hx.symm.trans hrec)
      refine .of_members_eq rfl Iff.rfl rfl fun _ hfits => ?_
      have hle := hfits.hold
      refine { hfits with
        released := fun hr => absurd hr hstate, held := fun _ => ?_, hold := ?_,
        origin := ⟨hfits.origin.1, hfits.origin.2.trans ?_⟩ } <;> dsimp only <;> omega

/-- The own entry of a record shows the station's number not to be 0. -/
theorem own_ne_zero_of_member {r : CourseRec} {m : Member} (hs : RecordsSafe t) (hrec : t.recOf c = some r)
    (hm : r.member t.own = some m) : t.own ≠ 0 := by
  have hstation : m.station = t.own := by simpa using List.find?_some hm
  exact hstation ▸ ((hs.fits_of_recOf hrec).members m (List.mem_of_find?_eq_some hm)).1

theorem Reach.tickLate (hK : Admits K (reactsOn c)) (h : Reach K s t) : Reach K s (tickLate c t) := by
  unfold Machine.tickLate
  split
  · exact h
  · next r hrec =>
    refine .ite (fun hlate => h.lateHold hK fun hs => ?_) fun _ => h
    obtain ⟨-, hlate, -⟩ := hlate
    obtain ⟨m, hm, -⟩ := Option.map_eq_some_iff.mp hlate
    exact own_ne_zero_of_member hs hrec hm

theorem Reach.removeRec (hK : K (.remove c)) (h : Reach K s t) : Reach K s (removeRec c t) := h.tail hK (.remove c t)

theorem Reach.tickAge (hrecord : K (.record c)) (hremove : K (.remove c)) (h : Reach K s t) : Reach K s (tickAge c t) := by
  unfold Machine.tickAge
  split
  · exact h
  · next r hrec =>
    refine .ite (fun _ => h) fun hstate => .ite (fun _ => h.removeRec hremove) fun hage => ?_
    refine h.mapRec hrecord (fun _ => rfl) fun x hx => ?_
    obtain rfl : x = r := Option.some.inj (hx.symm.trans hrec)
    refine .of_members_eq rfl Iff.rfl rfl fun _ hfits => ?_
    exact { hfits with unreleased := fun hne => absurd (not_not.mp hstate) hne, age := by dsimp only; omega }

theorem nodup_map_map_of_eq {α β : Type} {f : α → β} {g : α → α} (hg : ∀ a, f (g a) = f a) {l : List α}
    (h : (l.map f).Nodup) : ((l.map g).map f).Nodup := by
  rw [List.map_map]
  exact (List.map_congr_left fun a _ => hg a : l.map (f ∘ g) = l.map f) ▸ h

theorem Reach.tickClearing (hclear : K .clearing) (hevent : K .event) (h : Reach K s t) : Reach K s (tickClearing t) := by
  refine Reach.foldl (fun e _ u hu => hu.raise hevent _) (h.tail hclear (.clearing _ t fun hfit => ⟨?_, ?_⟩))
  · simpa using (List.length_filter_le _ _).trans hfit.1
  · exact nodup_map_map_of_eq (g := fun e : ClearEntry => { e with remaining := e.remaining - 1 }) (fun _ => rfl) (nodup_filter_map _ hfit.2)

theorem Reach.tickRepeat (hK : Admits K (reactsOn c)) (h : Reach K s t) : Reach K s (tickRepeat c t) := by
  unfold Machine.tickRepeat
  split
  · exact h
  · next r hrec =>
    refine .ite (fun _ => h) fun _ => .ite (fun _ => ?_) fun hcount => ?_
    · exact h.handCourse (hK (k := .take) trivial) (hK (k := .record c) rfl) _ _
    · refine h.mapRec (hK (k := .record c) rfl) (fun _ => rfl) fun x hx => ?_
      obtain rfl : x = r := Option.some.inj (hx.symm.trans hrec)
      exact .of_members_eq rfl Iff.rfl rfl fun _ hfits => { hfits with repeats := by dsimp only; omega }

theorem nextSecond_le (n : Nat) : nextSecond n ≤ 86399 := by
  unfold nextSecond
  omega

/-- What the course block's tick is made of besides the fire orders of its entries. -/
def boardWork : Kind → Prop
  | .clock | .schedule | .clearing | .remove _ => True
  | k => reacts k

theorem boardWork_admits_reacts (hK : Admits K boardWork) : Admits K reacts := fun k hk =>
  hK (by cases k <;> first | exact hk | trivial)

theorem Reach.courseTick (hK : Admits K boardWork)
    (hfire : ∀ u, Reach K s u → ∀ e ∈ u.course.schedule, Admits K (firesWith e.course)) (h : Reach K s t) :
    Reach K s (courseTick t) := by
  have hreacts (d : CourseNo) : Admits K (reactsOn d) := fun _ hk => boardWork_admits_reacts hK (reactsOn_le_reacts hk)
  have hclock : Reach K s (setClockTo (nextSecond t.course.clock) t) :=
    h.tail (hK (k := .clock) trivial) (.clock _ t (nextSecond_le _))
  have hheld : Reach K s (Machine.overBoard Machine.tickHold _) := hclock.overBoard fun d u hu => hu.tickHold (hreacts d)
  refine Reach.overBoard (fun d u hu => hu.tickRepeat (hreacts d)) ?_
  refine Reach.tickClearing (hK (k := .clearing) trivial) (hK (k := .event) trivial) ?_
  refine Reach.overBoard (fun d u hu => hu.tickAge (hK (k := .record d) trivial) (hK (k := .remove d) trivial)) ?_
  refine Reach.overBoard (fun d u hu => hu.tickLate (hreacts d)) ?_
  exact hheld.fireEntries (hK (k := .schedule) trivial) (hfire _ hheld) _

/-! ### Commands and notices -/

theorem Reach.releaseIfAuto (hK : Admits K (reactsOn c)) (h : Reach K s t) : Reach K s (releaseIfAuto c t) := by
  unfold Machine.releaseIfAuto
  split
  · exact .ite (fun _ => h.releaseCourse (hK (k := .release c) rfl) _ _) fun _ => h
  · exact h

theorem Reach.openCourse (hK : Admits K (reactsOn c)) (hadd : K (.add c)) (p : List Byte) (h : Reach K s t) :
    Reach K s (openCourse c p t) := by
  have hmade : Reach K s (if (t.recOf c).isSome then Machine.mapRec c (·.withOpening p) t
      else Machine.createRec ((CourseRec.new c).withOpening p) t) := by
    refine .ite (fun _ => ?_) fun hnone => ?_
    · refine h.mapRec (hK (k := .record c) rfl) (fun _ => rfl) fun r _ => ?_
      exact .of_members_eq rfl Iff.rfl rfl fun _ hfits =>
        { hfits with plates := Nat.min_le_left _ _, delay := Nat.min_le_left _ _ }
    · exact Reach.createRec (r := (CourseRec.new c).withOpening p) hK hadd
        ⟨c, _, _, _, rfl, Nat.min_le_left _ _, Nat.min_le_left _ _⟩ (Option.not_isSome_iff_eq_none.mp hnone) h
  exact Reach.releaseIfAuto hK (Reach.evalReady hK (hmade.handCourse (hK (k := .take) trivial) (hK (k := .record c) rfl) _ _))

theorem Reach.holdCourse (hK : Admits K (reactsOn c)) {q : Nat} (hrange : RecordsSafe t → q ≤ 255 ∧ t.own ≠ 0)
    (h : Reach K s t) : Reach K s (holdCourse c q t) :=
  Reach.handHold (hK (k := .take) trivial) _ (h.requestHold hK hrange)

theorem Reach.takePlates {x : CourseSaid} (hK : K (.record x.course)) (h : Reach K s t) : Reach K s (takePlates x t) := by
  unfold Machine.takePlates
  split
  · refine .ite (fun _ => h) fun _ => h.mapRec hK (fun _ => rfl) fun r _ => ?_
    exact .of_members_eq rfl Iff.rfl rfl fun _ hfits => { hfits with plates := Nat.min_le_left _ _ }
  · exact h

theorem warmOf_le (x : Option Half) : warmOf x ≤ 4000 := by
  cases x with
  | none => exact Nat.zero_le _
  | some n => exact Nat.min_le_left _ _

/-- A member entry after the sender's notice: the sender's, or one that stood. -/
theorem mem_membersAfter {x : CourseSaid} {m : Member} {l : List Member} (h : m ∈ x.membersAfter l) :
    (m.station = x.sender ∧ m.warm = warmOf x.warm) ∨ m ∈ l := by
  unfold CourseSaid.membersAfter at h
  split at h
  · exact (mem_putMember h).imp_left fun ⟨hst, _, hwarm⟩ => ⟨hst, hwarm⟩
  all_goals exact .inr (mem_dropMember.mp h).1

theorem membersAfter_pairwise (x : CourseSaid) {l : List Member} (h : l.Pairwise fun a b => a.station < b.station) :
    (x.membersAfter l).Pairwise fun a b => a.station < b.station := by
  unfold CourseSaid.membersAfter
  split
  · exact putMember_pairwise _ h
  all_goals exact h.filter _

theorem ne_zero_of_isMemberPeer {st : Station} (h : t.isMemberPeer st = true) : st ≠ 0 := by
  simp only [State.isMemberPeer, Bool.and_eq_true, bne_iff_ne] at h
  exact h.1.1

theorem Reach.takeMember {x : CourseSaid} (hK : K (.record x.course)) (h : Reach K s t) : Reach K s (takeMember x t) := by
  refine .ite (fun hpeer => h.mapRec hK (fun _ => rfl) fun r _ => ?_) fun _ => h
  refine ⟨Iff.rfl, rfl, fun m hm => ?_, membersAfter_pairwise x, fun _ hfits => { hfits with members := fun m hm => ?_ }⟩
  · rcases mem_membersAfter hm with ⟨hst, -⟩ | hm
    · exact .inr (.inl (hst ▸ hpeer))
    · exact .inr (.inr ⟨m, hm, rfl⟩)
  · rcases mem_membersAfter hm with ⟨hst, hwarm⟩ | hm
    · exact ⟨hst ▸ ne_zero_of_isMemberPeer hpeer, hwarm ▸ warmOf_le _⟩
    · exact hfits.members m hm

theorem markFire_step (st : Station) (s : State) (r : CourseRec) : RecStep s r (markFire st r) := by
  have hkeep (m : Member) : (if m.station = st then { m with fireSeen := true } else m).station = m.station ∧
      (if m.station = st then { m with fireSeen := true } else m).warm = m.warm := by split <;> exact ⟨rfl, rfl⟩
  refine ⟨Iff.rfl, rfl, fun m hm => ?_, pairwise_map_of_key Member.station fun m => (hkeep m).1,
    fun _ hfits => { hfits with members := fun m hm => ?_ }⟩ <;> obtain ⟨m₀, hm₀, rfl⟩ := List.mem_map.mp hm
  · exact .inr (.inr ⟨m₀, hm₀, (hkeep m₀).1.symm⟩)
  · rw [(hkeep m₀).1, (hkeep m₀).2]
    exact hfits.members m₀ hm₀

theorem Reach.takeFire {x : CourseSaid} (hK : Admits K (fires x.course)) (h : Reach K s t) : Reach K s (takeFire x t) := by
  refine .ite (fun _ => Reach.fireOrder hK (.ite (fun _ => ?_) fun _ => h)) fun _ => h
  exact h.mapRec (hK (k := .record x.course) rfl) (fun _ => rfl) fun r _ => markFire_step x.sender t r

theorem Reach.reRelease {x : CourseSaid} (hK : Admits K (reactsOn x.course)) (h : Reach K s t) : Reach K s (reRelease x t) := by
  unfold Machine.reRelease
  split
  · exact .ite (fun _ => h.handCourse (hK (k := .take) trivial) (hK (k := .record x.course) rfl) _ _) fun _ => h
  all_goals exact h

/-- A COURSE heard up to the following of the demand. -/
theorem Reach.standingUnfollowed {x : CourseSaid} (hK : Admits K (fires x.course)) (h : Reach K s t) :
    Reach K s (Machine.evalReady x.course (Machine.takeFire x (Machine.takeMember x (Machine.takePlates x t)))) := by
  have hrecord := hK (k := .record x.course) rfl
  exact Reach.evalReady (fun k hk => hK (by cases k <;> first | exact hk | trivial))
    (((h.takePlates hrecord).takeMember hrecord).takeFire hK)

theorem Reach.takeStandingHeard {x : CourseSaid} (hK : Admits K (firesWith x.course)) (h : Reach K s t) :
    Reach K s (takeStandingHeard x t) :=
  (h.standingUnfollowed (firesWith_admits_fires hK)).followDemand (hK (k := .grant) trivial)

theorem Reach.takeCourse {x : CourseSaid} (hK : Admits K (firesWith x.course)) (h : Reach K s t) :
    Reach K s (takeCourse x t) := by
  have hreacts := firesWith_admits_reactsOn hK
  unfold Machine.takeCourse
  refine .ite (fun _ => h.releaseCourse (hreacts (k := .release _) rfl) _ _) fun _ => ?_
  split
  · exact .ite (fun _ => h.reRelease hreacts) fun _ => h.takeStandingHeard hK
  · next hnone =>
    refine .ite (fun _ => h) fun _ => .ite (fun _ => ?_) fun _ => h.bump (hK (k := .count) trivial) _
    exact Reach.takeStandingHeard hK (Reach.createRec (r := CourseRec.new x.course) hreacts (hK (k := .add _) rfl) (isNew_new _) hnone h)

end Chains

end Sys2Proof.Machine

/-! SUPPORT. The transmit queue and the access machine: what each of their operations keeps of R68's bounds, and each as a move. -/

namespace Sys2Proof.Machine

/-! ### R68 of a bus -/

/-- R68 and the model's identities, of the Passbus controller alone: `TxSafe` says them of the state. -/
structure Bus.Safe (b : Bus) : Prop where
  room : b.queue.length ≤ 12
  keys : ((b.queue.filter (·.waiting)).filterMap (·.body.key)).Nodup
  line : (b.queue.filter (·.onLine)).length ≤ 1
  sending : b.access ≠ .sending → b.queue.all (·.waiting) = true
  ids : (b.queue.map (·.id)).Nodup
  fresh : ∀ e ∈ b.queue, e.id < b.nextId

theorem txSafe_iff {s : State} : TxSafe s ↔ s.bus.Safe :=
  ⟨fun h => ⟨h.room, h.keys, h.line, h.sending, h.ids, h.fresh⟩, fun h => ⟨h.room, h.keys, h.line, h.sending, h.ids, h.fresh⟩⟩

section Bus
variable {b b' : Bus}

/-- The queue loses notices at most, and the machine sends only where it did. -/
theorem Bus.Safe.thin (h : b.Safe) (hqueue : b'.queue.Sublist b.queue) (hnext : b.nextId ≤ b'.nextId)
    (hsending : b'.access ≠ .sending → b'.queue.all (·.waiting) = true) : b'.Safe where
  room := hqueue.length_le.trans h.room
  keys := h.keys.sublist ((hqueue.filter _).filterMap _)
  line := (hqueue.filter _).length_le.trans h.line
  sending := hsending
  ids := h.ids.sublist (hqueue.map _)
  fresh := fun e he => (h.fresh e (hqueue.subset he)).trans_le hnext

/-- The queue stands, and the machine sends only where it did. -/
theorem Bus.Safe.same (h : b.Safe) (hqueue : b'.queue = b.queue) (hnext : b'.nextId = b.nextId)
    (haccess : b'.access ≠ .sending → b.access ≠ .sending) : b'.Safe :=
  h.thin (hqueue ▸ .refl _) hnext.ge fun hs => hqueue ▸ h.sending (haccess hs)

/-- Notices change only figures that R68 does not name. -/
theorem Bus.Safe.touch (h : b.Safe) {f : TxEntry → TxEntry}
    (hf : ∀ e, (f e).id = e.id ∧ (f e).onLine = e.onLine ∧ (f e).body = e.body) :
    ({ b with queue := b.queue.map f } : Bus).Safe := by
  have hid (e : TxEntry) : (f e).id = e.id := (hf e).1
  have hline (e : TxEntry) : (f e).onLine = e.onLine := (hf e).2.1
  have hwaiting (e : TxEntry) : (f e).waiting = e.waiting := by rw [TxEntry.waiting, hline, TxEntry.waiting]
  refine ⟨by simpa using h.room, ?_, ?_, fun hs => ?_, ?_, fun e he => ?_⟩
  · simpa [List.filter_map, List.filterMap_map, Function.comp_def, hwaiting, (hf _).2.2] using h.keys
  · simpa [List.filter_map, Function.comp_def, hline] using h.line
  · simpa [hwaiting] using h.sending hs
  · simpa [Function.comp_def, hid] using h.ids
  · obtain ⟨e₀, he₀, rfl⟩ := List.mem_map.mp he
    rw [hid]
    exact h.fresh e₀ he₀

theorem Bus.Safe.seek (h : b.Safe) (hall : b.queue.all (·.waiting) = true) : b.seek.Safe := by
  rcases seek_cases b with ⟨-, heq⟩ | ⟨_, -, ⟨-, heq⟩ | ⟨-, heq⟩⟩ <;> rw [heq] <;>
    exact h.thin (.refl _) (Nat.le_refl _) fun _ => hall

theorem seek_queue (b : Bus) : b.seek.queue = b.queue := by
  rcases seek_cases b with ⟨-, heq⟩ | ⟨_, -, ⟨-, heq⟩ | ⟨-, heq⟩⟩ <;> rw [heq]

theorem wake_queue (b : Bus) : b.wake.queue = b.queue := by
  unfold Bus.wake
  split
  · exact seek_queue b
  · rfl

theorem Bus.Safe.wake (h : b.Safe) : b.wake.Safe := by
  unfold Bus.wake
  split
  · next hempty => exact h.seek (h.sending (by rw [hempty]; nofun))
  · exact h

end Bus

/-! ### What the searches of the queue find -/

theorem waiting_iff {e : TxEntry} : e.waiting = true ↔ e.onLine = false := by simp [TxEntry.waiting]

theorem headOf_mem {q : List TxEntry} {e : TxEntry} (h : headOf q = some e) : e ∈ q ∧ e.waiting = true := by
  have hmem := List.mem_of_mem_head? h
  simp only [waitingOf, List.mem_append, List.mem_filter, Bool.and_eq_true] at hmem
  rcases hmem with (hmem | hmem) | hmem <;> exact ⟨hmem.1, hmem.2.1⟩

theorem onLineOf_mem {q : List TxEntry} {e : TxEntry} (h : onLineOf q = some e) : e ∈ q ∧ e.onLine = true :=
  ⟨List.mem_of_find?_eq_some h, by simpa using List.find?_some h⟩

theorem supersededBy_some {b : Body} {q : List TxEntry} {e : TxEntry} (h : supersededBy b q = some e) :
    e ∈ q ∧ e.waiting = true ∧ e.body.key = b.key := by
  have hp := List.find?_some h
  simp only [Bool.and_eq_true, beq_iff_eq] at hp
  exact ⟨List.mem_of_find?_eq_some h, hp.1.1, hp.1.2⟩

/-- No waiting notice has the key of one that supersedes none. -/
theorem key_not_mem_of_supersededBy_none {b : Body} {q : List TxEntry} (h : supersededBy b q = none) {k : TxKey}
    (hk : b.key = some k) : k ∉ (q.filter (·.waiting)).filterMap (·.body.key) := by
  intro hmem
  obtain ⟨e, he, hek⟩ := List.mem_filterMap.mp hmem
  obtain ⟨heq, hwaiting⟩ := List.mem_filter.mp he
  have hnone := List.find?_eq_none.mp h e heq
  simp [hwaiting, hek, hk] at hnone

theorem displacedBy_mem {b : Body} {q : List TxEntry} {e : TxEntry} (h : displacedBy b q = some e) : e ∈ q := by
  have hlast {cls : TxClass} (hl : (waitingOf cls q).getLast? = some e) : e ∈ q :=
    (List.mem_filter.mp (List.mem_of_getLast? hl)).1
  unfold displacedBy at h
  split at h
  · rcases Option.or_eq_some_iff.mp h with h | ⟨-, h⟩ <;> exact hlast h
  · exact hlast h
  · cases h

theorem withoutId_sublist (id : Nat) (q : List TxEntry) : (withoutId id q).Sublist q := List.filter_sublist

theorem withoutId_length_lt {q : List TxEntry} {e : TxEntry} (h : e ∈ q) : (withoutId e.id q).length < q.length :=
  List.length_filter_lt_length_iff_exists.mpr ⟨e, h, by simp⟩

theorem eq_of_mem_of_length_le_one {α : Type} {l : List α} (h : l.length ≤ 1) {x y : α} (hx : x ∈ l) (hy : y ∈ l) :
    x = y := by
  match l, h with
  | [a], _ => rw [List.mem_singleton.mp hx, List.mem_singleton.mp hy]

/-- With one notice at most on the line, every other waits. -/
theorem waiting_of_ne_onLine {q : List TxEntry} {e x : TxEntry} (hline : (q.filter (·.onLine)).length ≤ 1) (hmem : e ∈ q)
    (he : e.onLine = true) (hx : x ∈ q) (hne : x.id ≠ e.id) : x.waiting = true := by
  rw [waiting_iff, Bool.eq_false_iff]
  exact fun hon => hne (congrArg TxEntry.id
    (eq_of_mem_of_length_le_one hline (List.mem_filter.mpr ⟨hx, hon⟩) (List.mem_filter.mpr ⟨hmem, he⟩)))

theorem withoutId_all_waiting {q : List TxEntry} {e : TxEntry} (hline : (q.filter (·.onLine)).length ≤ 1) (hmem : e ∈ q)
    (he : e.onLine = true) : (withoutId e.id q).all (·.waiting) = true := by
  refine List.all_eq_true.mpr fun x hx => ?_
  obtain ⟨hxq, hne⟩ := List.mem_filter.mp hx
  exact waiting_of_ne_onLine hline hmem he hxq (by simpa using hne)

/-- The keys of the waiting notices of a list with one in the middle, that one's first. -/
theorem keys_middle (l1 l2 : List TxEntry) (x : TxEntry) :
    (((l1 ++ x :: l2).filter (·.waiting)).filterMap (·.body.key)).Perm
      ((if x.waiting then x.body.key.toList else []) ++ ((l1 ++ l2).filter (·.waiting)).filterMap (·.body.key)) := by
  have hperm := (((List.perm_middle (a := x) (l₁ := l1) (l₂ := l2)).filter (·.waiting)).filterMap (·.body.key))
  refine hperm.trans (.of_eq ?_)
  cases hw : x.waiting <;> cases hk : x.body.key <;> simp [hw, hk]

/-- One notice gives way to another in its place. -/
theorem Bus.Safe.replace {b b' : Bus} (h : b.Safe) {l1 l2 : List TxEntry} {x y : TxEntry} (hq : b.queue = l1 ++ x :: l2)
    (hq' : b'.queue = l1 ++ y :: l2)
    (hid : (y.id = x.id ∧ b'.nextId = b.nextId) ∨ (y.id = b.nextId ∧ b'.nextId = b.nextId + 1))
    (hkey : y.waiting = true → (x.waiting = true ∧ y.body.key = x.body.key) ∨
      ∀ k, y.body.key = some k → k ∉ ((l1 ++ l2).filter (·.waiting)).filterMap (·.body.key))
    (hline : y.onLine = true → (l1 ++ l2).all (·.waiting) = true)
    (hsending : b'.access ≠ .sending → b'.queue.all (·.waiting) = true) : b'.Safe := by
  have hkeys := (keys_middle l1 l2 x).nodup_iff.mp (hq ▸ h.keys)
  have hids := (List.perm_middle.map TxEntry.id).nodup_iff.mp (hq ▸ h.ids)
  have hfresh (e : TxEntry) (he : e ∈ l1 ++ l2) : e.id < b.nextId :=
    h.fresh e (hq ▸ by simp only [List.mem_append, List.mem_cons] at he ⊢; tauto)
  rw [List.map_cons, List.nodup_cons] at hids
  refine ⟨?_, ?_, ?_, hsending, ?_, fun e he => ?_⟩
  · have := h.room
    simp only [hq, hq', List.length_append, List.length_cons] at this ⊢
    exact this
  · rw [hq', (keys_middle l1 l2 y).nodup_iff]
    have hrest := hkeys.of_append_right
    cases hw : y.waiting with
    | false => simpa using hrest
    | true =>
      rcases hkey hw with ⟨hxw, heq⟩ | hnew
      · simpa [hxw, heq] using hkeys
      · refine List.Nodup.append (by cases y.body.key <;> simp) hrest fun k hk => ?_
        exact hnew k (by simpa using hk)
  · have hmiddle (z : TxEntry) : ((l1 ++ z :: l2).filter (·.onLine)).length = (if z.onLine then 1 else 0) +
        ((l1 ++ l2).filter (·.onLine)).length := by
      simp only [List.filter_append, List.filter_cons, List.length_append]
      split <;> simp <;> omega
    have hle := h.line
    rw [hq, hmiddle] at hle
    rw [hq', hmiddle]
    cases hy : y.onLine with
    | false => simp only [Bool.false_eq_true, if_false]; omega
    | true =>
      have hnone : (l1 ++ l2).filter (·.onLine) = [] := List.filter_eq_nil_iff.mpr fun e he => by
        simpa [waiting_iff] using List.all_eq_true.mp (hline hy) e he
      simp [hnone]
  · rw [hq', (List.perm_middle.map TxEntry.id).nodup_iff, List.map_cons, List.nodup_cons]
    refine ⟨fun hmem => ?_, hids.2⟩
    rcases hid with ⟨hid, -⟩ | ⟨hid, -⟩
    · exact hids.1 (hid ▸ hmem)
    · obtain ⟨e, he, heid⟩ := List.mem_map.mp hmem
      have := hfresh e he
      omega
  · rw [hq'] at he
    have hx : x.id < b.nextId := h.fresh x (hq ▸ by simp)
    have hcases : e = y ∨ e ∈ l1 ++ l2 := by simp only [List.mem_append, List.mem_cons] at he ⊢; tauto
    rcases hcases with rfl | he
    · omega
    · have := hfresh e he
      omega

/-! ### A notice taken -/

theorem Bus.Safe.append {b : Bus} (h : b.Safe) {e : TxEntry} (hroom : b.queue.length < 12) (hid : e.id = b.nextId)
    (hwaiting : e.waiting = true) (hkey : supersededBy e.body b.queue = none) : (b.took (b.queue ++ [e])).Safe where
  room := by simp [Bus.took]; omega
  keys := by
    have hkeys : ((b.queue ++ [e]).filter (·.waiting)).filterMap (·.body.key) =
        (b.queue.filter (·.waiting)).filterMap (·.body.key) ++ e.body.key.toList := by
      cases hk : e.body.key <;> simp [hwaiting, hk]
    show (List.filterMap _ (List.filter _ (b.queue ++ [e]))).Nodup
    rw [hkeys]
    refine h.keys.append (by cases e.body.key <;> simp) fun k hk hk' => ?_
    exact key_not_mem_of_supersededBy_none hkey (by simpa using hk') hk
  line := by simpa [Bus.took, waiting_iff.mp hwaiting] using h.line
  sending := fun hs => by simpa [Bus.took, hwaiting] using h.sending hs
  ids := by
    rw [Bus.took, List.map_append]
    refine h.ids.append (by simp) fun k hk hk' => ?_
    obtain ⟨x, hx, rfl⟩ := List.mem_map.mp hk
    have := h.fresh x hx
    simp at hk'
    omega
  fresh := fun x hx => by
    rcases List.mem_append.mp hx with hx | hx
    · exact (h.fresh x hx).trans (Nat.lt_succ_self _)
    · obtain rfl : x = e := by simpa using hx
      show x.id < b.nextId + 1
      omega

theorem displaced_supersededBy_none {b : Body} {id : Nat} {q : List TxEntry} (h : supersededBy b q = none) :
    supersededBy b (withoutId id q) = none :=
  List.find?_eq_none.mpr fun e he => List.find?_eq_none.mp h e ((withoutId_sublist id q).subset he)

/-- R67–R69: whatever becomes of a notice taken, R68 stands. -/
theorem TxSafe.takeNotice {s : State} (h : TxSafe s) (b : Body) : TxSafe (takeNotice b s) := by
  have hb := txSafe_iff.mp h
  rw [txSafe_iff]
  unfold Machine.takeNotice
  split
  · next old hold =>
    obtain ⟨hmem, hwaiting, hkey⟩ := supersededBy_some hold
    obtain ⟨l1, l2, hq⟩ := List.append_of_mem hmem
    refine hb.replace (y := { s.newEntry b with attempts := old.attempts, waitMs := old.waitMs }) hq ?_ (.inr ⟨rfl, rfl⟩)
      (fun _ => .inl ⟨hwaiting, hkey.symm⟩) (fun hon => by cases hon) fun hs => ?_
    · show List.map _ s.bus.queue = _
      rw [hq]
      exact map_id_eq (hq ▸ hb.ids) _
    · refine List.all_eq_true.mpr fun e he => ?_
      obtain ⟨e₀, he₀, rfl⟩ := List.mem_map.mp he
      split
      · rfl
      · exact List.all_eq_true.mp (hb.sending hs) e₀ he₀
  · next hnone =>
    split
    · next hroom => exact (hb.append (e := s.newEntry b) hroom rfl rfl hnone).wake
    · split
      · next v hv =>
        have hmem := displacedBy_mem hv
        have hthin : ({ s.bus with queue := withoutId v.id s.bus.queue } : Bus).Safe :=
          hb.thin (withoutId_sublist _ _) (Nat.le_refl _) fun hs =>
            List.all_eq_true.mpr fun e he => List.all_eq_true.mp (hb.sending hs) e ((withoutId_sublist _ _).subset he)
        have hlt := withoutId_length_lt hmem
        have hle := hb.room
        exact hthin.append (e := s.newEntry b) (by dsimp only; omega) rfl rfl (displaced_supersededBy_none hnone)
      · exact hb

/-! ### The access machine's own changes -/

section Changes
variable {s t : State} {K : Kind → Prop}

/-- A change of the bus that moves neither link nor an empty queue. -/
theorem Reach.setBus (hK : K .bus) {b : Bus} (hlink : b.link = t.bus.link) (hqueue : t.bus.queue = [] → b.queue = [])
    (hsafe : t.bus.Safe → b.Safe) (h : Reach K s t) : Reach K s { t with bus := b } :=
  h.tail hK (.bus b t ⟨hlink, hqueue, fun hs => txSafe_iff.mpr (hsafe (txSafe_iff.mp hs))⟩)

/-- The machine seeks the line at a queue that all waits once it is safe. -/
theorem Reach.seekLine (hK : K .bus) (hall : t.bus.Safe → t.bus.queue.all (·.waiting) = true) (h : Reach K s t) :
    Reach K s (seekLine t) :=
  h.setBus hK (seek_link _) (fun hq => (seek_queue _).trans hq) fun hs => hs.seek (hall hs)

theorem Reach.seekBackoff (hK : K .bus) (hidle : t.bus.access ≠ .sending) (h : Reach K s t) : Reach K s (Machine.seekLine t) :=
  h.seekLine hK fun hs => hs.sending hidle

theorem Reach.setBusy (hK : K .bus) (x : Bool) (h : Reach K s t) : Reach K s (setBusy x t) :=
  h.setBus hK rfl id fun hs => hs.same rfl rfl id

theorem Reach.lineIdle (hK : K .bus) (h : Reach K s t) : Reach K s (lineIdle t) :=
  .ite (fun _ => h) fun hidle => .ite (fun _ => (h.setBusy hK false).seekBackoff hK hidle) fun _ => h.setBusy hK false

theorem Reach.deferGap (hK : K .bus) (h : Reach K s t) : Reach K s (deferGap t) :=
  .ite (fun hgap => h.setBus hK rfl id fun hs => hs.same rfl rfl fun _ => by rw [hgap]; nofun) fun _ => h

theorem Reach.recordNotice (hK : K .bus) (n : Notice) (h : Reach K s t) : Reach K s (recordNotice n t) :=
  h.setBus hK rfl id fun hs => hs.same rfl rfl id

theorem Reach.ageRepeats (hK : K .bus) (f : RepeatRec → RepeatRec) (h : Reach K s t) : Reach K s (ageRepeats f t) :=
  h.tail hK (.bus _ t ⟨rfl, fun hq => hq, fun hs => txSafe_iff.mpr (Bus.Safe.same (txSafe_iff.mp hs) rfl rfl fun ha => ha)⟩)

theorem Reach.startSending (hK : K .bus) (hgap : t.bus.access = .gap) (h : Reach K s t) : Reach K s (startSending t) := by
  unfold Machine.startSending
  split
  · exact h
  · next e he =>
    obtain ⟨hmem, hwaiting⟩ := headOf_mem he
    refine h.setBus hK rfl (fun hq => by simp [hq]) fun hs => ?_
    obtain ⟨l1, l2, hq⟩ := List.append_of_mem hmem
    have hall := hs.sending (by rw [hgap]; nofun)
    refine hs.replace (y := { e with onLine := true }) hq ?_ (.inl ⟨rfl, rfl⟩) (fun hw => by cases hw) (fun _ => ?_)
      fun hne => absurd rfl hne
    · show List.map _ t.bus.queue = _
      rw [hq]
      exact map_id_eq (hq ▸ hs.ids) _
    · rw [hq] at hall
      simp only [List.all_append, List.all_cons, Bool.and_eq_true] at hall ⊢
      exact ⟨hall.1, hall.2.2⟩

/-- The head, or the notice on the line, leaves the queue. -/
theorem Reach.dropFromQueue (hK : K .bus) (id : Nat) (busy : Bool) (h : Reach K s t)
    (hall : t.bus.Safe → (withoutId id t.bus.queue).all (·.waiting) = true) :
    Reach K s { t with bus := { t.bus with queue := withoutId id t.bus.queue, lineBusy := busy } } :=
  h.setBus hK rfl (fun hq => by simp [hq, withoutId]) fun hs =>
    hs.thin (withoutId_sublist _ _) (Nat.le_refl _) fun _ => hall hs

theorem supersededBy_none_keys {b : Body} {q : List TxEntry} (h : ¬(supersededBy b q).isSome = true) {k : TxKey}
    (hk : b.key = some k) : k ∉ (q.filter (·.waiting)).filterMap (·.body.key) :=
  key_not_mem_of_supersededBy_none (Option.not_isSome_iff_eq_none.mp h) hk

theorem Reach.backOff (hK : K .bus) {e : TxEntry} (n : Nat) (honline : onLineOf t.bus.queue = some e) (h : Reach K s t) :
    Reach K s { t with bus := { t.bus with queue := afterCollision e n t.bus.queue }.backOff n } := by
  obtain ⟨hmem, hon⟩ := onLineOf_mem honline
  refine h.setBus hK rfl (fun hq => by simp [hq] at hmem) fun hs => ?_
  unfold afterCollision
  split
  · exact hs.thin (withoutId_sublist _ _) (Nat.le_refl _) fun _ => withoutId_all_waiting hs.line hmem hon
  · next hnone =>
    obtain ⟨l1, l2, hq⟩ := List.append_of_mem hmem
    have hids := hq ▸ hs.ids
    have hput : putBack e.id n t.bus.queue = l1 ++ { e with onLine := false, attempts := n } :: l2 := by
      rw [hq]
      exact map_id_eq hids _
    have hne (x : TxEntry) (hx : x ∈ l1 ++ l2) : x.waiting = true := by
      refine waiting_of_ne_onLine hs.line hmem hon ?_ fun hid => ?_
      · rw [hq]
        simp only [List.mem_append, List.mem_cons] at hx ⊢
        tauto
      · rw [(List.perm_middle.map TxEntry.id).nodup_iff, List.map_cons, List.nodup_cons] at hids
        exact hids.1 (hid ▸ List.mem_map_of_mem hx)
    refine hs.replace (y := { e with onLine := false, attempts := n }) hq hput (.inl ⟨rfl, rfl⟩) (fun _ => .inr fun k hk hmem => ?_)
      (fun hw => by cases hw) fun _ => ?_
    · refine supersededBy_none_keys hnone (k := k) hk ?_
      rw [hq, (keys_middle l1 l2 e).mem_iff]
      exact List.mem_append_right _ hmem
    · show List.all (putBack e.id n t.bus.queue) _ = true
      rw [hput]
      refine List.all_eq_true.mpr fun x hx => ?_
      have hcases : x = { e with onLine := false, attempts := n } ∨ x ∈ l1 ++ l2 := by
        simp only [List.mem_append, List.mem_cons] at hx ⊢
        tauto
      rcases hcases with rfl | hx
      · rfl
      · exact hne x hx

theorem Reach.waitOn (hK : K .bus) (id : Nat) (h : Reach K s t) :
    Reach K s { t with bus := { t.bus with
      queue := t.bus.queue.map fun e => if e.id = id then { e with waitMs := e.waitMs + 1 } else e } } :=
  h.setBus hK rfl (fun hq => by simp [hq]) fun hs => hs.touch fun e => by split <;> exact ⟨rfl, rfl, rfl⟩

theorem Reach.clearWaiting (hK : K .bus) (h : Reach K s t) : Reach K s { t with bus := t.bus.clearWaiting } := by
  refine h.setBus hK rfl (fun hq => by simp [Bus.clearWaiting, hq]) fun hs => ?_
  refine hs.thin (b' := t.bus.clearWaiting) List.filter_sublist (Nat.le_refl _) fun hne => ?_
  have hidle : t.bus.access ≠ .sending := fun hsend => hne (by simp [Bus.clearWaiting, hsend])
  refine List.all_eq_true.mpr fun e he => ?_
  exact List.all_eq_true.mp (hs.sending hidle) e (List.mem_filter.mp he).1

end Changes

end Sys2Proof.Machine

/-! SUPPORT. The operations of the page and routing blocks as chains of moves. -/

namespace Sys2Proof.Machine

/-! ### R142 and R143 of a page block -/

/-- What `PagesSafe` asks of the page block alone. -/
structure PageBlock.Safe (b : PageBlock) : Prop where
  room : b.pages.length ≤ 16
  numbers : (b.pages.map (·.number)).Nodup
  range : ∀ p ∈ b.pages, 1 ≤ p.number ∧ p.number ≤ 255
  next : 1 ≤ b.next ∧ b.next ≤ 255
  calls : (b.pages.map fun p => (p.group, p.code, p.course)).Nodup
  attempts : ∀ p ∈ b.pages, p.attempt ≤ 2
  priorities : ∀ p ∈ b.pages, 1 ≤ p.priority ∧ p.priority ≤ 7

theorem PagesSafe.block {s : State} (h : PagesSafe s) : s.page.Safe :=
  ⟨h.room, h.numbers, h.range, h.next, h.calls, h.attempts, h.priorities⟩

theorem PagesSafe.withPage {s : State} {b : PageBlock} (h : PagesSafe s) (hb : b.Safe) : PagesSafe { s with page := b } :=
  ⟨hb.room, hb.numbers, hb.range, hb.next, hb.calls, hb.attempts, hb.priorities, h.rules, h.taken⟩

section Block
variable {b : PageBlock}

/-- The queue loses pages at most. -/
theorem PageBlock.Safe.thin (h : b.Safe) {l : List Page} (hl : l.Sublist b.pages) : ({ b with pages := l } : PageBlock).Safe where
  room := hl.length_le.trans h.room
  numbers := h.numbers.sublist (hl.map _)
  range := fun p hp => h.range p (hl.subset hp)
  next := h.next
  calls := h.calls.sublist (hl.map _)
  attempts := fun p hp => h.attempts p (hl.subset hp)
  priorities := fun p hp => h.priorities p (hl.subset hp)

/-- Pages change only what no bound names, or a priority within its range. -/
theorem PageBlock.Safe.touch (h : b.Safe) {f : Page → Page}
    (hf : ∀ p ∈ b.pages, (f p).number = p.number ∧ (f p).group = p.group ∧ (f p).code = p.code ∧ (f p).course = p.course ∧
      (f p).attempt = p.attempt ∧ (1 ≤ p.priority ∧ p.priority ≤ 7 → 1 ≤ (f p).priority ∧ (f p).priority ≤ 7)) :
    ({ b with pages := b.pages.map f } : PageBlock).Safe := by
  refine ⟨by simpa using h.room, ?_, fun p hp => ?_, h.next, ?_, fun p hp => ?_, fun p hp => ?_⟩
  · show ((b.pages.map f).map (·.number)).Nodup
    rw [List.map_map, List.map_congr_left (g := Page.number) (f := Page.number ∘ f) fun p hp => (hf p hp).1]
    exact h.numbers
  · obtain ⟨q, hq, rfl⟩ := List.mem_map.mp hp
    rw [(hf q hq).1]
    exact h.range q hq
  · show ((b.pages.map f).map fun p => (p.group, p.code, p.course)).Nodup
    rw [List.map_map, List.map_congr_left (g := fun p => (p.group, p.code, p.course)) fun p hp => ?_]
    · exact h.calls
    · obtain ⟨-, hgroup, hcode, hcourse, -⟩ := hf p hp
      simp [hgroup, hcode, hcourse]
  · obtain ⟨q, hq, rfl⟩ := List.mem_map.mp hp
    rw [(hf q hq).2.2.2.2.1]
    exact h.attempts q hq
  · obtain ⟨q, hq, rfl⟩ := List.mem_map.mp hp
    exact (hf q hq).2.2.2.2.2 (h.priorities q hq)

end Block

section Chains
variable {K : Kind → Prop} {s t : State}

theorem Reach.setPages (hK : K .page) {l : List Page}
    (hsafe : t.page.Safe → ({ t.page with pages := l } : PageBlock).Safe) (h : Reach K s t) :
    Reach K s { t with page := { t.page with pages := l } } :=
  h.tail hK (.page _ t rfl fun hs => hs.withPage (hsafe hs.block))

/-- A page's figures change that no bound names. -/
theorem Reach.mapPage (hK : K .page) {n : Nat} {f : Page → Page}
    (hf : ∀ p, (f p).number = p.number ∧ (f p).group = p.group ∧ (f p).code = p.code ∧ (f p).course = p.course ∧
      (f p).attempt = p.attempt ∧ (f p).priority = p.priority) (h : Reach K s t) : Reach K s (mapPage n f t) :=
  h.setPages hK fun hs => hs.touch fun p _ => by
    obtain ⟨hnumber, hgroup, hcode, hcourse, hattempt, hpriority⟩ := hf p
    split
    · exact ⟨hnumber, hgroup, hcode, hcourse, hattempt, fun hp => hpriority ▸ hp⟩
    · exact ⟨rfl, rfl, rfl, rfl, rfl, id⟩

theorem Reach.removePage (hK : K .page) (n : Nat) (h : Reach K s t) : Reach K s (removePage n t) :=
  h.setPages hK fun hs => hs.thin List.filter_sublist

theorem Reach.setPriority (hK : K .page) {n pr : Nat} (hpr : t.page.Safe → 1 ≤ pr ∧ pr ≤ 7) (h : Reach K s t) :
    Reach K s (Machine.mapPage n (fun x => { x with priority := pr }) t) :=
  h.setPages hK fun hs => hs.touch fun p _ => by
    split
    · exact ⟨rfl, rfl, rfl, rfl, rfl, fun _ => hpr hs⟩
    · exact ⟨rfl, rfl, rfl, rfl, rfl, id⟩

theorem Reach.requestPriority {n pr : Nat} (hK : K (.request pr)) (h : Reach K s t) :
    Reach K s (Machine.mapPage n (fun x => { x with priority := pr }) t) :=
  h.tail hK (.request pr _ t rfl fun hpr hs => hs.withPage (hs.block.touch fun p _ => by
    split
    · exact ⟨rfl, rfl, rfl, rfl, rfl, fun _ => hpr⟩
    · exact ⟨rfl, rfl, rfl, rfl, rfl, id⟩))

/-- What sending a page's notice is made of. -/
def pages : Kind → Prop
  | .page | .take => True
  | _ => False

theorem Reach.offerPage (hK : Admits K pages) (n : Nat) (h : Reach K s t) : Reach K s (offerPage n t) := by
  unfold Machine.offerPage
  split
  · exact h
  · exact (h.hand (hK (k := .take) trivial) _).mapPage (hK (k := .page) trivial) fun _ => ⟨rfl, rfl, rfl, rfl, rfl, rfl⟩

theorem Reach.queuePage (hK : Admits K pages) (n : Nat) (h : Reach K s t) : Reach K s (queuePage n t) :=
  Reach.offerPage hK n (h.mapPage (hK (k := .page) trivial) (fun _ => ⟨rfl, rfl, rfl, rfl, rfl, rfl⟩))

theorem Reach.placePage (hK : Admits K pages) (n : Nat) (h : Reach K s t) : Reach K s (placePage n t) := by
  unfold Machine.placePage
  split
  · exact h
  · exact .ite (fun _ => h.mapPage (hK (k := .page) trivial) fun _ => ⟨rfl, rfl, rfl, rfl, rfl, rfl⟩) fun _ => h.queuePage hK n

theorem Reach.undeferAll (hK : Admits K pages) (h : Reach K s t) : Reach K s (undeferAll t) :=
  h.foldl fun n _ _ hu => hu.placePage hK n

theorem Reach.raisePriority (hK : Admits K pages) {n pr : Nat}
    (hraise : Reach K s (Machine.mapPage n (fun x => { x with priority := pr }) t)) (h : Reach K s t) :
    Reach K s (raisePriority n pr t) := by
  unfold Machine.raisePriority
  split
  · exact h
  · refine .ite (fun _ => ?_) fun _ => h
    dsimp only
    split
    · exact .ite (fun _ => hraise.queuePage hK n) fun _ => hraise
    · exact .ite (fun _ => hraise.offerPage hK n) fun _ => hraise
    · exact hraise
    · exact hraise

/-! ### A page made (R142, R144) -/

theorem mem_circle {n m : Nat} (hm : 1 ≤ m ∧ m ≤ 255) (hn : 1 ≤ n ∧ n ≤ 255) :
    n ∈ (List.range 255).map fun k => (m - 1 + k) % 255 + 1 := by
  refine List.mem_map.mpr ⟨(n + 255 - m) % 255, List.mem_range.mpr (by omega), ?_⟩
  omega

/-- Fewer pages than numbers leave a number free. -/
theorem freshNumber_fresh {b : PageBlock} (hnext : 1 ≤ b.next ∧ b.next ≤ 255) (hroom : b.pages.length < 255) :
    (1 ≤ b.freshNumber ∧ b.freshNumber ≤ 255) ∧ ∀ p ∈ b.pages, p.number ≠ b.freshNumber := by
  unfold PageBlock.freshNumber
  cases hfind : ((List.range 255).map fun k => (b.next - 1 + k) % 255 + 1).find? fun n => !b.pages.any (·.number == n) with
  | some n =>
    have hfree := List.find?_some hfind
    obtain ⟨k, -, rfl⟩ := List.mem_map.mp (List.mem_of_find?_eq_some hfind)
    refine ⟨by simp only [Option.getD_some]; omega, fun p hp heq => ?_⟩
    simp only [Option.getD_some] at heq
    simp only [Bool.not_eq_true', List.any_eq_false] at hfree
    exact hfree p hp (by simp [heq])
  | none =>
    have htaken : ((List.range 255).map (· + 1)) ⊆ b.pages.map (·.number) := fun n hn => by
      obtain ⟨k, hk, rfl⟩ := List.mem_map.mp hn
      have hk' := List.mem_range.mp hk
      have := List.find?_eq_none.mp hfind (k + 1) (mem_circle hnext (by omega))
      simpa using this
    have hnodup : ((List.range 255).map (· + 1)).Nodup := List.nodup_range.map fun a b hab => by simpa using hab
    have := (hnodup.subperm htaken).length_le
    simp at this
    omega

theorem nextNumber_range (n : Nat) : 1 ≤ nextNumber n ∧ nextNumber n ≤ 255 := by
  unfold nextNumber
  omega

/-- A page of a free number and of a group, code and course that no page has joins the queue. -/
theorem PageBlock.Safe.append {b : PageBlock} (h : b.Safe) {p : Page} (hroom : b.pages.length < 16)
    (hnumber : p.number = b.freshNumber) (hcall : b.pages.find? (·.answersTo p.group p.code p.course) = none)
    (hattempt : p.attempt ≤ 2) (hpriority : 1 ≤ p.priority ∧ p.priority ≤ 7) :
    ({ b with pages := b.pages ++ [p], next := nextNumber b.freshNumber } : PageBlock).Safe := by
  obtain ⟨hrange, hfree⟩ := freshNumber_fresh h.next (by omega)
  have hmem {q : Page} (hq : q ∈ b.pages ++ [p]) : q ∈ b.pages ∨ q = p := by simpa using hq
  refine ⟨by simp; omega, ?_, fun q hq => ?_, nextNumber_range _, ?_, fun q hq => ?_, fun q hq => ?_⟩
  · rw [List.map_append]
    refine h.numbers.append (by simp) fun n hn hn' => ?_
    obtain ⟨q, hq, rfl⟩ := List.mem_map.mp hn
    exact hfree q hq (by simpa [hnumber] using hn')
  · rcases hmem hq with hq | rfl
    · exact h.range q hq
    · exact hnumber ▸ hrange
  · rw [List.map_append]
    refine h.calls.append (by simp) fun n hn hn' => ?_
    obtain ⟨q, hq, rfl⟩ := List.mem_map.mp hn
    have := List.find?_eq_none.mp hcall q hq
    simp only [List.map_cons, List.map_nil, List.mem_singleton, Prod.mk.injEq] at hn'
    obtain ⟨hgroup, hcode, hcourse⟩ := hn'
    simp [Page.answersTo, hgroup, hcode, hcourse] at this
  · rcases hmem hq with hq | rfl
    · exact h.attempts q hq
    · exact hattempt
  · rcases hmem hq with hq | rfl
    · exact h.priorities q hq
    · exact hpriority

/-- What a page request is made of. -/
def requests (pr : Nat) : Kind → Prop
  | .request n => n = pr
  | .count => True
  | k => pages k

theorem requests_admits_pages {pr : Nat} (hK : Admits K (requests pr)) : Admits K pages := fun k hk =>
  hK (by cases k <;> first | exact hk | trivial | cases hk)

/-- R144: the state a request's page is made in. -/
def State.madeState (s : State) (r : PageRequest) : PageState :=
  if s.mustWait r.group r.priority then .waiting else if r.defer && s.backlogHigh then .deferred else .queued

/-- R142, R144: the page block with the page of a request. -/
def State.withMade (s : State) (r : PageRequest) : PageBlock :=
  { s.page with
    pages := s.page.pages ++
      [{ number := s.page.freshNumber, attempt := 0, group := r.group, priority := r.priority, code := r.code,
         course := r.course, defer := r.defer, expiredOrigin := r.expiredOrigin, state := s.madeState r, timer := 0,
         current := none }]
    next := nextNumber s.page.freshNumber }

theorem makePage_eq (r : PageRequest) (s : State) : makePage r s =
    if s.madeState r = .queued then offerPage s.page.freshNumber (bump .pagesMade { s with page := s.withMade r })
    else bump .pagesMade { s with page := s.withMade r } := rfl

theorem withMade_safe {r : PageRequest} (hs : t.page.Safe) (hroom : t.page.pages.length < 16)
    (hcall : t.page.pages.find? (·.answersTo r.group r.code r.course) = none) (hpr : 1 ≤ r.priority ∧ r.priority ≤ 7) :
    (t.withMade r).Safe :=
  hs.append (p := (⟨t.page.freshNumber, 0, r.group, r.priority, r.code, r.course, r.defer, r.expiredOrigin, t.madeState r, 0,
    none⟩ : Page)) hroom rfl hcall (Nat.zero_le _) hpr

theorem Reach.makePage {r : PageRequest} (hK : Admits K (requests r.priority))
    (h : Reach K s { t with page := t.withMade r }) : Reach K s (makePage r t) := by
  rw [makePage_eq]
  have hmade := h.bump (hK (k := .count) trivial) .pagesMade
  exact .ite (fun _ => hmade.offerPage (requests_admits_pages hK) _) fun _ => hmade

theorem evictable_mem {l : List Page} {p : Page} (h : evictable l = some p) : p ∈ l := by
  obtain ⟨pr, -, hfind⟩ := List.exists_of_findSome?_eq_some h
  exact List.mem_of_find?_eq_some hfind

theorem Reach.requestPage {r : PageRequest} (hK : Admits K (requests r.priority)) (h : Reach K s t) :
    Reach K s (requestPage r t) := by
  have hcount := hK (k := .count) trivial
  unfold Machine.requestPage
  refine .ite (fun _ => h) fun _ => ?_
  split
  · exact Reach.raisePriority (requests_admits_pages hK) (Reach.requestPriority (hK (k := .request r.priority) rfl) h) h
  · next hcall =>
    refine .ite (fun hroom => Reach.makePage hK (h.tail (hK (k := .request r.priority) rfl) (.request r.priority _ t rfl
      fun hpr hs => hs.withPage (withMade_safe hs.block hroom hcall hpr)))) fun _ => ?_
    split
    · next v hv =>
      refine .ite (fun _ => Reach.makePage hK ?_) fun _ => h.bump hcount _
      have hlt : (t.page.pages.filter (·.number != v.number)).length < t.page.pages.length :=
        List.length_filter_lt_length_iff_exists.mpr ⟨v, evictable_mem hv, by simp⟩
      have hevicted : Reach K s { t with page := (Machine.removePage v.number t).withMade r } := by
        refine h.tail (hK (k := .request r.priority) rfl) (.request r.priority _ t rfl fun hpr hs => ?_)
        have hle := hs.room
        refine hs.withPage (withMade_safe (t := Machine.removePage v.number t) (hs.block.thin List.filter_sublist) ?_ ?_ hpr)
        · show (t.page.pages.filter (·.number != v.number)).length < 16
          omega
        · exact List.find?_eq_none.mpr fun p hp => List.find?_eq_none.mp hcall p (List.mem_filter.mp hp).1
      exact hevicted.bump hcount .pagesDropped
    · exact h.bump hcount _

/-! ### Answers and escalation (R150–R152) -/

/-- What a page's escalation is made of. -/
def escalations : Kind → Prop
  | .report | .latch | .event | .count => True
  | k => pages k

theorem escalations_admits_pages (hK : Admits K escalations) : Admits K pages := fun k hk =>
  hK (by cases k <;> first | exact hk | trivial)

theorem Reach.expirePage (hK : Admits K escalations) (p : Page) (h : Reach K s t) : Reach K s (expirePage p t) := by
  have hlatched := ((h.removePage (hK (k := .page) trivial) p.number).makeReport (hK (k := .report) trivial)
    (.expired p.number p.attempt p.group p.priority p.code p.course)).latch (hK (k := .latch) trivial) .pageExpired
  exact .ite (fun _ => hlatched) fun _ => hlatched.raise (hK (k := .event) trivial) _

theorem pageOf_some {n : Nat} {p : Page} (h : t.pageOf n = some p) : p ∈ t.page.pages ∧ p.number = n :=
  ⟨List.mem_of_find?_eq_some h, by simpa using List.find?_some h⟩

/-- A page that leaves, whatever it has become before. -/
theorem removePage_mapPage {n : Nat} {f : Page → Page} (hf : ∀ p, (f p).number = p.number) (k : CounterName) (s : State) :
    Machine.removePage n (Machine.bump k (Machine.mapPage n f s)) = Machine.bump k (Machine.removePage n s) := by
  have hfilter (l : List Page) : ((l.map fun p => if p.number = n then f p else p).filter (·.number != n)) =
      l.filter (·.number != n) := by
    induction l with
    | nil => rfl
    | cons p l ih => by_cases hp : p.number = n <;> simp [hp, hf, ih]
  simp only [Machine.removePage, Machine.mapPage, Machine.bump, hfilter]

/-- One page gives way to one of its number, with a request that no other page answers. -/
theorem PageBlock.Safe.swap {b : PageBlock} (h : b.Safe) {p q : Page} {l rest : List Page} (hl : b.pages.Perm (p :: rest))
    (hl' : l.Perm (q :: rest)) (hnumber : q.number = p.number)
    (hother : ∀ x ∈ rest, x.answersTo q.group q.code q.course = false) (hattempt : q.attempt ≤ 2)
    (hpr : 1 ≤ q.priority ∧ q.priority ≤ 7) : ({ b with pages := l } : PageBlock).Safe := by
  have hrest {x : Page} (hx : x ∈ rest) : x ∈ b.pages := hl.mem_iff.mpr (List.mem_cons_of_mem _ hx)
  have hmem {x : Page} (hx : x ∈ l) : x = q ∨ x ∈ rest := List.mem_cons.mp (hl'.mem_iff.mp hx)
  refine ⟨?_, ?_, fun x hx => ?_, h.next, ?_, fun x hx => ?_, fun x hx => ?_⟩
  · have := h.room
    rw [hl.length_eq] at this
    rw [hl'.length_eq]
    exact this
  · have := (hl.map Page.number).nodup_iff.mp h.numbers
    rw [(hl'.map Page.number).nodup_iff, List.map_cons, hnumber]
    exact this
  · rcases hmem hx with rfl | hx
    · exact hnumber ▸ h.range p (hl.mem_iff.mpr List.mem_cons_self)
    · exact h.range x (hrest hx)
  · have := (hl.map fun p => (p.group, p.code, p.course)).nodup_iff.mp h.calls
    rw [(hl'.map fun p => (p.group, p.code, p.course)).nodup_iff, List.map_cons, List.nodup_cons]
    refine ⟨fun hcall => ?_, (List.nodup_cons.mp this).2⟩
    obtain ⟨x, hx, heq⟩ := List.mem_map.mp hcall
    have := hother x hx
    simp only [Prod.mk.injEq] at heq
    simp [Page.answersTo, heq] at this
  · rcases hmem hx with rfl | hx
    · exact hattempt
    · exact h.attempts x (hrest hx)
  · rcases hmem hx with rfl | hx
    · exact hpr
    · exact h.priorities x (hrest hx)

/-- With distinct numbers, a rewrite by number touches the one page alone. -/
theorem map_number_eq {l1 l2 : List Page} {p : Page} (hnumbers : ((l1 ++ p :: l2).map (·.number)).Nodup) (f : Page → Page) :
    ((l1 ++ p :: l2).map fun x => if x.number = p.number then f x else x) = l1 ++ f p :: l2 ∧
      ∀ x ∈ l1 ++ l2, x.number ≠ p.number := by
  have hnodup := (List.perm_middle.map Page.number).nodup_iff.mp hnumbers
  rw [List.map_cons, List.nodup_cons] at hnodup
  have hne (x : Page) (hx : x ∈ l1 ++ l2) : x.number ≠ p.number := fun heq => hnodup.1 (heq ▸ List.mem_map_of_mem hx)
  have hkeep (l : List Page) (hl : ∀ x ∈ l, x ∈ l1 ++ l2) : (l.map fun x => if x.number = p.number then f x else x) = l :=
    (List.map_congr_left fun x hx => if_neg (hne x (hl x hx))).trans (List.map_id' l)
  refine ⟨?_, hne⟩
  rw [List.map_append, List.map_cons, if_pos rfl, hkeep l1 fun x => List.mem_append_left _,
    hkeep l2 fun x => List.mem_append_right _]

/-- R151: a page moves to a group whose like request no other page answers. -/
theorem Reach.moveUp (hK : K .page) {p : Page} (hp : t.pageOf p.number = some p) (hattempt : p.attempt ≠ 2) {g : GroupNo}
    (hother : t.page.pages.find? (fun x => x.number != p.number && x.answersTo g p.code p.course) = none)
    (h : Reach K s t) : Reach K s (Machine.mapPage p.number (fun x =>
      { x with group := g, priority := min 7 (p.priority + 1), attempt := x.attempt + 1, timer := 0, current := none }) t) := by
  refine h.setPages hK fun hs => ?_
  have hmem := (pageOf_some hp).1
  obtain ⟨l1, l2, hl⟩ := List.append_of_mem hmem
  obtain ⟨hmap, hne⟩ := map_number_eq (hl ▸ hs.numbers) fun x =>
    { x with group := g, priority := min 7 (p.priority + 1), attempt := x.attempt + 1, timer := 0, current := none }
  have hle := hs.attempts p hmem
  have hrange := hs.priorities p hmem
  refine hs.swap (p := p) (.trans (.of_eq hl) List.perm_middle) (.trans (.of_eq ((congrArg _ hl).trans hmap)) List.perm_middle) rfl
    (fun x hx => ?_) (by dsimp only; omega) (by dsimp only; omega)
  have hxmem : x ∈ t.page.pages := hl ▸ List.perm_middle.mem_iff.mpr (List.mem_cons_of_mem _ hx)
  have := List.find?_eq_none.mp hother x hxmem
  simpa [hne x hx] using this

theorem Reach.escalate (hK : Admits K escalations) (n : Nat) (h : Reach K s t) : Reach K s (escalate n t) := by
  have hpages := escalations_admits_pages hK
  have hcount := hK (k := .count) trivial
  unfold Machine.escalate
  split
  · exact h
  · next p hp =>
    obtain ⟨hmem, rfl⟩ := pageOf_some hp
    refine .ite (fun _ => h.expirePage hK p) fun hmoves => ?_
    obtain ⟨hattempt, -⟩ := not_or.mp hmoves
    dsimp only
    split
    · next other hother =>
      rw [removePage_mapPage (hf := ?_)]
      on_goal 2 => exact fun _ => rfl
      have hremoved := (h.removePage (hK (k := .page) trivial) p.number).bump hcount .pagesEscalated
      have hpr : t.page.Safe → 1 ≤ min 7 (p.priority + 1) ∧ min 7 (p.priority + 1) ≤ 7 := fun _ => by omega
      exact Reach.raisePriority hpages (Reach.setPriority (hK (k := .page) trivial) (fun _ => by omega) hremoved) hremoved
    · next hother =>
      exact (Reach.bump hcount .pagesEscalated (h.moveUp (hK (k := .page) trivial) hp hattempt hother)).placePage hpages p.number

theorem Reach.takeAnswer (hK : Admits K escalations) (n attempt pager : Nat) (accept : Bool) (h : Reach K s t) :
    Reach K s (takeAnswer n attempt pager accept t) := by
  unfold Machine.takeAnswer
  split
  · exact h
  · exact .ite (fun _ => (h.removePage (hK (k := .page) trivial) n).makeReport (hK (k := .report) trivial) _)
      fun _ => .ite (fun _ => h.escalate hK n) fun _ => h

theorem Reach.answerPages (hK : Admits K escalations) (o n a : Byte) (pager : Half) (accept : Bool) (h : Reach K s t) :
    Reach K s (answerPages o n a pager accept t) := .ite (fun _ => h.takeAnswer hK _ _ _ _) fun _ => h

/-! ### Backlog, duty, withdrawal and the tick (R123, R141, R149, R154) -/

theorem Reach.watchBacklog (hK : Admits K pages) {f : State → State} (h : Reach K s (f t)) : Reach K s (watchBacklog f t) :=
  .ite (fun _ => h.undeferAll hK) fun _ => h

theorem Reach.moveForDuty (hK : Admits K pages) (g : GroupNo) (h : Reach K s t) : Reach K s (moveForDuty g t) := by
  refine .ite (fun _ => h.foldl fun n _ _ hu => hu.queuePage hK n) fun _ => ?_
  refine h.setPages (hK (k := .page) trivial) fun hs => hs.touch fun p _ => ?_
  split <;> exact ⟨rfl, rfl, rfl, rfl, rfl, id⟩

theorem Reach.setGroup (hK : K .group) (g : GroupNo) (x : Group) (h : Reach K s t) : Reach K s (setGroup g x t) :=
  h.tail hK (.group g x t)

theorem Reach.withdrawPages (hpage : K .page) (hreport : K .report) (h : Reach K s t) : Reach K s (withdrawPages t) :=
  Reach.foldl (fun _ _ _ hu => hu.makeReport hreport _) (h.setPages hpage fun hs => hs.thin (List.nil_sublist _))

theorem Reach.tickSent (hK : Admits K escalations) (h : Reach K s t) : Reach K s (tickSent t) := by
  refine Reach.foldl (fun n _ _ hu => hu.escalate hK n) (h.setPages (hK (k := .page) trivial) fun hs => hs.touch fun p _ => ?_)
  split <;> exact ⟨rfl, rfl, rfl, rfl, rfl, id⟩

theorem Reach.tickDeferred (hK : Admits K pages) (h : Reach K s t) : Reach K s (tickDeferred t) := by
  refine Reach.foldl (fun n _ _ hu => hu.placePage hK n) (h.setPages (hK (k := .page) trivial) fun hs => hs.touch fun p _ => ?_)
  split <;> exact ⟨rfl, rfl, rfl, rfl, rfl, id⟩

theorem Reach.pageTick (hK : Admits K escalations) (h : Reach K s t) : Reach K s (pageTick t) :=
  Reach.foldl (fun n _ _ hu => hu.offerPage (escalations_admits_pages hK) n)
    ((h.tickSent hK).tickDeferred (escalations_admits_pages hK))

/-! ### The routing block (R130, R137, R138) -/

theorem Reach.takeOldest (hK : K .route) (h : Reach K s t) : Reach K s (takeOldest t) := by
  unfold Machine.takeOldest
  split
  · next e rest hevaluation hevents =>
    refine h.tail hK (.route _ t ⟨rfl, ?_, fun e' he => .inr ?_⟩)
    · simp [hevents]
    · cases he
      rfl
  · exact h

theorem Reach.emptyRoute (hK : K .route) (h : Reach K s t) : Reach K s (emptyRoute t) :=
  h.tail hK (.route _ t ⟨rfl, Nat.zero_le _, nofun⟩)

/-- The rule that decides is one of the table's. -/
theorem readRules_mem {e : Evaluation} {l : List Rule} {st : Reading} {r : Rule} (h : readRules e l st = some r) :
    r ∈ l ∧ r.type = .test := by
  induction l generalizing st with
  | nil => cases h
  | cons a rest ih =>
    have hlater {st : Reading} (h : readRules e rest st = some r) : r ∈ a :: rest ∧ r.type = .test :=
      ⟨List.mem_cons_of_mem _ (ih h).1, (ih h).2⟩
    unfold readRules at h
    split at h
    case h_8 =>
      split at h
      · split at h
        · exact hlater h
        · cases h
          exact ⟨List.mem_cons_self, by assumption⟩
      · exact hlater h
    all_goals exact hlater h

/-- R132: the requests of an evaluation under rules in range ask for a priority in range. -/
theorem outcome_priority {e : Evaluation} {r : PageRequest} (hrules : e.rules.toList.all Rule.inRange = true)
    (h : e.outcome = some r) : 1 ≤ r.priority ∧ r.priority ≤ 7 := by
  unfold Evaluation.outcome at h
  split at h
  · next x hx =>
    obtain ⟨hmem, htype⟩ := readRules_mem hx
    have hrange := List.all_eq_true.mp hrules x (List.mem_filter.mp hmem).1
    split at h <;> cases h
    next hreject =>
      simp [Rule.inRange, htype, hreject] at hrange
      exact hrange
  · split at h <;> cases h
    show 1 ≤ 7 ∧ 7 ≤ 7
    omega

theorem Reach.endEvaluation (hroute : K .route)
    (hK : ∀ e r, t.route.evaluation = some e → e.outcome = some r → Admits K (requests r.priority)) (h : Reach K s t) :
    Reach K s (endEvaluation t) := by
  unfold Machine.endEvaluation
  split
  · exact h
  · next e he =>
    have hended : Reach K s { t with route := { t.route with evaluation := none } } :=
      h.tail hroute (.route _ t ⟨rfl, Nat.le_refl _, nofun⟩)
    dsimp only
    split
    · next r hr => exact hended.requestPage (hK e r he hr)
    · exact hended

end Chains

end Sys2Proof.Machine

/-! SUPPORT. The operations of the radio relay as moves, and the ends of a page's notice. -/

namespace Sys2Proof.Machine

/-! ### R158 of a relay -/

/-- What `RelaySafe` asks of the relay alone. -/
structure Relay.Safe (r : Relay) : Prop where
  room : r.list.length ≤ 8
  keys : (r.list.map (·.key)).Nodup
  pages : ((r.list.filter (!·.inFlight)).map fun x => (x.key.origin, x.key.number)).Nodup
  flight : (r.list.filter (·.inFlight)).length ≤ 1
  idle : r.exchange = .idle → r.list.all (!·.inFlight) = true ∧ r.key = none
  priorities : ∀ x ∈ r.list, 1 ≤ x.priority ∧ x.priority ≤ 7

theorem RelaySafe.block {s : State} (h : RelaySafe s) : s.relay.Safe :=
  ⟨h.room, h.keys, h.pages, h.flight, h.idle, h.priorities⟩

theorem Relay.Safe.state {s : State} {r : Relay} (h : r.Safe)
    (hinactive : s.relayActive = false → r.list = [] ∧ r.exchange = .idle) : RelaySafe { s with relay := r } :=
  ⟨h.room, h.keys, h.pages, h.flight, h.idle, hinactive, h.priorities⟩

section Block
variable {r r' : Relay}

/-- The list loses records at most, and the exchange is IDLE only where nothing is in flight. -/
theorem Relay.Safe.thin (h : r.Safe) (hl : r'.list.Sublist r.list)
    (hidle : r'.exchange = .idle → r'.list.all (!·.inFlight) = true ∧ r'.key = none) : r'.Safe where
  room := hl.length_le.trans h.room
  keys := h.keys.sublist (hl.map _)
  pages := h.pages.sublist ((hl.filter _).map _)
  flight := (hl.filter _).length_le.trans h.flight
  idle := hidle
  priorities := fun x hx => h.priorities x (hl.subset hx)

theorem Relay.Safe.forget (h : r.Safe) (p : RelayRec → Bool) : ({ r with list := r.list.filter p } : Relay).Safe :=
  h.thin List.filter_sublist fun he =>
    ⟨List.all_eq_true.mpr fun x hx => List.all_eq_true.mp (h.idle he).1 x (List.mem_filter.mp hx).1, (h.idle he).2⟩

/-- Two records of one page, in the terms of the bound on the WAITING ones. -/
theorem samePage_iff {a b : RelayKey} : a.samePage b = true ↔ (a.origin, a.number) = (b.origin, b.number) := by
  simp [RelayKey.samePage]

/-- The page keys of the WAITING records of a list with one in the middle, that one's first. -/
theorem waiting_middle (l1 l2 : List RelayRec) (x : RelayRec) :
    (((l1 ++ x :: l2).filter (!·.inFlight)).map fun r => (r.key.origin, r.key.number)).Perm
      ((if x.inFlight then [] else [(x.key.origin, x.key.number)]) ++
        ((l1 ++ l2).filter (!·.inFlight)).map fun r => (r.key.origin, r.key.number)) := by
  refine ((List.perm_middle.filter _).map _).trans (.of_eq ?_)
  cases h : x.inFlight <;> simp [h]

theorem flight_middle (l1 l2 : List RelayRec) (x : RelayRec) : ((l1 ++ x :: l2).filter (·.inFlight)).length =
    (if x.inFlight then 1 else 0) + ((l1 ++ l2).filter (·.inFlight)).length := by
  simp only [List.filter_append, List.filter_cons, List.length_append]
  split <;> simp <;> omega

/-- One record gives way to another in its place. -/
theorem Relay.Safe.replace (h : r.Safe) {l1 l2 : List RelayRec} {x y : RelayRec} (hl : r.list = l1 ++ x :: l2)
    (hl' : r'.list = l1 ++ y :: l2) (hkey : y.key = x.key ∨ ∀ z ∈ l1 ++ l2, z.key ≠ y.key)
    (hpage : y.inFlight = true ∨ (x.inFlight = false ∧ (y.key.origin, y.key.number) = (x.key.origin, x.key.number)))
    (hflight : y.inFlight = true → r.list.all (!·.inFlight) = true)
    (hidle : r'.exchange = .idle → r'.list.all (!·.inFlight) = true ∧ r'.key = none)
    (hpriority : 1 ≤ y.priority ∧ y.priority ≤ 7) : r'.Safe := by
  have hkeys := (List.perm_middle.map RelayRec.key).nodup_iff.mp (hl ▸ h.keys)
  have hpages := (waiting_middle l1 l2 x).nodup_iff.mp (hl ▸ h.pages)
  rw [List.map_cons, List.nodup_cons] at hkeys
  refine ⟨?_, ?_, ?_, ?_, hidle, fun z hz => ?_⟩
  · have := h.room
    simp only [hl, hl', List.length_append, List.length_cons] at this ⊢
    exact this
  · rw [hl', (List.perm_middle.map RelayRec.key).nodup_iff, List.map_cons, List.nodup_cons]
    refine ⟨fun hmem => ?_, hkeys.2⟩
    rcases hkey with heq | hne
    · exact hkeys.1 (heq ▸ hmem)
    · obtain ⟨z, hz, hzk⟩ := List.mem_map.mp hmem
      exact hne z hz hzk
  · rw [hl', (waiting_middle l1 l2 y).nodup_iff]
    rcases hpage with hy | ⟨hx, heq⟩
    · simpa [hy] using hpages.of_append_right
    · cases hy : y.inFlight with
      | true => simpa using hpages.of_append_right
      | false => simpa [hx, heq] using hpages
  · have hle := h.flight
    rw [hl, flight_middle] at hle
    rw [hl', flight_middle]
    cases hy : y.inFlight with
    | false => simp only [Bool.false_eq_true, if_false]; omega
    | true =>
      have hnone : (l1 ++ l2).filter (·.inFlight) = [] := List.filter_eq_nil_iff.mpr fun z hz => by
        have hmem : z ∈ r.list := hl ▸ List.perm_middle.mem_iff.mpr (List.mem_cons_of_mem _ hz)
        simpa using List.all_eq_true.mp (hflight hy) z hmem
      simp [hnone]
  · have hcases : z = y ∨ z ∈ l1 ++ l2 := by
      rw [hl'] at hz
      simpa using List.perm_middle.mem_iff.mp hz
    rcases hcases with rfl | hz
    · exact hpriority
    · exact h.priorities z (hl ▸ List.perm_middle.mem_iff.mpr (List.mem_cons_of_mem _ hz))

/-- A WAITING record of a key and page that the list lacks joins it. -/
theorem Relay.Safe.append (h : r.Safe) {x : RelayRec} (hroom : r.list.length < 8) (hwaiting : x.inFlight = false)
    (hkey : ∀ z ∈ r.list, z.key ≠ x.key)
    (hpage : ∀ z ∈ r.list, z.inFlight = false → (z.key.origin, z.key.number) ≠ (x.key.origin, x.key.number))
    (hpriority : 1 ≤ x.priority ∧ x.priority ≤ 7) : ({ r with list := r.list ++ [x] } : Relay).Safe := by
  refine ⟨by simp; omega, ?_, ?_, ?_, fun he => ⟨?_, (h.idle he).2⟩, fun z hz => ?_⟩
  · rw [List.map_append]
    refine h.keys.append (by simp) fun k hk hk' => ?_
    obtain ⟨z, hz, rfl⟩ := List.mem_map.mp hk
    exact hkey z hz (by simpa using hk')
  · rw [List.filter_append, List.map_append]
    refine h.pages.append (by simp [hwaiting]) fun k hk hk' => ?_
    obtain ⟨z, hz, rfl⟩ := List.mem_map.mp hk
    obtain ⟨hz, hzw⟩ := List.mem_filter.mp hz
    exact hpage z hz (by simpa using hzw) (by simpa [hwaiting] using hk')
  · simpa [hwaiting] using h.flight
  · simpa [hwaiting] using (h.idle he).1
  · rcases List.mem_append.mp hz with hz | hz
    · exact h.priorities z hz
    · rw [List.mem_singleton.mp hz]
      exact hpriority

/-! ### A page offered (R159, R160) -/

/-- At most one WAITING record for each page: the others of a list with one in the middle are of other pages, or in flight. -/
theorem not_samePage_of_waiting {l1 l2 : List RelayRec} {x z : RelayRec}
    (hpages : (((l1 ++ x :: l2).filter (!·.inFlight)).map fun r => (r.key.origin, r.key.number)).Nodup)
    (hx : x.inFlight = false) (hz : z ∈ l1 ++ l2) (hwaiting : z.inFlight = false) : z.key.samePage x.key = false := by
  have hnodup := (waiting_middle l1 l2 x).nodup_iff.mp hpages
  rw [if_neg (by simp [hx]), List.singleton_append, List.nodup_cons] at hnodup
  rw [Bool.eq_false_iff]
  intro hsame
  exact hnodup.1 (List.mem_map.mpr ⟨z, List.mem_filter.mpr ⟨hz, by simp [hwaiting]⟩, samePage_iff.mp hsame⟩)

theorem map_eq_of_one {α : Type} {f : α → α} {l1 l2 : List α} {x y : α} (hx : f x = y) (hrest : ∀ z ∈ l1 ++ l2, f z = z) :
    (l1 ++ x :: l2).map f = l1 ++ y :: l2 := by
  have hkeep (l : List α) (hl : ∀ z ∈ l, z ∈ l1 ++ l2) : l.map f = l :=
    (List.map_congr_left fun z hz => hrest z (hl z hz)).trans (List.map_id' l)
  rw [List.map_append, List.map_cons, hx, hkeep l1 fun _ => List.mem_append_left _, hkeep l2 fun _ => List.mem_append_right _]

theorem samePage_symm_trans {a b c : RelayKey} (hab : a.samePage b = true) (hcb : c.samePage b = true) :
    c.samePage a = true := samePage_iff.mpr ((samePage_iff.mp hcb).trans (samePage_iff.mp hab).symm)

/-- R159: behind a later attempt of the page the offer leaves the list. -/
theorem offerTo_of_later {l : List RelayRec} {r : RelayRec}
    (h : l.any (fun x => x.key.samePage r.key && r.key.attempt < x.key.attempt) = true) : offerTo l r = l := if_pos h

/-- R159: behind the page's own attempt in flight the offer leaves the list. -/
theorem offerTo_of_flight {l : List RelayRec} {r : RelayRec} (hkeys : (l.map (·.key)).Nodup)
    (h : l.any (fun x => x.key == r.key && x.inFlight) = true) : offerTo l r = l := by
  have hnot : l.any (fun x => x.key == r.key && !x.inFlight) = false := by
    obtain ⟨x, hx, hxr⟩ := List.any_eq_true.mp h
    simp only [Bool.and_eq_true, beq_iff_eq] at hxr
    refine List.any_eq_false.mpr fun y hy hyr => ?_
    simp only [Bool.and_eq_true, beq_iff_eq, Bool.not_eq_true'] at hyr
    have := List.inj_on_of_nodup_map hkeys hx hy (hxr.1.trans hyr.1.symm)
    rw [this, hyr.2] at hxr
    cases hxr.2
  unfold offerTo
  rw [hnot]
  simp [h]

/-- R160: the offer takes the place of the page's WAITING record. -/
theorem offerTo_of_waiting {l1 l2 : List RelayRec} {x r : RelayRec} (hkeys : ((l1 ++ x :: l2).map (·.key)).Nodup)
    (hpages : (((l1 ++ x :: l2).filter (!·.inFlight)).map fun r => (r.key.origin, r.key.number)).Nodup)
    (hx : x.inFlight = false) (hsame : x.key.samePage r.key = true)
    (hlater : (l1 ++ x :: l2).any (fun x => x.key.samePage r.key && r.key.attempt < x.key.attempt) = false)
    (hflight : (l1 ++ x :: l2).any (fun x => x.key == r.key && x.inFlight) = false) :
    offerTo (l1 ++ x :: l2) r = l1 ++ r :: l2 := by
  have hother (z : RelayRec) (hz : z ∈ l1 ++ l2) : ¬(z.key.samePage r.key = true ∧ z.inFlight = false) := fun ⟨hzr, hzw⟩ =>
    Bool.eq_false_iff.mp (not_samePage_of_waiting hpages hx hz hzw) (samePage_symm_trans hsame hzr)
  unfold offerTo
  rw [hlater]
  simp only [Bool.false_eq_true, if_false]
  by_cases hsameKey : x.key = r.key
  · rw [if_pos (List.any_eq_true.mpr ⟨x, by simp, by simp [hx, hsameKey]⟩)]
    have hnodup := (List.perm_middle.map RelayRec.key).nodup_iff.mp hkeys
    rw [List.map_cons, List.nodup_cons] at hnodup
    exact map_eq_of_one (by simp [hsameKey]) fun z hz =>
      if_neg fun (hzr : z.key = r.key) => hnodup.1 (hsameKey.trans hzr.symm ▸ List.mem_map_of_mem hz)
  · have hnokey : (l1 ++ x :: l2).any (fun x => x.key == r.key && !x.inFlight) = false := by
      refine List.any_eq_false.mpr fun z hz hzr => ?_
      simp only [Bool.and_eq_true, beq_iff_eq, Bool.not_eq_true'] at hzr
      rcases List.mem_cons.mp (List.perm_middle.mem_iff.mp hz) with rfl | hz
      · exact hsameKey hzr.1
      · exact hother z hz ⟨samePage_iff.mpr (by rw [hzr.1]), hzr.2⟩
    rw [hnokey, hflight]
    simp only [Bool.false_eq_true, if_false]
    rw [if_pos (List.any_eq_true.mpr ⟨x, by simp, by simp [hx, hsame]⟩)]
    exact map_eq_of_one (if_pos ⟨hsame, hx⟩) fun z hz => if_neg (hother z hz)

/-- R159, R160: an offer of a page of which no record waits or is in flight. -/
theorem offerTo_of_new {l : List RelayRec} {r : RelayRec}
    (hlater : l.any (fun x => x.key.samePage r.key && r.key.attempt < x.key.attempt) = false)
    (hflight : l.any (fun x => x.key == r.key && x.inFlight) = false)
    (hnone : l.any (fun x => x.key.samePage r.key && !x.inFlight) = false) :
    offerTo l r = if l.length < 8 then l ++ [r]
      else match relayVictim l with
        | some v => if v.priority < r.priority then l.filter (· != v) ++ [r] else l
        | none => l := by
  have hnokey : l.any (fun x => x.key == r.key && !x.inFlight) = false := by
    refine List.any_eq_false.mpr fun z hz hzr => List.any_eq_false.mp hnone z hz ?_
    simp only [Bool.and_eq_true, beq_iff_eq] at hzr ⊢
    exact ⟨samePage_iff.mpr (by rw [hzr.1]), hzr.2⟩
  unfold offerTo
  rw [hlater, hnokey, hflight, hnone]
  rfl

theorem relayVictim_mem {l : List RelayRec} {v : RelayRec} (h : relayVictim l = some v) : v ∈ l ∧ v.inFlight = false := by
  obtain ⟨p, -, hlast⟩ := List.exists_of_findSome?_eq_some h
  have hmem := List.mem_of_getLast? hlast
  simp only [List.mem_filter, Bool.and_eq_true, Bool.not_eq_true'] at hmem
  exact ⟨hmem.1, hmem.2.1⟩

/-- The list keeps its form as a WAITING record in range is offered. -/
theorem Relay.Safe.offer (h : r.Safe) {x : RelayRec} (hwaiting : x.inFlight = false)
    (hpriority : 1 ≤ x.priority ∧ x.priority ≤ 7) : ({ r with list := offerTo r.list x } : Relay).Safe := by
  have hstands (heq : offerTo r.list x = r.list) : ({ r with list := offerTo r.list x } : Relay).Safe := by rwa [heq]
  cases hlater : r.list.any (fun y => y.key.samePage x.key && x.key.attempt < y.key.attempt) with
  | true => exact hstands (offerTo_of_later hlater)
  | false =>
  cases hflight : r.list.any (fun y => y.key == x.key && y.inFlight) with
  | true => exact hstands (offerTo_of_flight h.keys hflight)
  | false =>
  cases hnone : r.list.any (fun y => y.key.samePage x.key && !y.inFlight) with
  | true =>
    obtain ⟨y, hy, hyx⟩ := List.any_eq_true.mp hnone
    simp only [Bool.and_eq_true, Bool.not_eq_true'] at hyx
    obtain ⟨l1, l2, hl⟩ := List.append_of_mem hy
    have hoffer : offerTo r.list x = l1 ++ x :: l2 := by
      rw [hl] at hlater hflight ⊢
      exact offerTo_of_waiting (hl ▸ h.keys) (hl ▸ h.pages) hyx.2 hyx.1 hlater hflight
    refine h.replace (r' := { r with list := offerTo r.list x }) hl hoffer ?_ (.inr ⟨hyx.2, (samePage_iff.mp hyx.1).symm⟩)
      (fun hx => by rw [hwaiting] at hx; cases hx) (fun he => ⟨?_, (h.idle he).2⟩) hpriority
    · by_cases hkey : x.key = y.key
      · exact .inl hkey
      · refine .inr fun z hz hzx => ?_
        have hmem : z ∈ r.list := hl ▸ List.perm_middle.mem_iff.mpr (List.mem_cons_of_mem _ hz)
        have hzw : z.inFlight = false := by simpa [hzx] using List.any_eq_false.mp hflight z hmem
        have := not_samePage_of_waiting (hl ▸ h.pages) hyx.2 hz hzw
        exact Bool.eq_false_iff.mp this (samePage_iff.mpr (by rw [hzx]; exact (samePage_iff.mp hyx.1).symm))
    · show List.all (offerTo r.list x) _ = true
      have hall := (h.idle he).1
      rw [hl] at hall
      rw [hoffer]
      simp only [List.all_append, List.all_cons, Bool.and_eq_true] at hall ⊢
      exact ⟨hall.1, by simp [hwaiting], hall.2.2⟩
  | false =>
    have hpage (z : RelayRec) (hz : z ∈ r.list) (hzw : z.inFlight = false) :
        (z.key.origin, z.key.number) ≠ (x.key.origin, x.key.number) := fun heq => by
      have := List.any_eq_false.mp hnone z hz
      simp [hzw, samePage_iff.mpr heq] at this
    have hkey (z : RelayRec) (hz : z ∈ r.list) : z.key ≠ x.key := fun heq => by
      cases hzf : z.inFlight with
      | true => simpa [heq, hzf] using List.any_eq_false.mp hflight z hz
      | false => exact hpage z hz hzf (by rw [heq])
    have hoffer := offerTo_of_new hlater hflight hnone
    split at hoffer
    · next hroom => exact hoffer ▸ h.append hroom hwaiting hkey hpage hpriority
    · split at hoffer
      · next v hv =>
        split at hoffer
        · have hlt : (r.list.filter (· != v)).length < r.list.length :=
            List.length_filter_lt_length_iff_exists.mpr ⟨v, (relayVictim_mem hv).1, by simp⟩
          have hle := h.room
          rw [hoffer]
          exact (h.forget (· != v)).append (by dsimp only; omega) hwaiting (fun z hz => hkey z (List.mem_filter.mp hz).1)
            (fun z hz => hpage z (List.mem_filter.mp hz).1) hpriority
        · exact hstands hoffer
      · exact hstands hoffer

/-! ### The exchange (R161, R162) -/

theorem ordered_mem {x : RelayRec} (h : x ∈ r.ordered) : x ∈ r.list := by
  obtain ⟨p, -, hx⟩ := List.mem_flatMap.mp h
  exact (List.mem_filter.mp hx).1

theorem Relay.Safe.kick (h : r.Safe) : r.kick.Safe := by
  unfold Relay.kick
  split
  · next x hidle hfind =>
    have hmem := ordered_mem (List.mem_of_find?_eq_some hfind)
    obtain ⟨l1, l2, hl⟩ := List.append_of_mem hmem
    have hkeys := (List.perm_middle.map RelayRec.key).nodup_iff.mp (hl ▸ h.keys)
    rw [List.map_cons, List.nodup_cons] at hkeys
    have hmap : (r.list.map fun y => if y = x then { y with inFlight := true } else y) =
        l1 ++ { x with inFlight := true } :: l2 := by
      rw [hl]
      exact map_eq_of_one (if_pos rfl) fun z hz => if_neg fun (heq : z = x) => hkeys.1 (heq ▸ List.mem_map_of_mem hz)
    exact h.replace (y := { x with inFlight := true }) hl hmap (.inl rfl) (.inl rfl) (fun _ => (h.idle hidle).1) nofun
      (h.priorities x hmem)
  · exact h

theorem Relay.Safe.finish (h : r.Safe) : r.finish.Safe :=
  h.thin List.filter_sublist fun _ => ⟨List.all_eq_true.mpr fun _ hx => (List.mem_filter.mp hx).2, rfl⟩

end Block

/-! ### As moves -/

section Chains
variable {K : Kind → Prop} {s t : State}

/-- A change of an active relay's list or exchange. -/
theorem Reach.setRelay (hK : K .relay) {r : Relay} (hactive : t.relayActive = true) (hpairs : r.pairs = t.relay.pairs)
    (hsafe : PagesSafe t → t.relay.Safe → r.Safe) (h : Reach K s t) : Reach K s { t with relay := r } :=
  h.tail hK (.relay r t hpairs fun hp hr => (hsafe hp hr.block).state fun hi => absurd (hactive.symm.trans hi) nofun)

theorem kick_pairs (r : Relay) : r.kick.pairs = r.pairs := by
  unfold Relay.kick
  split <;> rfl

theorem Reach.kick (hK : K .relay) (h : Reach K s t) : Reach K s (kick t) := by
  unfold Machine.kick
  split
  · next hactive => exact h.setRelay hK hactive (kick_pairs _) fun _ hr => hr.kick
  · exact h

theorem Reach.offerRelay (hK : K .relay) {x : RelayRec} (hwaiting : x.inFlight = false)
    (hpriority : PagesSafe t → 1 ≤ x.priority ∧ x.priority ≤ 7) (h : Reach K s t) : Reach K s (offerRelay x t) := by
  unfold Machine.offerRelay
  split
  · next hon =>
    simp only [Bool.and_eq_true] at hon
    exact Reach.kick hK (h.setRelay hK hon.1 rfl fun hp hr => hr.offer hwaiting (hpriority hp))
  · exact h

theorem Reach.forgetPage (hK : K .relay) (k : RelayKey) (h : Reach K s t) : Reach K s (forgetPage k t) :=
  h.tail hK (.relay _ t rfl fun _ hr => (hr.block.forget _).state fun hi => by
    obtain ⟨hl, he⟩ := hr.inactive hi
    exact ⟨by simp [hl], he⟩)

theorem Reach.emptyRelay (hK : K .relay) (h : Reach K s t) : Reach K s (emptyRelay t) :=
  h.tail hK (.relay _ t rfl fun _ hr =>
    (hr.block.thin (r' := { t.relay.idle with list := [] }) (List.nil_sublist _) fun _ => ⟨rfl, rfl⟩).state fun _ => ⟨rfl, rfl⟩)

theorem Reach.answerRelay (hK : K .relay) (o n a : Byte) (h : Reach K s t) : Reach K s (answerRelay o n a t) :=
  .ite (fun _ => h.forgetPage hK _) fun _ => h

theorem Reach.takeAnswerNotice (hrelay : K .relay) (hK : Admits K escalations) (o n a : Byte) (pager : Half) (r : Byte)
    (h : Reach K s t) : Reach K s (takeAnswerNotice o n a pager r t) :=
  .ite (fun _ => h) fun _ => (h.answerPages hK o n a pager _).answerRelay hrelay o n a

theorem offeredPage_range {sender own : Station} {n a g p m c : Byte} {x : RelayRec}
    (h : offeredPage sender own n a g p m c = some x) : x.inFlight = false ∧ 1 ≤ x.priority ∧ x.priority ≤ 7 := by
  unfold offeredPage at h
  split at h <;> cases h
  next hrange =>
    simp only [not_or] at hrange
    refine ⟨rfl, ?_, ?_⟩ <;> dsimp only <;> omega

theorem Reach.takePageNotice (hK : K .relay) (st : Station) (n a g p m c : Byte) (h : Reach K s t) :
    Reach K s (takePageNotice st n a g p m c t) := by
  unfold Machine.takePageNotice
  split
  · next x hx =>
    obtain ⟨hwaiting, hpriority⟩ := offeredPage_range hx
    exact h.offerRelay hK hwaiting fun _ => hpriority
  · exact h

theorem Reach.takeDone (hK : K .relay) (o n a : Byte) (h : Reach K s t) : Reach K s (takeDone o n a t) := by
  refine .ite (fun hon => ?_) fun _ => h
  simp only [Bool.and_eq_true] at hon
  exact Reach.kick hK (h.setRelay hK hon.1.1.1 rfl fun _ hr => hr.finish)

/-- The exchange is in progress only at an active relay; elsewhere a change of it is none the bounds see. -/
theorem Reach.setExchange (hK : K .relay) {r : Relay} (hpairs : r.pairs = t.relay.pairs) (hbusy : t.relay.exchange ≠ .idle)
    (hsafe : t.relay.Safe → r.Safe) (h : Reach K s t) : Reach K s { t with relay := r } :=
  h.tail hK (.relay r t hpairs fun _ hr => (hsafe hr.block).state fun hi => absurd (hr.inactive hi).2 hbusy)

theorem Reach.retry (hK : K .relay) (hfirst : t.relay.exchange = .first) (h : Reach K s t) : Reach K s (retry t) := by
  have hbusy : t.relay.exchange ≠ .idle := by rw [hfirst]; nofun
  unfold Machine.retry
  split
  · exact h.setExchange hK rfl hbusy fun hr => hr.thin (.refl _) nofun
  · next hnone =>
    refine Reach.kick hK (h.setExchange hK rfl hbusy fun hr => hr.thin (r' := t.relay.idle) (.refl _) fun _ => ⟨?_, rfl⟩)
    exact List.all_eq_true.mpr fun x hx => by simpa using List.find?_eq_none.mp hnone x hx

theorem Reach.giveUp (hK : K .relay) (hlatch : K .latch) (hbusy : t.relay.exchange ≠ .idle) (h : Reach K s t) :
    Reach K s (giveUp t) :=
  Reach.kick hK (Reach.latch hlatch .radioFault (h.setExchange hK rfl hbusy fun hr => hr.finish))

theorem Reach.startTimer (hK : K .relay) (hbusy : t.relay.exchange ≠ .idle) (h : Reach K s t) :
    Reach K s { t with relay := { t.relay with timerOn := true } } :=
  h.setExchange hK rfl hbusy fun hr => hr.thin (.refl _) fun he => absurd he hbusy

theorem Reach.takeReply (hrelay : K .relay) (hK : Admits K escalations) (pager : Half) (o n a r : Byte) (h : Reach K s t) :
    Reach K s (takeReply pager o n a r t) := by
  unfold Machine.takeReply
  split
  · refine .ite (fun _ => ?_) fun _ => h
    have hforgotten := (h.hand (hK (k := .take) trivial) (.answer o n a pager r)).forgetPage hrelay
    exact .ite (fun _ => (hforgotten _).takeAnswer hK _ _ _ _) fun _ => hforgotten _
  · exact h

theorem Reach.setPair (hK : K .pair) (i : Fin 4) (x : Pair) (h : Reach K s t) : Reach K s (setPair i x t) :=
  h.tail hK (.pair i x t)

/-! ### The end of a PAGE notice (R146) -/

theorem Reach.pageNotSent (hK : K .page) (id : Nat) (h : Reach K s t) : Reach K s (pageNotSent id t) :=
  h.setPages hK fun hs => hs.touch fun p _ => by split <;> exact ⟨rfl, rfl, rfl, rfl, rfl, fun x => x⟩

theorem Reach.pageSent (hpage : K .page) (hrelay : K .relay) (id : Nat) (h : Reach K s t) : Reach K s (pageSent id t) := by
  unfold Machine.pageSent
  split
  · exact h
  · next p hp =>
    have hsent : Reach K s (Machine.mapPage p.number
        (fun x => { x with state := .sent, current := none, timer := answerTimeout x.priority }) t) :=
      h.mapPage hpage fun _ => ⟨rfl, rfl, rfl, rfl, rfl, rfl⟩
    refine .ite (fun _ => hsent.offerRelay hrelay rfl fun hs => ?_) fun _ => hsent
    have hmem : (if p.number = p.number then
        ({ p with state := .sent, current := none, timer := answerTimeout p.priority } : Page) else p) ∈
        (Machine.mapPage p.number (fun x => { x with state := .sent, current := none, timer := answerTimeout x.priority }) t).page.pages :=
      List.mem_map.mpr ⟨p, List.mem_of_find?_eq_some hp, rfl⟩
    simpa using hs.priorities _ hmem

end Chains

end Sys2Proof.Machine

/-! SUPPORT. The operations of the ware block as chains of moves. -/

namespace Sys2Proof.Machine

/-! ### R108 of a rack queue -/

/-- The racks' numbers: consecutive, the last one before the next sequence (R108). -/
def numbersFrom (next n : Nat) : List Nat := (List.range n).map fun i => (next + 65536 - n + i) % 65536

theorem numbersFrom_append {next n : Nat} (hnext : next < 65536) (hn : n < 24) :
    numbersFrom next n ++ [next] = numbersFrom ((next + 1) % 65536) (n + 1) := by
  simp only [numbersFrom, List.range_succ, List.map_append, List.map_cons, List.map_nil]
  congr 1
  · refine List.map_congr_left fun i hi => ?_
    have := List.mem_range.mp hi
    omega
  · congr 1
    omega

theorem numbersFrom_tail {next n : Nat} (hn : n < 24) : (numbersFrom next (n + 1)).tail = numbersFrom next n := by
  simp only [numbersFrom, List.range_succ_eq_map, List.map_cons, List.tail_cons, List.map_map]
  refine List.map_congr_left fun i hi => ?_
  simp only [Function.comp_apply]
  congr 1
  omega

/-- The RINSED come before the LOADED (R108). -/
def RinsedFirst (l : List Rack) : Prop := l.Pairwise fun a b => b.rinsed = true → a.rinsed = true

theorem rinseFirst_seqs (temp : Option Int) (res : RackResult) (l : List Rack) :
    (rinseFirst temp res l).map (·.seq) = l.map (·.seq) := by
  induction l with
  | nil => rfl
  | cons r rest ih =>
    unfold rinseFirst
    split
    · simp [ih]
    · rfl

/-- A rack after a RINSE edge: one of before, or one that took the temperature and the result. -/
theorem mem_rinseFirst {temp : Option Int} {res : RackResult} {l : List Rack} {x : Rack} (h : x ∈ rinseFirst temp res l) :
    x ∈ l ∨ (x.temp = temp ∧ x.result = some res) := by
  induction l with
  | nil => cases h
  | cons r rest ih =>
    unfold rinseFirst at h
    split at h
    · rcases List.mem_cons.mp h with rfl | h
      · exact .inl List.mem_cons_self
      · exact (ih h).imp_left (List.mem_cons_of_mem _)
    · rcases List.mem_cons.mp h with rfl | h
      · exact .inr ⟨rfl, rfl⟩
      · exact .inl (List.mem_cons_of_mem _ h)

theorem rinseFirst_rinsedFirst (temp : Option Int) (res : RackResult) {l : List Rack} (h : RinsedFirst l) :
    RinsedFirst (rinseFirst temp res l) := by
  induction l with
  | nil => exact h
  | cons r rest ih =>
    obtain ⟨hr, hrest⟩ := List.pairwise_cons.mp h
    unfold rinseFirst
    split
    · next hrinsed => exact List.pairwise_cons.mpr ⟨fun _ _ _ => hrinsed, ih hrest⟩
    · next hloaded =>
      refine List.pairwise_cons.mpr ⟨fun _ _ _ => rfl, hrest⟩

/-- The racks' bounds rest on the racks, the next sequence, the sanitize minimum, the conveyor and the enable flag. -/
theorem RacksSafe.withWare {s : State} (h : RacksSafe s) {w : Ware} (hracks : w.racks = s.ware.racks)
    (hnext : w.nextSeq = s.ware.nextSeq) (hmin : w.sanMin = s.ware.sanMin)
    (hconf : s.port.configured = false → w.conveyor = .off ∧ w.enable = false) : RacksSafe { s with ware := w } where
  room := by rw [hracks]; exact h.room
  next := by rw [hnext]; exact h.next
  numbers := by simp only [hracks, hnext]; exact h.numbers
  order := by rw [hracks]; exact h.order
  clean := by simp only [hracks, hmin]; exact h.clean
  configured := fun hc => ⟨hracks.trans (h.configured hc).1, hconf hc⟩

/-- A change of none of the racks' fields, the wash view, the conveyor and the settings. -/
theorem WareStep.plain {s : State} {w : Ware} (hset : SameWareSettings s.ware w) (hconv : w.conveyor = s.ware.conveyor)
    (hracks : w.racks = s.ware.racks) (hnext : w.nextSeq = s.ware.nextSeq) (henable : w.enable = s.ware.enable)
    (hwash : w.wash = s.ware.wash) : WareStep s w where
  settings := hset
  conveyor := hconv
  racks := fun h => h.withWare hracks hnext hset.sanMin fun hc =>
    ⟨hconv.trans (h.configured hc).2.1, henable.trans (h.configured hc).2.2⟩
  wash := fun h => by rw [hwash]; exact h

theorem SameWareSettings.refl (w : Ware) : SameWareSettings w w := ⟨rfl, rfl, rfl, rfl⟩

/-- A change of the racks, the next sequence and the wash view alone. -/
theorem WareStep.racked {s : State} {racks : List Rack} {next : Nat}
    (h : RacksSafe s → RacksSafe { s with ware := { s.ware with racks := racks, nextSeq := next } }) :
    WareStep s { s.ware with racks := racks, nextSeq := next } where
  settings := ⟨rfl, rfl, rfl, rfl⟩
  conveyor := rfl
  racks := h
  wash := id

/-! ### R122 of a wash view -/

/-- A list takes one entry more at most as a key is put in its place. -/
theorem length_insert_le {α : Type} (key : α → Station) (x : α) (l : List α) :
    (l.filter (key · < key x) ++ x :: l.filter (key x < key ·)).length ≤ l.length + 1 := by
  have hparts : (l.filter (key · < key x)).length + (l.filter (key x < key ·)).length ≤ l.length := by
    induction l with
    | nil => simp
    | cons a l ih =>
      simp only [List.filter_cons, List.length_cons]
      rcases lt_trichotomy (key a) (key x) with hlt | heq | hgt
      · simp only [hlt, hlt.not_gt, decide_true, decide_false, if_true, Bool.false_eq_true, if_false, List.length_cons]
        omega
      · simp only [heq, lt_irrefl, decide_false, Bool.false_eq_true, if_false]
        omega
      · simp only [hgt, hgt.not_gt, decide_true, decide_false, if_true, Bool.false_eq_true, if_false, List.length_cons]
        omega
  simp only [List.length_append, List.length_cons]
  omega

theorem noteWash_fits {own : Station} {e : WashEntry} {l : List WashEntry} (hst : e.station ≠ 0 ∧ e.station ≠ own)
    (hrange : e.backlog ≤ 999 ∧ e.age < 30) (h : WashFits own l) : WashFits own (noteWash e l) := by
  unfold noteWash
  split
  · have hmem {x : WashEntry} (hx : x ∈ l.map fun x => if x.station = e.station then e else x) : x = e ∨ x ∈ l := by
      obtain ⟨y, hy, rfl⟩ := List.mem_map.mp hx
      split
      · exact .inl rfl
      · exact .inr hy
    refine ⟨by simpa using h.length, ?_, fun x hx => ?_, fun x hx => ?_⟩
    · refine pairwise_map_of_key WashEntry.station (fun x => ?_) h.order
      split
      · next hx => exact hx.symm
      · rfl
    · rcases hmem hx with rfl | hx
      · exact hst
      · exact h.others x hx
    · rcases hmem hx with rfl | hx
      · exact hrange
      · exact h.ranges x hx
  · next hnew =>
    split
    · next hroom =>
      have hmem {x : WashEntry} (hx : x ∈ l.filter (·.station < e.station) ++ e :: l.filter (e.station < ·.station)) :
          x = e ∨ x ∈ l := by
        rcases List.mem_append.mp hx with hx | hx
        · exact .inr (List.mem_filter.mp hx).1
        · rcases List.mem_cons.mp hx with rfl | hx
          · exact .inl rfl
          · exact .inr (List.mem_filter.mp hx).1
      refine ⟨?_, pairwise_insert WashEntry.station e h.order, fun x hx => ?_, fun x hx => ?_⟩
      · have := length_insert_le WashEntry.station e l
        omega
      · rcases hmem hx with rfl | hx
        · exact hst
        · exact h.others x hx
      · rcases hmem hx with rfl | hx
        · exact hrange
        · exact h.ranges x hx
    · exact h

theorem WashFits.thin {own : Station} {l l' : List WashEntry} (h : WashFits own l) (hl : l'.Sublist l) : WashFits own l' :=
  ⟨hl.length_le.trans h.length, h.order.sublist hl, fun e he => h.others e (hl.subset he), fun e he => h.ranges e (hl.subset he)⟩

theorem washAged_fits {own : Station} {l : List WashEntry} (h : WashFits own l) :
    WashFits own ((l.map fun e => { e with age := e.age + 1 }).filter (·.age < 30)) := by
  refine ⟨(List.length_filter_le _ _).trans (by simpa using h.length), List.Pairwise.filter _ ?_, fun x hx => ?_, fun x hx => ?_⟩
  · exact pairwise_map_of_key WashEntry.station (f := fun e : WashEntry => { e with age := e.age + 1 }) (fun _ => rfl) h.order
  all_goals
    obtain ⟨hx, hage⟩ := List.mem_filter.mp hx
    obtain ⟨y, hy, rfl⟩ := List.mem_map.mp hx
  · exact h.others y hy
  · exact ⟨(h.ranges y hy).1, by simpa using hage⟩

/-! ### As moves -/

section Chains
variable {K : Kind → Prop} {s t : State}

theorem Reach.mapWare (hK : K .ware) {f : Ware → Ware} (hstep : WareStep t (f t.ware))
    (henable : (f t.ware).enable = t.ware.enable) (h : Reach K s t) : Reach K s (mapWare f t) :=
  h.tail hK (.ware _ t hstep henable)

theorem Reach.driveConveyor (hK : K .drive) (h : Reach K s t) : Reach K s (driveConveyor t) := h.tail hK (.drive t)

theorem Reach.evalConveyor (hK : K .drive) (h : Reach K s t) : Reach K s (evalConveyor t) :=
  .ite (fun _ => h) fun _ => h.driveConveyor hK

theorem Reach.faultConveyor (hK : K .fault) (c : SubCause) (hconf : RacksSafe t → t.port.configured = true) (h : Reach K s t) :
    Reach K s (faultConveyor c t) := h.tail hK (.fault c t hconf)

/-- A flag or count of the ware block. -/
theorem Reach.flagWare (hK : K .ware) {f : Ware → Ware} (hset : ∀ w, SameWareSettings w (f w))
    (hsame : ∀ w, (f w).conveyor = w.conveyor ∧ (f w).racks = w.racks ∧ (f w).nextSeq = w.nextSeq ∧ (f w).enable = w.enable ∧
      (f w).wash = w.wash) (h : Reach K s t) : Reach K s (Machine.mapWare f t) := by
  obtain ⟨hconv, hracks, hnext, henable, hwash⟩ := hsame t.ware
  exact h.mapWare hK (.plain (hset _) hconv hracks hnext henable hwash) henable

/-- What the ware block's notices and level are made of. -/
def wares : Kind → Prop
  | .ware | .event => True
  | k => pages k

theorem wares_admits_pages (hK : Admits K wares) : Admits K pages := fun k hk =>
  hK (by cases k <;> first | exact hk | trivial)

theorem Reach.handWare (hK : Admits K wares) (h : Reach K s t) : Reach K s (handWare t) :=
  Reach.hand (hK (k := .take) trivial) _
    (h.flagWare (hK (k := .ware) trivial) (fun _ => ⟨rfl, rfl, rfl, rfl⟩) fun _ => ⟨rfl, rfl, rfl, rfl, rfl⟩)

theorem Reach.setLevel (hK : Admits K wares) (high : Bool) (h : Reach K s t) :
    Reach K s (Machine.mapWare (fun w => { w with levelHigh := high }) t) :=
  h.flagWare (hK (k := .ware) trivial) (fun _ => ⟨rfl, rfl, rfl, rfl⟩) fun _ => ⟨rfl, rfl, rfl, rfl, rfl⟩

theorem Reach.evalLevel (hK : Admits K wares) (h : Reach K s t) : Reach K s (evalLevel t) :=
  .ite (fun _ => h) fun _ => .ite (fun _ => ((h.setLevel hK true).raise (hK (k := .event) trivial) _).handWare hK) fun _ =>
    .ite (fun _ => (h.setLevel hK false).handWare hK) fun _ => h

theorem Reach.evalBacklog (hK : Admits K wares) (h : Reach K s t) : Reach K s (evalBacklog t) :=
  Reach.watchBacklog (wares_admits_pages hK) (h.evalLevel hK)

/-- What the rack sensors' edges are made of. -/
def rackWork : Kind → Prop
  | .fault | .report | .count => True
  | k => wares k

theorem rackWork_admits_wares (hK : Admits K rackWork) : Admits K wares := fun k hk =>
  hK (by cases k <;> first | exact hk | trivial)

theorem configured_of_wareActive (h : t.wareActive = true) : t.port.configured = true := by
  simp only [State.wareActive, Bool.and_eq_true] at h
  exact h.1.2

theorem Reach.takeEntry (hK : Admits K rackWork) (hactive : t.wareActive = true) (h : Reach K s t) :
    Reach K s (takeEntry t) := by
  have hconf := configured_of_wareActive hactive
  refine .ite (fun _ => h.faultConveyor (hK (k := .fault) trivial) _ fun _ => hconf) fun hroom => ?_
  refine Reach.evalBacklog (rackWork_admits_wares hK) (h.mapWare (hK (k := .ware) trivial) (.racked fun hs => ?_) rfl)
  have hlen : (t.ware.racks ++ [t.newRack]).length = t.ware.racks.length + 1 := by simp
  refine ⟨by dsimp only; omega, Nat.mod_lt _ (by omega), ?_, ?_, fun r hr hclean => ?_, fun hc => ?_⟩
  · show List.map _ (t.ware.racks ++ [t.newRack]) = numbersFrom ((t.ware.nextSeq + 1) % 65536) (t.ware.racks ++ [t.newRack]).length
    have hnumbers : t.ware.racks.map (·.seq) = numbersFrom t.ware.nextSeq t.ware.racks.length := hs.numbers
    rw [hlen, ← numbersFrom_append hs.next (by omega), List.map_append, hnumbers]
    rfl
  · refine List.pairwise_append.mpr ⟨hs.order, List.pairwise_singleton _ _, fun a _ b hb hrinsed => ?_⟩
    rw [List.mem_singleton.mp hb] at hrinsed
    cases hrinsed
  · rcases List.mem_append.mp hr with hr | hr
    · exact hs.clean r hr hclean
    · rw [List.mem_singleton.mp hr] at hclean
      cases hclean
  · exact absurd (hconf.symm.trans hc) nofun

/-- A CLEAN verdict is of a temperature at or above the sanitize minimum (R110). -/
theorem temp_of_verdict_clean (h : t.verdict = .clean) :
    ∃ x, t.heat.zones[t.ware.rinseZone].temp = some x ∧ (t.ware.sanMin : Int) ≤ x := by
  unfold State.verdict at h
  split at h
  · next hfresh =>
    simp only [Zone.freshAtLeast, Bool.and_eq_true] at hfresh
    obtain ⟨-, hwarm⟩ := hfresh
    split at hwarm
    · next x hx => exact ⟨x, hx, by simpa using hwarm⟩
    · cases hwarm
  · cases h

theorem Reach.takeRinse (hK : Admits K rackWork) (hactive : t.wareActive = true) (h : Reach K s t) :
    Reach K s (takeRinse t) := by
  have hconf := configured_of_wareActive hactive
  refine .ite (fun _ => h.faultConveyor (hK (k := .fault) trivial) _ fun _ => hconf) fun _ => ?_
  refine h.mapWare (hK (k := .ware) trivial) (.racked (next := t.ware.nextSeq) fun hs => ?_) rfl
  have hseqs := rinseFirst_seqs t.heat.zones[t.ware.rinseZone].temp t.verdict t.ware.racks
  have hlen : (rinseFirst t.heat.zones[t.ware.rinseZone].temp t.verdict t.ware.racks).length = t.ware.racks.length := by
    simpa using congrArg List.length hseqs
  refine ⟨hlen ▸ hs.room, hs.next, ?_, rinseFirst_rinsedFirst _ _ hs.order, fun r hr hclean => ?_, fun hc => ?_⟩
  · show List.map _ (rinseFirst _ _ _) = _
    dsimp only
    rw [hseqs, hlen]
    exact hs.numbers
  · rcases mem_rinseFirst hr with hr | ⟨htemp, hres⟩
    · exact hs.clean r hr hclean
    · rw [hclean] at hres
      obtain ⟨x, hx, hle⟩ := temp_of_verdict_clean (Option.some.inj hres).symm
      exact ⟨x, htemp.trans hx, hle⟩
  · exact absurd (hconf.symm.trans hc) nofun

theorem Reach.holdLow (hK : K .ware) (x : Bool) (h : Reach K s t) :
    Reach K s (Machine.mapWare (fun w => { w with heldLow := x }) t) :=
  h.flagWare hK (fun _ => ⟨rfl, rfl, rfl, rfl⟩) fun _ => ⟨rfl, rfl, rfl, rfl, rfl⟩

theorem Reach.rewashExit (hK : Admits K rackWork) (r : Rack) (h : Reach K s t) : Reach K s (rewashExit r t) :=
  ((((h.bump (hK (k := .count) trivial) _).raise (hK (k := .event) trivial) _).holdLow (hK (k := .ware) trivial) true).makeReport
    (hK (k := .report) trivial) _)

theorem port_configured_of_kept {u : State} (h : u.kept = t.kept) : u.port.configured = t.port.configured :=
  congrArg (fun k : Kept => k.settings.configured) h

theorem Reach.takeExit (hK : Admits K rackWork) (hactive : t.wareActive = true) (h : Reach K s t) :
    Reach K s (takeExit t) := by
  have hconf := configured_of_wareActive hactive
  have hfault := hK (k := .fault) trivial
  unfold Machine.takeExit
  split
  · exact ((h.holdLow (hK (k := .ware) trivial) true).makeReport (hK (k := .report) trivial) _).faultConveyor hfault _ fun _ => hconf
  · next r rest hracks =>
    have hleft : Reach K s (Machine.mapWare (fun w => { w with racks := rest }) t) := by
      refine h.mapWare (hK (k := .ware) trivial) (.racked (next := t.ware.nextSeq) fun hs => ?_) rfl
      have hroom := hs.room
      rw [hracks, List.length_cons] at hroom
      refine ⟨by dsimp only; omega, hs.next, ?_, ?_, fun x hx => ?_, fun hc => absurd (hconf.symm.trans hc) nofun⟩
      · have hnumbers : t.ware.racks.map (·.seq) = numbersFrom t.ware.nextSeq t.ware.racks.length := hs.numbers
        rw [hracks] at hnumbers
        have := congrArg List.tail hnumbers
        rw [List.length_cons, numbersFrom_tail (by omega)] at this
        exact this
      · have := hs.order
        rw [hracks] at this
        exact (List.pairwise_cons.mp this).2
      · exact hs.clean x (hracks ▸ List.mem_cons_of_mem _ hx)
    have hlevel := hleft.evalBacklog (rackWork_admits_wares hK)
    refine .ite (fun _ => (hlevel.rewashExit hK _).faultConveyor hfault _ fun _ => ?_) fun _ =>
      .ite (fun _ => hlevel.bump (hK (k := .count) trivial) _) fun _ => hlevel.rewashExit hK r
    exact (port_configured_of_kept (by
      rw [rewashExit_kept, evalBacklog_kept, mapWare_kept]
      exact ⟨rfl, rfl, rfl, rfl, rfl, rfl, rfl⟩)).trans hconf

/-! ### The wash view and the tick -/

theorem Reach.mapWash (hK : Admits K wares) {f : List WashEntry → List WashEntry}
    (hf : WashFits t.own t.ware.wash → WashFits t.own (f t.ware.wash)) (h : Reach K s t) : Reach K s (mapWash f t) := by
  refine Reach.watchBacklog (wares_admits_pages hK) (h.mapWare (hK (k := .ware) trivial) ⟨⟨rfl, rfl, rfl, rfl⟩, rfl, fun hs => ?_, hf⟩ rfl)
  exact hs.withWare rfl rfl rfl fun hc => (hs.configured hc).2

theorem Reach.dropWash (hK : Admits K wares) (st : Station) (h : Reach K s t) :
    Reach K s (Machine.mapWash (dropWash st) t) := h.mapWash hK fun hs => hs.thin List.filter_sublist

theorem Reach.takeWareNotice (hK : Admits K wares) (st : Station) (l : Byte) (b : Half) (c : Byte) (h : Reach K s t) :
    Reach K s (takeWareNotice st l b c t) := by
  unfold Machine.takeWareNotice
  split
  · exact .ite (fun _ => h) fun _ => h.dropWash hK st
  · refine .ite (fun _ => h) fun hst => h.mapWash hK fun hs => noteWash_fits (not_or.mp hst) ⟨?_, ?_⟩ hs
    · exact Nat.min_le_left _ _
    · show (0 : Nat) < 30
      omega
  · exact h

/-- The racks' running seconds change alone. -/
theorem Reach.mapRunning (hK : K .ware) (f : Nat → Nat) (h : Reach K s t) :
    Reach K s (Machine.mapWare (fun w => { w with racks := w.racks.map fun r => { r with running := f r.running } }) t) := by
  refine h.mapWare hK (.racked (next := t.ware.nextSeq) fun hs => ?_) rfl
  refine ⟨by simpa using hs.room, hs.next, by simpa [Function.comp_def] using hs.numbers, ?_, fun x hx hclean => ?_, fun hc => ⟨?_, (hs.configured hc).2⟩⟩
  · exact List.pairwise_map.mpr hs.order
  · obtain ⟨y, hy, rfl⟩ := List.mem_map.mp hx
    exact hs.clean y hy hclean
  · simpa using (hs.configured hc).1

theorem Reach.tickRacks (hK : K .ware) (h : Reach K s t) : Reach K s (tickRacks t) :=
  .ite (fun _ => h.mapRunning hK fun n => min 65535 (n + 1)) fun _ => h

theorem Reach.tickDwell (hK : K .fault) (h : Reach K s t) : Reach K s (tickDwell t) := by
  unfold Machine.tickDwell
  split
  · refine .ite (fun hruns => h.faultConveyor hK _ fun hs => ?_) fun _ => h
    by_contra hc
    have hoff := (hs.configured (by simpa using hc)).2.1
    rw [hruns.1] at hoff
    cases hoff
  · exact h

theorem Reach.tickWash (hK : Admits K wares) (h : Reach K s t) : Reach K s (tickWash t) := h.mapWash hK washAged_fits

theorem Reach.tickWareRepeat (hK : Admits K wares) (h : Reach K s t) : Reach K s (tickWareRepeat t) :=
  .ite (fun _ => .ite (fun _ => h.handWare hK) fun _ => h.flagWare (hK (k := .ware) trivial) (fun _ => ⟨rfl, rfl, rfl, rfl⟩)
    fun _ => ⟨rfl, rfl, rfl, rfl, rfl⟩) fun _ => h

theorem Reach.wareTick (hK : Admits K rackWork) (h : Reach K s t) : Reach K s (wareTick t) := by
  have hwares := rackWork_admits_wares hK
  exact (((h.tickRacks (hK (k := .ware) trivial)).tickDwell (hK (k := .fault) trivial)).tickWash hwares).tickWareRepeat hwares

/-! ### Commands -/

/-- R107 up to the conveyor's evaluation. -/
theorem Reach.setEnable (hK : K .enable) (enable : Bool) (n : Nat) (hconf : t.port.configured = true) (h : Reach K s t) :
    Reach K s (Machine.mapWare (fun w => { w with enable := enable, waiting := n }) t) :=
  h.tail hK (.enable _ t ⟨⟨rfl, rfl, rfl, rfl⟩, rfl, fun hs =>
    hs.withWare rfl rfl rfl fun hc => absurd (hconf.symm.trans hc) nofun, id⟩)

theorem Reach.setWare (henable : K .enable) (hdrive : K .drive) (hK : Admits K wares) (enable : Bool) (n : Nat)
    (hconf : t.port.configured = true) (h : Reach K s t) : Reach K s (setWare enable n t) :=
  Reach.watchBacklog (wares_admits_pages hK) (((h.setEnable henable enable n hconf).evalConveyor hdrive).evalLevel hK)

theorem Reach.unfault (hware : K .ware) (h : Reach K s t) : Reach K s (Machine.mapWare Ware.unfaulted t) := by
  have hcleared := h.mapRunning hware fun _ => 0
  exact hcleared.flagWare hware (f := fun w => { w with subCause := none }) (fun _ => ⟨rfl, rfl, rfl, rfl⟩)
    fun _ => ⟨rfl, rfl, rfl, rfl, rfl⟩

end Chains

end Sys2Proof.Machine

/-! SUPPORT. The operations of the load block, the moves of the link and the ends of a transmission as chains of moves. -/

namespace Sys2Proof.Machine

section Chains
variable {K : Kind → Prop} {s t : State}

/-! ### The link (R62, R63, R78) -/

theorem changeLink_eq (l : LinkState) (s : State) : changeLink l s =
    if s.bus.link = .listen && l.sends && (relink l s).wareActive then Machine.handWare (relink l s) else relink l s := rfl

theorem Reach.changeLink {l : LinkState} (hlink : K (.link l)) (hK : Admits K wares) (hfrom : t.bus.link ≠ .monitor)
    (hto : l.heats = true ∨ l = .leaving)
    (hconf : (t.port.configured = false → t.bus.link = .off ∨ t.bus.link = .monitor) → t.port.configured = true)
    (h : Reach K s t) : Reach K s (changeLink l t) := by
  rw [changeLink_eq]
  have hmoved : Reach K s (relink l t) := h.tail hlink (.link l t hfrom hto hconf)
  exact .ite (fun _ => hmoved.handWare hK) fun _ => hmoved

/-- A station that hears and is not in MONITOR is configured. -/
theorem configured_of_link {l : LinkState} (hl : t.bus.link = l) (hnot : l ≠ .off ∧ l ≠ .monitor)
    (hconf : t.port.configured = false → t.bus.link = .off ∨ t.bus.link = .monitor) : t.port.configured = true := by
  by_contra hc
  rcases hconf (by simpa using hc) with h | h <;> rw [hl] at h
  · exact hnot.1 h
  · exact hnot.2 h

theorem Reach.changeFrom {l₀ l : LinkState} (hlink : K (.link l)) (hK : Admits K wares) (hl : t.bus.link = l₀)
    (hnot : l₀ ≠ .off ∧ l₀ ≠ .monitor) (hto : l.heats = true) (h : Reach K s t) : Reach K s (Machine.changeLink l t) :=
  h.changeLink hlink hK (hl ▸ hnot.2) (.inl hto) (configured_of_link hl hnot)

/-- What the link's own moves between LISTEN, JOINED and ALONE are made of. -/
def relinks : Kind → Prop
  | .link l => l = .alone ∨ l = .joined
  | k => wares k

theorem relinks_admits_wares (hK : Admits K relinks) : Admits K wares := fun k hk =>
  hK (by cases k <;> first | exact hk | trivial | cases hk)

theorem Reach.endListen (hK : Admits K relinks) (h : Reach K s t) : Reach K s (endListen t) := by
  refine .ite (fun hl => ?_) fun _ => h
  have hwares := relinks_admits_wares hK
  cases t.load.peers.isEmpty
  · exact h.changeFrom (hK (k := .link .joined) (.inr rfl)) hwares hl ⟨nofun, nofun⟩ rfl
  · exact h.changeFrom (hK (k := .link .alone) (.inl rfl)) hwares hl ⟨nofun, nofun⟩ rfl

theorem Reach.tableFilled (hK : Admits K relinks) (h : Reach K s t) : Reach K s (tableFilled t) :=
  .ite (fun hl => h.changeFrom (hK (k := .link .joined) (.inr rfl)) (relinks_admits_wares hK) hl ⟨nofun, nofun⟩ rfl) fun _ => h

theorem Reach.tellIfEmpty (hK : Admits K relinks) (h : Reach K s t) : Reach K s (tellIfEmpty t) :=
  .ite (fun _ => .ite (fun hl =>
    h.changeFrom (hK (k := .link .alone) (.inl rfl)) (relinks_admits_wares hK) hl ⟨nofun, nofun⟩ rfl) fun _ => h) fun _ => h

/-! ### The load block (R41–R47, R57) -/

theorem Reach.setLoad (hK : K .load) {l : Load} (hstep : LoadStep t.load l) (hpeers : l.peers = t.load.peers)
    (h : Reach K s t) : Reach K s { t with load := l } := h.tail hK (.load l t hstep hpeers)

theorem Reach.testMismatch (hload : K .load) (hevent : K .event) (h : Reach K s t) : Reach K s (testMismatch t) := by
  unfold Machine.testMismatch
  split
  · refine .ite (fun _ => h) fun _ => ?_
    have hset := h.setLoad hload (l := { t.load with mismatch := true }) ⟨rfl, rfl, rfl, rfl⟩ rfl
    exact .ite (fun _ => hset) fun _ => hset.raise hevent _
  · exact h.setLoad hload ⟨rfl, rfl, rfl, rfl⟩ rfl

/-- What the loss of a peer is made of. -/
def losses : Kind → Prop
  | .unpeer | .load => True
  | k => relinks k ∨ reacts k

theorem losses_admits_reacts (hK : Admits K losses) : Admits K reacts := fun k hk =>
  hK (by cases k <;> first | exact .inr hk | trivial)

theorem losses_admits_relinks (hK : Admits K losses) : Admits K relinks := fun k hk =>
  hK (by cases k <;> first | exact .inl hk | trivial)

theorem Reach.peerLost (hK : Admits K losses) (st : Station) (h : Reach K s t) : Reach K s (peerLost st t) :=
  ((h.loseMembers (losses_admits_reacts hK) st).dropWash (relinks_admits_wares (losses_admits_relinks hK)) st).testMismatch
    (hK (k := .load) trivial) (hK (k := .event) (.inr trivial))

theorem PeersFit.thin {own : Station} {l l' : List Peer} (h : PeersFit own l) (hl : l'.Sublist l) : PeersFit own l' :=
  ⟨hl.length_le.trans h.length, h.order.sublist hl, fun p hp => h.others p (hl.subset hp), fun p hp => h.ranges p (hl.subset hp),
    fun p hp => h.figures p (hl.subset hp)⟩

theorem Reach.losePeer (hK : Admits K losses) (st : Station) (h : Reach K s t) : Reach K s (losePeer st t) := by
  refine .ite (fun _ => Reach.tellIfEmpty (losses_admits_relinks hK) (Reach.peerLost hK st ?_)) fun _ => h
  exact h.tail (hK (k := .unpeer) trivial) (.unpeer _ t fun hfit => hfit.thin List.filter_sublist)

theorem aged_station (p : Peer) : p.aged.station = p.station := by
  unfold Peer.aged
  split <;> rfl

theorem aged_fits {own : Station} {l : List Peer} (h : PeersFit own l) :
    PeersFit own (((l.map Peer.aged).filter (·.missed < 3)).map fun p => { p with heard := false }) := by
  have haged (p : Peer) : p.aged.q = p.q ∧ p.aged.f = p.f ∧ p.aged.w = p.w ∧ p.aged.d = p.d ∧ p.aged.l = p.l ∧
      p.aged.grant = p.grant := by
    unfold Peer.aged
    split <;> exact ⟨rfl, rfl, rfl, rfl, rfl, rfl⟩
  have hmem {p : Peer} (hp : p ∈ ((l.map Peer.aged).filter (·.missed < 3)).map fun p => { p with heard := false }) :
      ∃ p₀ ∈ l, p = { p₀.aged with heard := false } ∧ p₀.aged.missed < 3 := by
    obtain ⟨p₁, hp₁, rfl⟩ := List.mem_map.mp hp
    obtain ⟨hp₁, hmissed⟩ := List.mem_filter.mp hp₁
    obtain ⟨p₀, hp₀, rfl⟩ := List.mem_map.mp hp₁
    exact ⟨p₀, hp₀, rfl, by simpa using hmissed⟩
  refine ⟨?_, ?_, fun p hp => ?_, fun p hp => ?_, fun p hp => ?_⟩
  · simpa using (List.length_filter_le _ (l.map Peer.aged)).trans (by simpa using h.length)
  · exact pairwise_map_of_key Peer.station (f := fun p : Peer => { p with heard := false }) (fun _ => rfl)
      ((pairwise_map_of_key Peer.station aged_station h.order).filter _)
  all_goals
    obtain ⟨p₀, hp₀, rfl, hmissed⟩ := hmem hp
    obtain ⟨hq, hf, hw, hd, hl, hg⟩ := haged p₀
  · exact (aged_station p₀).symm ▸ h.others p₀ hp₀
  · obtain ⟨hr1, hr2, hr3, hr4, -⟩ := h.ranges p₀ hp₀
    exact ⟨hq ▸ hr1, hq ▸ hf ▸ hr2, hw ▸ hr3, hw ▸ hr4, by dsimp only; omega⟩
  · obtain ⟨hr1, hr2, hr3, hr4⟩ := h.figures p₀ hp₀
    exact ⟨hd ▸ hr1, hl ▸ hr2, hl ▸ hr3, hg ▸ hr4⟩

theorem Reach.ageTable (hK : Admits K losses) (h : Reach K s t) : Reach K s (ageTable t) := by
  have haged : Reach K s { t with load := { t.load with
      peers := ((t.load.peers.map Peer.aged).filter (·.missed < 3)).map fun p => { p with heard := false } } } :=
    h.tail (hK (k := .unpeer) trivial) (.unpeer _ t aged_fits)
  have hlost := haged.foldl (f := fun s st => Machine.peerLost st s)
    (l := ((t.load.peers.map Peer.aged).filter (3 ≤ ·.missed)).map (·.station)) fun st _ u hu => hu.peerLost hK st
  exact .ite (fun _ => hlost) fun _ => hlost.tellIfEmpty (losses_admits_relinks hK)

theorem Reach.countListen (hload : K .load) (hK : Admits K relinks) (h : Reach K s t) : Reach K s (countListen t) := by
  refine .ite (fun _ => ?_) fun _ => h
  have hcounted := h.setLoad hload (l := { t.load with listenCount := t.load.listenCount + 1 }) ⟨rfl, rfl, rfl, rfl⟩ rfl
  exact .ite (fun _ => hcounted.endListen hK) fun _ => hcounted

theorem Reach.testCurtailed (hload : K .load) (hevent : K .event) (h : Reach K s t) : Reach K s (testCurtailed t) := by
  have hset := h.setLoad hload (l := { t.load with curtailCount := t.curtailCountNow, curtailed := t.curtailTest })
    ⟨rfl, rfl, rfl, rfl⟩ rfl
  exact .ite (fun _ => hset.raise hevent _) fun _ => hset

/-- The figures of a load period up to the grant computed. -/
theorem Reach.periodAged (hK : Admits K losses) (h : Reach K s t) :
    Reach K s (Machine.countListen { Machine.ageTable t with load := (Machine.ageTable t).load.endClash }) :=
  Reach.countListen (hK (k := .load) trivial) (losses_admits_relinks hK)
    ((h.ageTable hK).setLoad (hK (k := .load) trivial) ⟨rfl, rfl, rfl, rfl⟩ rfl)

theorem Reach.loadPeriodFigures (hK : Admits K losses) (hcompute : K .compute) (h : Reach K s t) :
    Reach K s (loadPeriodFigures t) :=
  Reach.testCurtailed (hK (k := .load) trivial) (hK (k := .event) (.inr trivial)) ((h.periodAged hK).tail hcompute (.compute _))

theorem Reach.loadPeriodEnd (hramp : K .ramp) (htake : K .take) (h : Reach K s t) : Reach K s (loadPeriodEnd t) := by
  have hramped : Reach K s (applyRamp t) := h.tail hramp (.ramp t)
  exact .ite (fun _ => hramped.hand htake _) fun _ => hramped

theorem ofLoad_ranges (st : Station) (q f w d l : Nat) :
    (Peer.ofLoad st q f w d l).station = st ∧
      ((Peer.ofLoad st q f w d l).q ≤ 2040 ∧ (Peer.ofLoad st q f w d l).f ≤ (Peer.ofLoad st q f w d l).q ∧
        1 ≤ (Peer.ofLoad st q f w d l).w ∧ (Peer.ofLoad st q f w d l).w ≤ 15 ∧ (Peer.ofLoad st q f w d l).missed ≤ 2) ∧
      (Peer.ofLoad st q f w d l).d ≤ 2040 ∧ 10 ≤ (Peer.ofLoad st q f w d l).l ∧ (Peer.ofLoad st q f w d l).l ≤ 6000 ∧
      (Peer.ofLoad st q f w d l).grant ≤ 6000 := by
  unfold Peer.ofLoad
  refine ⟨rfl, ⟨?_, ?_, ?_, ?_, ?_⟩, ?_, ?_, ?_, ?_⟩ <;> dsimp only <;> omega

/-- A peer after an entry is put: the entry but for its grant, which is the old entry's, or one that stood. -/
theorem mem_putPeer {p x : Peer} {l : List Peer} (h : x ∈ putPeer p l) :
    x = p ∨ (∃ y ∈ l, x = { p with grant := y.grant }) ∨ x ∈ l := by
  unfold putPeer at h
  split at h
  · obtain ⟨y, hy, rfl⟩ := List.mem_map.mp h
    split
    · exact .inr (.inl ⟨y, hy, rfl⟩)
    · exact .inr (.inr hy)
  · rcases List.mem_append.mp h with h | h
    · exact .inr (.inr (List.mem_filter.mp h).1)
    · rcases List.mem_cons.mp h with rfl | h
      · exact .inl rfl
      · exact .inr (.inr (List.mem_filter.mp h).1)

theorem putPeer_fits {own : Station} {p : Peer} {l : List Peer} (hst : p.station ≠ 0 ∧ p.station ≠ own)
    (hroom : l.any (·.station == p.station) = true ∨ l.length < 30)
    (hranges : p.q ≤ 2040 ∧ p.f ≤ p.q ∧ 1 ≤ p.w ∧ p.w ≤ 15 ∧ p.missed ≤ 2)
    (hfigures : p.d ≤ 2040 ∧ 10 ≤ p.l ∧ p.l ≤ 6000 ∧ p.grant ≤ 6000) (h : PeersFit own l) : PeersFit own (putPeer p l) := by
  refine ⟨?_, ?_, fun x hx => ?_, fun x hx => ?_, fun x hx => ?_⟩
  · unfold putPeer
    split
    · simpa using h.length
    · next hnew =>
      have := length_insert_le Peer.station p l
      have hlt := hroom.resolve_left hnew
      omega
  · unfold putPeer
    split
    · refine pairwise_map_of_key Peer.station (fun x => ?_) h.order
      split
      · next hx => exact hx.symm
      · rfl
    · exact pairwise_insert Peer.station p h.order
  all_goals rcases mem_putPeer hx with rfl | ⟨y, hy, rfl⟩ | hx
  · exact hst
  · exact hst
  · exact h.others x hx
  · exact hranges
  · exact hranges
  · exact h.ranges x hx
  · exact hfigures
  · exact ⟨hfigures.1, hfigures.2.1, hfigures.2.2.1, (h.figures y hy).2.2.2⟩
  · exact h.figures x hx

/-- An entry put takes no other away. -/
theorem putPeer_any {p : Peer} {l : List Peer} {st : Station} (h : l.any (·.station == st) = true) :
    (putPeer p l).any (·.station == st) = true := by
  obtain ⟨x, hx, hst⟩ := List.any_eq_true.mp h
  rw [beq_iff_eq] at hst
  rw [List.any_eq_true]
  unfold putPeer
  split
  · refine ⟨_, List.mem_map_of_mem hx, ?_⟩
    split
    · next hxp => simpa using hxp.symm.trans hst
    · simpa using hst
  · rcases lt_trichotomy x.station p.station with hlt | heq | hgt
    · exact ⟨x, by simp [hx, hlt], by simpa using hst⟩
    · exact ⟨p, by simp, by simpa using heq.symm.trans hst⟩
    · exact ⟨x, by simp [hx, hgt], by simpa using hst⟩

/-- What a LOAD heard is made of. -/
def loads : Kind → Prop
  | .peers | .load | .latch => True
  | k => relinks k

theorem loads_admits_relinks (hK : Admits K loads) : Admits K relinks := fun k hk =>
  hK (by cases k <;> first | exact hk | trivial)

theorem Reach.takeLoad (hK : Admits K loads) {p : Peer} (hst : p.station ≠ 0 ∧ p.station ≠ t.own)
    (hranges : p.q ≤ 2040 ∧ p.f ≤ p.q ∧ 1 ≤ p.w ∧ p.w ≤ 15 ∧ p.missed ≤ 2)
    (hfigures : p.d ≤ 2040 ∧ 10 ≤ p.l ∧ p.l ≤ 6000 ∧ p.grant ≤ 6000) (h : Reach K s t) : Reach K s (takeLoad p t) := by
  refine .ite (fun hroom => ?_) fun _ => h
  simp only [Bool.or_eq_true, decide_eq_true_eq] at hroom
  have hput : Reach K s { t with load := { t.load with peers := putPeer p t.load.peers } } :=
    h.tail (hK (k := .peers) trivial) (.peers _ t (putPeer_fits hst hroom hranges hfigures) fun _ => putPeer_any)
  exact Reach.testMismatch (hK (k := .load) trivial) (hK (k := .event) trivial)
    (.ite (fun _ => hput.tableFilled (loads_admits_relinks hK)) fun _ => hput)

theorem Reach.takeLoadNotice (hK : Admits K loads) (st : Station) (q f : Half) (w : Byte) (d l : Half) (h : Reach K s t) :
    Reach K s (takeLoadNotice st q f w d l t) := by
  refine .ite (fun _ => h) fun hzero => .ite (fun _ => ?_) fun hother => ?_
  · have hclash := Reach.latch (hK (k := .latch) trivial) .numberClash
      (h.setLoad (hK (k := .load) trivial) (l := { t.load with clash := true, clashHeard := true }) ⟨rfl, rfl, rfl, rfl⟩ rfl)
    exact .ite (fun _ => hclash) fun _ => hclash.raise (hK (k := .event) trivial) _
  · obtain ⟨-, hranges, hfigures⟩ := ofLoad_ranges st q.toNat f.toNat w.toNat d.toNat l.toNat
    exact h.takeLoad hK ⟨hzero, hother⟩ hranges hfigures

/-! ### LEAVING and the ends of a transmission (R72–R74, R78, R79) -/

theorem Reach.enterLeaving (hK : K .leaving) (hlink : t.bus.link.heats = true) (hconf : t.port.configured = true)
    (h : Reach K s t) : Reach K s (enterLeaving t) := h.tail hK (.leaving t hlink hconf)

/-- What entry to LEAVING is made of. -/
def leavings : Kind → Prop
  | .bus | .link .leaving | .route | .report | .relay => True
  | k => wares k

/-- R78: entry to LEAVING is a chain of its kinds. -/
theorem enterLeaving_reach (hlink : t.bus.link.heats = true) (hconf : t.port.configured = true) :
    Reach leavings t (Machine.enterLeaving t) := by
  have hwares : Admits leavings wares := fun k hk => by cases k <;> first | exact hk | trivial
  have hcleared : Reach leavings t { t with bus := t.bus.clearWaiting } := Reach.clearWaiting (K := leavings) trivial .refl
  have hnot : t.bus.link ≠ .off ∧ t.bus.link ≠ .monitor := by
    constructor <;> intro hl <;> rw [hl] at hlink <;> cases hlink
  have htaken : Reach leavings t (takeNotice .leave { t with bus := t.bus.clearWaiting }) :=
    hcleared.tail (k := .take) trivial (.take .leave _ hnot)
  have hkept : (takeNotice .leave { t with bus := t.bus.clearWaiting }).bus.link = t.bus.link :=
    congrArg Steady.link (takeNotice_steady .leave { t with bus := t.bus.clearWaiting })
  refine Reach.emptyRelay (K := leavings) trivial (Reach.withdrawPages (K := leavings) trivial trivial
    (Reach.emptyRoute (K := leavings) trivial (htaken.changeLink (l := .leaving) trivial hwares (hkept ▸ hnot.2) (.inr rfl) fun _ => ?_)))
  simpa using hconf

/-- How a transmission ends. -/
def endings : Kind → Prop
  | .bus | .page | .relay | .count => True
  | _ => False

theorem Reach.enterLeft (hK : K (.left t.port.configured t.own)) (h : Reach K s t) : Reach K s (enterLeft t) :=
  h.tail hK (.left t)

/-- A notice leaves the queue, and the machine seeks the line for those left. -/
theorem Reach.dropSeek (hK : K .bus) (id : Nat) (busy : Bool)
    (hall : t.bus.Safe → (withoutId id t.bus.queue).all (·.waiting) = true) (h : Reach K s t) :
    Reach K s (Machine.seekLine { t with bus := { t.bus with queue := withoutId id t.bus.queue, lineBusy := busy } }) :=
  Reach.setBus (t := t) (b := ({ t.bus with queue := withoutId id t.bus.queue, lineBusy := busy } : Bus).seek) hK (seek_link _)
    (fun hq => (seek_queue _).trans (by simp [hq, withoutId]))
    (fun hs => Bus.Safe.seek (hs.thin (withoutId_sublist _ _) (Nat.le_refl _) fun _ => hall hs) (hall hs)) h

theorem Reach.dropEntry (hK : Admits K endings) (hleft : K (.left t.port.configured t.own)) {e : TxEntry}
    (hall : t.bus.Safe → (withoutId e.id t.bus.queue).all (·.waiting) = true) (h : Reach K s t) :
    Reach K s (dropEntry e t) := by
  have hbus := hK (k := .bus) trivial
  refine .ite (fun _ => h.dropSeek hbus e.id t.bus.lineBusy hall) fun _ => .ite (fun _ => ?_) fun _ => ?_
  · exact Reach.enterLeft (t := { t with bus := { t.bus with queue := withoutId e.id t.bus.queue } }) hleft
      (h.dropFromQueue hbus e.id t.bus.lineBusy hall)
  · exact (h.dropSeek hbus e.id t.bus.lineBusy hall).pageNotSent (hK (k := .page) trivial) e.id

/-- While the machine is not SENDING every notice waits. -/
theorem withoutId_waiting_of_idle (hidle : t.bus.access ≠ .sending) (id : Nat) (hs : t.bus.Safe) :
    (withoutId id t.bus.queue).all (·.waiting) = true :=
  List.all_eq_true.mpr fun e he => List.all_eq_true.mp (hs.sending hidle) e ((withoutId_sublist _ _).subset he)

theorem Reach.waitMilli (hK : Admits K endings) (hleft : K (.left t.port.configured t.own)) (h : Reach K s t) :
    Reach K s (waitMilli t) := by
  unfold Machine.waitMilli
  split
  · exact h
  · next e he =>
    have hidle : t.bus.access ≠ .sending := fun hsend => by simp [Bus.waiter, hsend, Access.waits] at he
    refine .ite (fun _ => ?_) fun _ => h.waitOn (hK (k := .bus) trivial) e.id
    exact Reach.dropEntry (t := Machine.bump .deferDrop t) hK hleft (withoutId_waiting_of_idle hidle e.id)
      (h.bump (hK (k := .count) trivial) _)

theorem Reach.idleStep (hK : Admits K endings) (hleft : K (.left t.port.configured t.own)) (h : Reach K s t) :
    Reach K s (idleStep t) := by
  refine .ite (fun _ => h) fun _ => ?_
  have haged := h.ageRepeats (hK (k := .bus) trivial) RepeatRec.milli
  have hport : (Machine.ageRepeats RepeatRec.milli t).port = t.port := by simp only [Machine.ageRepeats]
  exact haged.waitMilli hK (by rw [State.own, hport]; exact hleft)

theorem Reach.collide (hK : Admits K endings) (hleft : K (.left t.port.configured t.own)) {e : TxEntry}
    (honline : onLineOf t.bus.queue = some e) (h : Reach K s t) : Reach K s (collide e t) := by
  obtain ⟨hmem, hon⟩ := onLineOf_mem honline
  have hall (hs : t.bus.Safe) := withoutId_all_waiting hs.line hmem hon
  refine .ite (fun _ => h.dropEntry hK hleft hall) fun _ => .ite (fun _ => ?_) fun _ =>
    h.backOff (hK (k := .bus) trivial) _ honline
  exact Reach.dropEntry (t := Machine.bump .contentionDrop t) hK hleft hall (h.bump (hK (k := .count) trivial) _)

theorem Reach.complete (hK : Admits K endings) (hleft : K (.left t.port.configured t.own)) {e : TxEntry}
    (honline : onLineOf t.bus.queue = some e) (h : Reach K s t) : Reach K s (complete e t) := by
  obtain ⟨hmem, hon⟩ := onLineOf_mem honline
  have hall (hs : t.bus.Safe) := withoutId_all_waiting hs.line hmem hon
  have hbus := hK (k := .bus) trivial
  have hcount := hK (k := .count) trivial
  have hsought : Reach K s (Machine.bump .noticesSent (Machine.seekLine { t with bus := { t.bus with
      queue := withoutId e.id t.bus.queue, lineBusy := false } })) := (h.dropSeek hbus e.id false hall).bump hcount _
  unfold Machine.complete completed
  refine .ite (fun _ => hsought) fun _ => .ite (fun _ => ?_) fun _ =>
    hsought.pageSent (hK (k := .page) trivial) (hK (k := .relay) trivial) e.id
  exact Reach.enterLeft (t := Machine.bump .noticesSent { t with bus := { t.bus with
    queue := withoutId e.id t.bus.queue, lineBusy := false } }) hleft ((h.dropFromQueue hbus e.id false hall).bump hcount _)

end Chains

end Sys2Proof.Machine

/-! SUPPORT. The report mailbox: the two banks, what a report made, a READ REPORTS and a FREE BANK do to them, and O22. -/

namespace Sys2Proof.Machine

/-! ### The two banks -/

theorem bank_cases (i : Fin 2) : i = 0 ∨ i = 1 := by omega

/-- Every bank is a given one or the other. -/
theorem eq_or_eq_other (i j : Fin 2) : j = i ∨ j = 1 - i := by omega

theorem other_ne (i : Fin 2) : 1 - i ≠ i := by omega

section Banks
variable (m : Mailbox) (i : Fin 2) (b : Bank)

@[simp] theorem setBank_bank_same : (m.setBank i b).bank i = b := by
  rcases bank_cases i with rfl | rfl <;> rfl

@[simp] theorem setBank_bank_other : (m.setBank i b).bank (1 - i) = m.bank (1 - i) := by
  rcases bank_cases i with rfl | rfl <;> rfl

@[simp] theorem setBank_other_bank : (m.setBank (1 - i) b).bank i = m.bank i := by
  rcases bank_cases i with rfl | rfl <;> rfl

@[simp] theorem setBank_fullOrder : (m.setBank i b).fullOrder = m.fullOrder := by
  unfold Mailbox.setBank
  split <;> rfl

@[simp] theorem setBank_nextNumber : (m.setBank i b).nextNumber = m.nextNumber := by
  unfold Mailbox.setBank
  split <;> rfl

end Banks

variable {m : Mailbox} {i : Fin 2}

/-- Both banks as a pair of statements about one and the other. -/
theorem forall_bank {p : Fin 2 → Prop} (i : Fin 2) : (∀ j, p j) ↔ p i ∧ p (1 - i) :=
  ⟨fun h => ⟨h _, h _⟩, fun ⟨hi, hj⟩ j => by rcases eq_or_eq_other i j with rfl | rfl <;> assumption⟩

theorem not_both_iff {st : BankState} (i : Fin 2) : m.bank0.state ≠ st ∨ m.bank1.state ≠ st ↔
    ¬((m.bank i).state = st ∧ (m.bank (1 - i)).state = st) := by
  rcases bank_cases i with rfl | rfl
  · exact (not_and_or).symm
  · exact or_comm.trans not_and_or.symm

theorem find_eq_some {st : BankState} (h : m.find st = some i) : (m.bank i).state = st := by
  unfold Mailbox.find at h
  split at h
  · cases h
    assumption
  · split at h <;> cases h
    assumption

theorem find_eq_none {st : BankState} : m.find st = none ↔ ∀ j, (m.bank j).state ≠ st := by
  rw [forall_bank 0]
  show _ ↔ m.bank0.state ≠ st ∧ m.bank1.state ≠ st
  unfold Mailbox.find
  split
  · simp_all
  · split <;> simp_all

/-- With one bank in a state and the other not, the search finds it. -/
theorem find_of_only {st : BankState} (h : (m.bank i).state = st) (hother : (m.bank (1 - i)).state ≠ st) :
    m.find st = some i := by
  rcases bank_cases i with rfl | rfl
  · exact if_pos h
  · exact (if_neg hother).trans (if_pos h)

/-! ### The form of a mailbox -/

/-- What R174 asks of one bank. -/
structure Bank.Fits (b : Bank) : Prop where
  size : b.reports.length ≤ 8
  full : b.state = .full → b.reports.length = 8
  notFull : b.state = .filling → b.reports.length < 8
  empty : b.state = .empty → b.reports = []

theorem MailboxSafe.fits (h : MailboxSafe m) (i : Fin 2) : (m.bank i).Fits := ⟨h.size i, h.full i, h.notFull i, h.empty i⟩

theorem MailboxSafe.mk_banks (i : Fin 2) (hfits : (m.bank i).Fits) (hother : (m.bank (1 - i)).Fits)
    (hfilling : ¬((m.bank i).state = .filling ∧ (m.bank (1 - i)).state = .filling))
    (hreading : ¬((m.bank i).state = .read ∧ (m.bank (1 - i)).state = .read))
    (horder : (i ∈ m.fullOrder ↔ (m.bank i).state = .full) ∧ (1 - i ∈ m.fullOrder ↔ (m.bank (1 - i)).state = .full))
    (honce : m.fullOrder.Nodup) : MailboxSafe m where
  filling := (not_both_iff i).mpr hfilling
  reading := (not_both_iff i).mpr hreading
  size := (forall_bank i).mpr ⟨hfits.size, hother.size⟩
  full := (forall_bank i).mpr ⟨hfits.full, hother.full⟩
  notFull := (forall_bank i).mpr ⟨hfits.notFull, hother.notFull⟩
  empty := (forall_bank i).mpr ⟨hfits.empty, hother.empty⟩
  order := (forall_bank i).mpr horder
  once := honce

theorem Bank.Fits.opened {b : Bank} (h : b.Fits) : b.opened.Fits := by
  unfold Bank.opened
  split
  · next hempty =>
    have hnil := h.empty hempty
    exact ⟨by simp [hnil], nofun, fun _ => by simp [hnil], nofun⟩
  · exact h

theorem opened_reports (b : Bank) : b.opened.reports = b.reports := by
  unfold Bank.opened
  split <;> rfl

theorem opened_state (b : Bank) : b.opened.state = if b.state = .empty then .filling else b.state := by
  unfold Bank.opened
  split <;> simp_all

/-! ### A report made (R175) -/

/-- R175: the bank that takes a report now made: the FILLING one, or else an EMPTY one, bank 0 first. -/
def Mailbox.TakesIn (m : Mailbox) (i : Fin 2) : Prop :=
  (m.bank i).state = .filling ∨
    ((m.bank i).state = .empty ∧ (m.bank (1 - i)).state ≠ .filling ∧ (i = 1 → (m.bank 0).state ≠ .empty))

/-- The bank a report goes in, once it is FILLING. -/
def Bank.filling (b : Bank) : Bank := { b with state := .filling }

/-- R175, step 1: the bank that takes the report is FILLING, and nothing else has changed. -/
theorem opened_of_takesIn (hs : MailboxSafe m) (h : m.TakesIn i) :
    m.opened.bank i = (m.bank i).filling ∧ m.opened.bank (1 - i) = m.bank (1 - i) ∧ m.opened.fullOrder = m.fullOrder ∧
      m.opened.nextNumber = m.nextNumber ∧ (m.bank (1 - i)).state ≠ .filling := by
  have hnot := (not_both_iff i).mp hs.filling
  rcases h with hfilling | ⟨hempty, hother, hfirst⟩
  · have hother : (m.bank (1 - i)).state ≠ .filling := fun hj => hnot ⟨hfilling, hj⟩
    have hopened : m.opened = m := by rw [Mailbox.opened, find_of_only hfilling hother]
    rw [hopened]
    exact ⟨by rw [Bank.filling, ← hfilling], rfl, rfl, rfl, hother⟩
  · have hnone : m.find .filling = none := find_eq_none.mpr
      ((forall_bank i).mpr ⟨by rw [hempty]; nofun, hother⟩)
    have hsome : m.find .empty = some i := by
      rcases bank_cases i with rfl | rfl
      · exact if_pos hempty
      · exact (if_neg (hfirst rfl)).trans (if_pos hempty)
    have hopened : m.opened = m.setBank i (m.bank i).filling := by
      rw [Mailbox.opened, hnone, hsome]
      exact congrArg (m.setBank i) (if_pos hempty)
    rw [hopened]
    exact ⟨by simp, by simp, by simp, by simp, hother⟩

/-- R175, steps 2 and 3: a mailbox whose bank `i` is FILLING, and with a number given, takes a report. -/
theorem put_eq (clock : Nat) (body : ReportBody) (hbank : m.opened.bank i = (m.bank i).filling)
    (hother : (m.opened.bank (1 - i)).state ≠ .filling) :
    let r : Report := { number := m.nextNumber, clock := clock, body := body }
    let m₁ : Mailbox := { m.opened with nextNumber := m.nextNumber + 1 }
    let b : Bank := { state := .filling, reports := (m.bank i).reports ++ [r] }
    m.put clock body =
      if (m.bank i).reports.length + 1 < 8 then m₁.setBank i b
      else { (m₁.setBank i { b with state := .full }).setBank (1 - i) (m.opened.bank (1 - i)).opened with
        fullOrder := m.opened.fullOrder ++ [i] } := by
  intro r m₁ b
  have hbank₁ : m₁.bank i = (m.bank i).filling := hbank
  have hfind : m₁.find .filling = some i := find_of_only (by rw [hbank₁]; rfl) hother
  unfold Mailbox.put
  dsimp only
  rw [show ({ m.opened with nextNumber := m.nextNumber + 1 } : Mailbox) = m₁ from rfl, hfind]
  dsimp only
  rw [hbank₁]
  simp only [Bank.filling, List.length_append, List.length_singleton, setBank_bank_other, setBank_fullOrder]
  rfl

theorem put_of_takesIn (hs : MailboxSafe m) (h : m.TakesIn i) (clock : Nat) (body : ReportBody) :
    let r : Report := { number := m.nextNumber, clock := clock, body := body }
    (m.put clock body).nextNumber = m.nextNumber + 1 ∧
    ((m.bank i).reports.length < 7 →
      (m.put clock body).bank i = { state := .filling, reports := (m.bank i).reports ++ [r] } ∧
      (m.put clock body).bank (1 - i) = m.bank (1 - i) ∧ (m.put clock body).fullOrder = m.fullOrder) ∧
    (7 ≤ (m.bank i).reports.length →
      (m.put clock body).bank i = { state := .full, reports := (m.bank i).reports ++ [r] } ∧
      (m.put clock body).bank (1 - i) = (m.bank (1 - i)).opened ∧ (m.put clock body).fullOrder = m.fullOrder ++ [i]) := by
  intro r
  obtain ⟨hbank, hbank', horder, hnumber, hother⟩ := opened_of_takesIn hs h
  have hput := put_eq clock body hbank (by rw [hbank']; exact hother)
  dsimp only at hput
  have hfull {x : Mailbox} {l : List (Fin 2)} (j : Fin 2) : ({ x with fullOrder := l } : Mailbox).bank j = x.bank j := rfl
  obtain ⟨m₁, hm₁⟩ : ∃ m₁, m₁ = ({ m.opened with nextNumber := m.nextNumber + 1 } : Mailbox) := ⟨_, rfl⟩
  have hother₁ : m₁.bank (1 - i) = m.bank (1 - i) := by rw [hm₁]; exact hbank'
  have horder₁ : m₁.fullOrder = m.fullOrder := by rw [hm₁]; exact horder
  have hnumber₁ : m₁.nextNumber = m.nextNumber + 1 := by rw [hm₁]
  rw [hput, ← hm₁]
  refine ⟨by split <;> simp [hnumber₁], fun hlt => ?_, fun hge => ?_⟩
  · rw [if_pos (by omega)]
    simp [hother₁, horder₁, r]
  · rw [if_neg (by omega)]
    exact ⟨(hfull (x := (m₁.setBank i _).setBank (1 - i) _) i).trans (by simp [r]),
      (hfull (x := (m₁.setBank i _).setBank (1 - i) _) (1 - i)).trans (by simp [hbank']), by simp [horder]⟩

/-- R175: with both banks FULL or READ a report is lost; otherwise some bank takes it. -/
theorem loses_iff : m.loses = true ↔ ∀ i, (m.bank i).state = .full ∨ (m.bank i).state = .read := by
  have hstates (st : BankState) : (st ≠ .filling ∧ st ≠ .empty) ↔ st = .full ∨ st = .read := by cases st <;> simp
  simp only [Mailbox.loses, Bool.and_eq_true, Option.isNone_iff_eq_none, find_eq_none, ← forall_and, hstates]

theorem takesIn_of_not_loses (h : m.loses = false) : ∃ i, m.TakesIn i := by
  cases hfilling : m.find .filling with
  | some i => exact ⟨i, .inl (find_eq_some hfilling)⟩
  | none =>
    cases hempty : m.find .empty with
    | none => simp [Mailbox.loses, hfilling, hempty] at h
    | some i =>
      refine ⟨i, .inr ⟨find_eq_some hempty, find_eq_none.mp hfilling _, fun hi h0 => ?_⟩⟩
      subst hi
      have hfirst : m.find .empty = some 0 := if_pos h0
      rw [hfirst] at hempty
      cases hempty

theorem not_loses_of_takesIn (h : m.TakesIn i) : m.loses = false := by
  rw [Bool.eq_false_iff, Ne, loses_iff]
  intro hall
  rcases h with h | ⟨h, -⟩ <;> rcases hall i with h' | h' <;> rw [h] at h' <;> cases h'

theorem put_of_loses (h : m.loses = true) (clock : Nat) (body : ReportBody) :
    m.put clock body = { m with nextNumber := m.nextNumber + 1 } := by
  simp only [Mailbox.loses, Bool.and_eq_true, Option.isNone_iff_eq_none] at h
  have hopened : m.opened = m := by rw [Mailbox.opened, h.1, h.2]
  unfold Mailbox.put
  dsimp only
  rw [hopened, show ({ m with nextNumber := m.nextNumber + 1 } : Mailbox).find .filling = none from h.1]

/-- R175: a mailbox keeps its form as a report is made. -/
theorem MailboxSafe.put (hs : MailboxSafe m) (clock : Nat) (body : ReportBody) : MailboxSafe (m.put clock body) := by
  cases hl : m.loses with
  | true =>
    rw [put_of_loses hl]
    exact ⟨hs.filling, hs.reading, hs.size, hs.full, hs.notFull, hs.empty, hs.order, hs.once⟩
  | false =>
    obtain ⟨i, hi⟩ := takesIn_of_not_loses hl
    obtain ⟨-, hroom, hlast⟩ := put_of_takesIn hs hi clock body
    have hother := (opened_of_takesIn hs hi).2.2.2.2
    have hnotfull : (m.bank i).state ≠ .full := by
      rcases hi with h | ⟨h, -⟩ <;> rw [h] <;> nofun
    have hlt : (m.bank i).reports.length < 8 := by
      rcases hi with h | ⟨h, -⟩
      · exact hs.notFull i h
      · simp [hs.empty i h]
    by_cases hlen : (m.bank i).reports.length < 7
    · obtain ⟨hb, hb', ho⟩ := hroom hlen
      refine .mk_banks i ?_ (hb' ▸ hs.fits _) (fun hj => hother (hb' ▸ hj.2)) (fun hj => by rw [hb] at hj; cases hj.1)
        ⟨?_, ?_⟩ (ho ▸ hs.once)
      · rw [hb]
        exact ⟨by simp; omega, nofun, fun _ => by simp; omega, nofun⟩
      · rw [ho, hb, hs.order i]
        simp [hnotfull]
      · rw [ho, hb', hs.order (1 - i)]
    · obtain ⟨hb, hb', ho⟩ := hlast (by omega)
      have hnotin : i ∉ m.fullOrder := fun hmem => hnotfull ((hs.order i).mp hmem)
      refine .mk_banks i ?_ (hb' ▸ (hs.fits _).opened) (fun hj => by rw [hb] at hj; cases hj.1)
        (fun hj => by rw [hb] at hj; cases hj.1) ⟨?_, ?_⟩ ?_
      · rw [hb]
        exact ⟨by simp; omega, fun _ => by simp; omega, nofun, nofun⟩
      · rw [ho, hb]
        simp
      · rw [ho, hb', opened_state, List.mem_append, List.mem_singleton, hs.order (1 - i)]
        have := other_ne i
        split <;> simp_all
      · rw [ho]
        exact hs.once.append (by simp) fun j hj hj' => hnotin (List.mem_singleton.mp hj' ▸ hj)

/-! ### READ REPORTS and FREE BANK (R177, R178) -/

theorem taken_of_read (hs : MailboxSafe m) (h : (m.bank i).state = .read) : m.taken = (some i, m) := by
  have hother : (m.bank (1 - i)).state ≠ .read := fun hj => (not_both_iff i).mp hs.reading ⟨h, hj⟩
  rw [Mailbox.taken, find_of_only h hother]

theorem taken_of_full (hread : ∀ j, (m.bank j).state ≠ .read) {rest : List (Fin 2)} (h : m.fullOrder = i :: rest) :
    m.taken = (some i, { m.setBank i { m.bank i with state := .read } with fullOrder := rest }) := by
  rw [Mailbox.taken, find_eq_none.mpr hread, h]

theorem taken_of_filling (hs : MailboxSafe m) (hread : ∀ j, (m.bank j).state ≠ .read) (hfull : m.fullOrder = [])
    (h : (m.bank i).state = .filling) (hreports : (m.bank i).reports ≠ []) :
    m.taken = (some i, (m.setBank i { m.bank i with state := .read }).setBank (1 - i) (m.bank (1 - i)).opened) := by
  have hother : (m.bank (1 - i)).state ≠ .filling := fun hj => (not_both_iff i).mp hs.filling ⟨h, hj⟩
  rw [Mailbox.taken, find_eq_none.mpr hread, hfull]
  dsimp only
  rw [find_of_only h hother]
  simp [hreports]

theorem taken_of_none (hread : ∀ j, (m.bank j).state ≠ .read) (hfull : m.fullOrder = [])
    (h : ∀ j, (m.bank j).state = .filling → (m.bank j).reports = []) : m.taken = (none, m) := by
  rw [Mailbox.taken, find_eq_none.mpr hread, hfull]
  dsimp only
  split
  · next i hi => simp [h i (find_eq_some hi)]
  · rfl

/-- What a READ REPORTS finds: a READ bank, a FULL one, a FILLING one with a report, or none. -/
theorem taken_cases (m : Mailbox) :
    (∃ i, (m.bank i).state = .read) ∨
      (∀ j, (m.bank j).state ≠ .read) ∧
        ((∃ i rest, m.fullOrder = i :: rest) ∨
          m.fullOrder = [] ∧
            ((∃ i, (m.bank i).state = .filling ∧ (m.bank i).reports ≠ []) ∨
              ∀ j, (m.bank j).state = .filling → (m.bank j).reports = [])) := by
  by_cases hread : ∃ i, (m.bank i).state = .read
  · exact .inl hread
  refine .inr ⟨not_exists.mp hread, ?_⟩
  cases hfull : m.fullOrder with
  | cons i rest => exact .inl ⟨i, rest, rfl⟩
  | nil =>
    refine .inr ⟨rfl, ?_⟩
    by_cases hfilling : ∃ i, (m.bank i).state = .filling ∧ (m.bank i).reports ≠ []
    · exact .inl hfilling
    · exact .inr fun j hj => by_contra fun hne => hfilling ⟨j, hj, hne⟩

/-- R177: a mailbox keeps its form as its reports are read. -/
theorem MailboxSafe.taken (hs : MailboxSafe m) : MailboxSafe m.taken.2 := by
  rcases taken_cases m with ⟨i, hi⟩ | ⟨hread, ⟨i, rest, hfull⟩ | ⟨hfull, ⟨i, hi, hne⟩ | hnone⟩⟩
  · rw [taken_of_read hs hi]
    exact hs
  · rw [taken_of_full hread hfull]
    have honce := hs.once
    rw [hfull, List.nodup_cons] at honce
    have hfits := hs.fits i
    have hb (j : Fin 2) : ({ m.setBank i { m.bank i with state := .read } with fullOrder := rest } : Mailbox).bank j =
        (m.setBank i { m.bank i with state := .read }).bank j := rfl
    have hrest := hs.order (1 - i)
    rw [hfull, List.mem_cons, or_iff_right (other_ne i)] at hrest
    refine .mk_banks i ?_ ?_ ?_ ?_ ⟨?_, ?_⟩ honce.2 <;> simp only [hb, setBank_bank_same, setBank_bank_other]
    · exact ⟨hfits.size, nofun, nofun, nofun⟩
    · exact hs.fits _
    · exact fun hj => by cases hj.1
    · exact fun hj => hread _ hj.2
    · exact ⟨fun hmem => absurd hmem honce.1, nofun⟩
    · exact hrest
  · rw [taken_of_filling hs hread hfull hi hne]
    have hfits := hs.fits i
    have hnotfull (j : Fin 2) : (m.bank j).state ≠ .full := fun hj => by
      have := (hs.order j).mpr hj
      rw [hfull] at this
      cases this
    have hstate : ((m.bank (1 - i)).opened.state = .filling → True) ∧ (m.bank (1 - i)).opened.state ≠ .read ∧
        (m.bank (1 - i)).opened.state ≠ .full := by
      rw [opened_state]
      split
      · exact ⟨fun _ => trivial, nofun, nofun⟩
      · exact ⟨fun _ => trivial, hread _, hnotfull _⟩
    refine .mk_banks i ?_ ?_ ?_ ?_ ⟨?_, ?_⟩ ?_ <;>
      simp only [setBank_bank_same, setBank_other_bank, setBank_fullOrder, hfull]
    · exact ⟨hfits.size, nofun, nofun, nofun⟩
    · exact (hs.fits _).opened
    · exact fun hj => by cases hj.1
    · exact fun hj => hstate.2.1 hj.2
    · exact ⟨nofun, nofun⟩
    · exact ⟨nofun, fun hj => absurd hj hstate.2.2⟩
    · exact List.nodup_nil
  · rw [taken_of_none hread hfull hnone]
    exact hs

theorem freed_of_read (hs : MailboxSafe m) (h : (m.bank i).state = .read) : m.freed = some (m.setBank i Bank.reset) := by
  have hother : (m.bank (1 - i)).state ≠ .read := fun hj => (not_both_iff i).mp hs.reading ⟨h, hj⟩
  rw [Mailbox.freed, find_of_only h hother]
  rfl

theorem freed_of_none (h : ∀ j, (m.bank j).state ≠ .read) : m.freed = none := by
  rw [Mailbox.freed, find_eq_none.mpr h]
  rfl

/-- R178: a mailbox keeps its form as a bank is freed. -/
theorem MailboxSafe.freed {m' : Mailbox} (h : m.freed = some m') (hs : MailboxSafe m) : MailboxSafe m' := by
  obtain ⟨i, hi, rfl⟩ := Option.map_eq_some_iff.mp h
  have hi := find_eq_some hi
  have hnotin : i ∉ m.fullOrder := fun hmem => by
    have := (hs.order i).mp hmem
    rw [hi] at this
    cases this
  refine .mk_banks i ?_ ?_ ?_ ?_ ⟨?_, ?_⟩ (by simpa using hs.once) <;>
    simp only [setBank_bank_same, setBank_bank_other, setBank_fullOrder]
  · exact ⟨Nat.zero_le _, nofun, nofun, fun _ => rfl⟩
  · exact hs.fits _
  · exact fun hj => by cases hj.1
  · exact fun hj => by cases hj.1
  · exact ⟨fun hmem => absurd hmem hnotin, nofun⟩
  · exact hs.order _

end Sys2Proof.Machine

namespace Sys2Proof.Proofs
open Sys2Proof.Machine

/-- What READ REPORTS leaves: its data, its result, and the mailbox with the number it had. -/
theorem execReadReports_eq (p : List Byte) {s : State} (hreset : s.inReset = false) :
    exec (.readReports p) s = .next (answerFrame s.statusByte
      (readOut 29 0 p (listBytes Report.bytes s.port.mailbox.returned)) .ok (setMailbox s.port.mailbox.taken.2 s)) := by
  show unlessReset s _ = _
  rw [unlessReset_of_not_inReset hreset, readFrame, if_pos (Nat.zero_le _)]

theorem readOut_zero (code : Byte) (p data : List Byte) : readOut code 0 p data = data.take p.length := rfl

theorem taken_nextNumber (m : Mailbox) : m.taken.2.nextNumber = m.nextNumber := by
  unfold Mailbox.taken
  repeat' split
  all_goals simp

theorem execFreeBank_eq {s : State} {m : Mailbox} (hup : s.isUp) (hfreed : s.port.mailbox.freed = some m) :
    exec (.freeBank []) s = .next (answerFrame s.statusByte [] .ok (setMailbox m s)) := by
  refine (unlessReset_writeFrame_of_isUp hup rfl _).trans ?_
  simp only [hfreed]

/-- Settles O22: the bank that takes a report, and the bank that is read or freed, case by case. -/
theorem reportMailbox : Obligations.ReportMailbox := by
  refine ⟨fun b s hs => ?_, fun p s hreset hs => ?_, fun s hup hs => ⟨fun i hi => ?_, fun hnone => ?_⟩⟩
  · refine ⟨rfl, ?_, fun hlost => ?_, fun i hi => ?_⟩
    · cases hl : s.port.mailbox.loses with
      | true => exact congrArg Mailbox.nextNumber (put_of_loses hl _ _)
      | false =>
        obtain ⟨i, hi⟩ := takesIn_of_not_loses hl
        exact (put_of_takesIn hs hi _ _).1
    · have hl := loses_iff.mpr hlost
      exact ⟨put_of_loses hl _ _, if_pos hl⟩
    · obtain ⟨-, hroom, hlast⟩ := put_of_takesIn hs hi s.course.clock b
      refine ⟨if_neg (by simp [not_loses_of_takesIn hi]), hroom, fun hlen => ?_⟩
      obtain ⟨hb, hb', ho⟩ := hlast hlen.ge
      refine ⟨hb, ho, hb'.trans ?_⟩
      unfold Bank.opened
      rfl
  · have hreturned {i : Fin 2} {m : Mailbox} (ht : s.port.mailbox.taken = (some i, m)) :
        s.port.mailbox.returned = (s.port.mailbox.bank i).reports := by rw [Mailbox.returned, ht]
    refine ⟨_, execReadReports_eq p hreset, rfl, ?_, fun i hi => ?_, fun hread => ⟨fun i rest hfull => ?_, fun hfull =>
      ⟨fun i hi hne => ?_, fun hnone => ?_⟩⟩⟩
    · have hnumber : s.port.mailbox.taken.2.nextNumber = s.port.mailbox.nextNumber := taken_nextNumber _
      simp only [answerFrame, setMailbox, ← hnumber]
    · have ht := taken_of_read hs hi
      simp only [answerFrame, setMailbox, readOut_zero, hreturned ht, ht, and_self]
    · have ht := taken_of_full hread hfull
      simp only [answerFrame, setMailbox, readOut_zero, hreturned ht, ht, true_and]
      exact ⟨setBank_bank_same _ _ _, setBank_bank_other _ _ _, trivial⟩
    · have ht := taken_of_filling hs hread hfull hi hne
      simp only [answerFrame, setMailbox, readOut_zero, hreturned ht, ht, true_and, setBank_other_bank, setBank_bank_same,
        setBank_fullOrder, hfull, and_true]
      rfl
    · have ht := taken_of_none hread hfull hnone
      have hempty : s.port.mailbox.returned = [] := by rw [Mailbox.returned, ht]
      simp only [answerFrame, setMailbox, readOut_zero, hempty, ht, and_true]
      rfl
  · have hfreed := freed_of_read hs hi
    refine ⟨_, execFreeBank_eq hup hfreed, rfl, setBank_bank_same _ _ _, setBank_bank_other _ _ _, by simp [answerFrame, setMailbox],
      by simp [answerFrame, setMailbox]⟩
  · have hfreed := freed_of_none hnone
    refine (unlessReset_writeFrame_of_isUp hup rfl _).trans ?_
    simp only [hfreed]
    rfl

end Sys2Proof.Proofs

/-! SUPPORT. What the operations on the whole station leave alone and what they leave behind, block by block: the grant, a change of
link, the runs cleared, entry to LEFT and RESTART. -/

namespace Sys2Proof.Machine

/-! ### The grant and the link -/

@[simp] theorem applyGrant_load (g : Nat) (s : State) : (applyGrant g s).load = { s.load with applied := g } := by
  rcases applyGrant_cases g s with ⟨-, h⟩ | ⟨-, h⟩ <;> rw [h]
  rfl

@[simp] theorem lowerGrant_load (m : Nat) (s : State) :
    (lowerGrant m s).load = { s.load with applied := min s.load.applied m } := by
  unfold lowerGrant
  split
  next h => simp [Nat.min_eq_right (Nat.le_of_lt h)]
  next h => simp [Nat.min_eq_left (Nat.le_of_not_lt h)]

@[simp] theorem followDemand_load (s : State) :
    (followDemand s).load = { s.load with applied := min s.load.applied s.declaredQ } := by
  simp [followDemand]

@[simp] theorem regrant_load (s : State) :
    (regrant s).load = { s.load with grant := s.stateGrant, applied := min s.load.applied s.stateGrant } := by
  simp [regrant, setGrant]

@[simp] theorem applyRamp_load (s : State) : (applyRamp s).load = { s.load with applied := s.load.ramped } := by
  simp [applyRamp]

/-- The state as a change of link leaves it for the heat block. -/
theorem relink_heat (l : LinkState) (s : State) :
    (relink l s).heat = (regrant (if l.heats then setLink l s else outputsOff (setLink l s))).heat := by
  simp [relink]

@[simp] theorem relink_bus (l : LinkState) (s : State) : (relink l s).bus = { s.bus with link := l } := by
  unfold relink
  split <;> simp [setLink, outputsOff, mapZones]

@[simp] theorem relink_pending (l : LinkState) (s : State) : (relink l s).pending = s.pending := by
  unfold relink; split <;> simp
@[simp] theorem relink_inReset (l : LinkState) (s : State) : (relink l s).inReset = s.inReset := by
  unfold relink; split <;> simp
@[simp] theorem relink_oe (l : LinkState) (s : State) : (relink l s).oe = s.oe := by
  unfold relink; split <;> simp
@[simp] theorem relink_prog (l : LinkState) (s : State) : (relink l s).prog = s.prog := by
  unfold relink; split <;> simp
@[simp] theorem relink_course (l : LinkState) (s : State) : (relink l s).course = s.course := by
  unfold relink; split <;> simp
@[simp] theorem relink_page (l : LinkState) (s : State) : (relink l s).page = s.page := by
  unfold relink; split <;> simp
@[simp] theorem relink_relay (l : LinkState) (s : State) : (relink l s).relay = s.relay := by
  unfold relink; split <;> simp
@[simp] theorem relink_heat_step (l : LinkState) (s : State) : (relink l s).heat.step = s.heat.step := by
  unfold relink; split <;> simp
@[simp] theorem relink_load_limit (l : LinkState) (s : State) : (relink l s).load.limit = s.load.limit := by
  unfold relink; split <;> simp
@[simp] theorem relink_load_reserve (l : LinkState) (s : State) : (relink l s).load.reserve = s.load.reserve := by
  unfold relink; split <;> simp
@[simp] theorem relink_load_weight (l : LinkState) (s : State) : (relink l s).load.weight = s.load.weight := by
  unfold relink; split <;> simp
@[simp] theorem relink_load_ramp (l : LinkState) (s : State) : (relink l s).load.ramp = s.load.ramp := by
  unfold relink; split <;> simp
@[simp] theorem relink_load_solo (l : LinkState) (s : State) : (relink l s).load.solo = s.load.solo := by
  unfold relink; split <;> simp
@[simp] theorem relink_load_safe (l : LinkState) (s : State) : (relink l s).load.safe = s.load.safe := by
  unfold relink; split <;> simp
@[simp] theorem relink_load_peers (l : LinkState) (s : State) : (relink l s).load.peers = s.load.peers := by
  unfold relink; split <;> simp
@[simp] theorem relink_load_expiryGrant (l : LinkState) (s : State) : (relink l s).load.expiryGrant = s.load.expiryGrant := by
  unfold relink; split <;> simp
@[simp] theorem relink_load_listenCount (l : LinkState) (s : State) : (relink l s).load.listenCount = s.load.listenCount := by
  unfold relink; split <;> simp
@[simp] theorem relink_load_clash (l : LinkState) (s : State) : (relink l s).load.clash = s.load.clash := by
  unfold relink; split <;> simp
@[simp] theorem relink_load_clashHeard (l : LinkState) (s : State) : (relink l s).load.clashHeard = s.load.clashHeard := by
  unfold relink; split <;> simp
@[simp] theorem relink_load_mismatch (l : LinkState) (s : State) : (relink l s).load.mismatch = s.load.mismatch := by
  unfold relink; split <;> simp
@[simp] theorem relink_load_curtailCount (l : LinkState) (s : State) : (relink l s).load.curtailCount = s.load.curtailCount := by
  unfold relink; split <;> simp
@[simp] theorem relink_load_curtailed (l : LinkState) (s : State) : (relink l s).load.curtailed = s.load.curtailed := by
  unfold relink; split <;> simp
@[simp] theorem relink_route_rules (l : LinkState) (s : State) : (relink l s).route.rules = s.route.rules := by
  unfold relink; split <;> simp
@[simp] theorem relink_route_evaluation (l : LinkState) (s : State) : (relink l s).route.evaluation = s.route.evaluation := by
  unfold relink; split <;> simp
@[simp] theorem relink_port_straps (l : LinkState) (s : State) : (relink l s).port.straps = s.port.straps := by
  unfold relink; split <;> simp
@[simp] theorem relink_port_configured (l : LinkState) (s : State) : (relink l s).port.configured = s.port.configured := by
  unfold relink; split <;> simp
@[simp] theorem relink_port_lastResult (l : LinkState) (s : State) : (relink l s).port.lastResult = s.port.lastResult := by
  unfold relink; split <;> simp
@[simp] theorem relink_port_dataOut (l : LinkState) (s : State) : (relink l s).port.dataOut = s.port.dataOut := by
  unfold relink; split <;> simp
@[simp] theorem relink_port_mailbox (l : LinkState) (s : State) : (relink l s).port.mailbox = s.port.mailbox := by
  unfold relink; split <;> simp
@[simp] theorem relink_port_mask (l : LinkState) (s : State) : (relink l s).port.mask = s.port.mask := by
  unfold relink; split <;> simp
@[simp] theorem relink_ware_washZone (l : LinkState) (s : State) : (relink l s).ware.washZone = s.ware.washZone := by
  unfold relink; split <;> simp
@[simp] theorem relink_ware_rinseZone (l : LinkState) (s : State) : (relink l s).ware.rinseZone = s.ware.rinseZone := by
  unfold relink; split <;> simp
@[simp] theorem relink_ware_sanMin (l : LinkState) (s : State) : (relink l s).ware.sanMin = s.ware.sanMin := by
  unfold relink; split <;> simp
@[simp] theorem relink_ware_washMin (l : LinkState) (s : State) : (relink l s).ware.washMin = s.ware.washMin := by
  unfold relink; split <;> simp
@[simp] theorem relink_ware_maxDwell (l : LinkState) (s : State) : (relink l s).ware.maxDwell = s.ware.maxDwell := by
  unfold relink; split <;> simp
@[simp] theorem relink_ware_high (l : LinkState) (s : State) : (relink l s).ware.high = s.ware.high := by
  unfold relink; split <;> simp
@[simp] theorem relink_ware_low (l : LinkState) (s : State) : (relink l s).ware.low = s.ware.low := by
  unfold relink; split <;> simp
@[simp] theorem relink_ware_enable (l : LinkState) (s : State) : (relink l s).ware.enable = s.ware.enable := by
  unfold relink; split <;> simp
@[simp] theorem relink_ware_waiting (l : LinkState) (s : State) : (relink l s).ware.waiting = s.ware.waiting := by
  unfold relink; split <;> simp
@[simp] theorem relink_ware_racks (l : LinkState) (s : State) : (relink l s).ware.racks = s.ware.racks := by
  unfold relink; split <;> simp
@[simp] theorem relink_ware_nextSeq (l : LinkState) (s : State) : (relink l s).ware.nextSeq = s.ware.nextSeq := by
  unfold relink; split <;> simp
@[simp] theorem relink_ware_heldLow (l : LinkState) (s : State) : (relink l s).ware.heldLow = s.ware.heldLow := by
  unfold relink; split <;> simp
@[simp] theorem relink_ware_levelHigh (l : LinkState) (s : State) : (relink l s).ware.levelHigh = s.ware.levelHigh := by
  unfold relink; split <;> simp
@[simp] theorem relink_ware_repeatCount (l : LinkState) (s : State) : (relink l s).ware.repeatCount = s.ware.repeatCount := by
  unfold relink; split <;> simp
@[simp] theorem relink_ware_wash (l : LinkState) (s : State) : (relink l s).ware.wash = s.ware.wash := by
  unfold relink; split <;> simp
@[simp] theorem relink_ware_subCause (l : LinkState) (s : State) : (relink l s).ware.subCause = s.ware.subCause := by
  unfold relink; split <;> simp

/-! ### The relay emptied -/

@[simp] theorem emptyRelay_pending (s : State) : (emptyRelay s).pending = s.pending := rfl
@[simp] theorem emptyRelay_inReset (s : State) : (emptyRelay s).inReset = s.inReset := rfl
@[simp] theorem emptyRelay_oe (s : State) : (emptyRelay s).oe = s.oe := rfl
@[simp] theorem emptyRelay_heat (s : State) : (emptyRelay s).heat = s.heat := rfl
@[simp] theorem emptyRelay_prog (s : State) : (emptyRelay s).prog = s.prog := rfl
@[simp] theorem emptyRelay_load (s : State) : (emptyRelay s).load = s.load := rfl
@[simp] theorem emptyRelay_bus (s : State) : (emptyRelay s).bus = s.bus := rfl
@[simp] theorem emptyRelay_course (s : State) : (emptyRelay s).course = s.course := rfl
@[simp] theorem emptyRelay_ware (s : State) : (emptyRelay s).ware = s.ware := rfl
@[simp] theorem emptyRelay_route (s : State) : (emptyRelay s).route = s.route := rfl
@[simp] theorem emptyRelay_page (s : State) : (emptyRelay s).page = s.page := rfl
@[simp] theorem emptyRelay_port (s : State) : (emptyRelay s).port = s.port := rfl

/-! ### Single fields -/

@[simp] theorem setEntry_pending (n : Fin 16) (x : Option Program) (s : State) : (setEntry n x s).pending = s.pending := rfl
@[simp] theorem setEntry_inReset (n : Fin 16) (x : Option Program) (s : State) : (setEntry n x s).inReset = s.inReset := rfl
@[simp] theorem setEntry_oe (n : Fin 16) (x : Option Program) (s : State) : (setEntry n x s).oe = s.oe := rfl
@[simp] theorem setEntry_heat (n : Fin 16) (x : Option Program) (s : State) : (setEntry n x s).heat = s.heat := rfl
@[simp] theorem setEntry_load (n : Fin 16) (x : Option Program) (s : State) : (setEntry n x s).load = s.load := rfl
@[simp] theorem setEntry_bus (n : Fin 16) (x : Option Program) (s : State) : (setEntry n x s).bus = s.bus := rfl
@[simp] theorem setEntry_course (n : Fin 16) (x : Option Program) (s : State) : (setEntry n x s).course = s.course := rfl
@[simp] theorem setEntry_ware (n : Fin 16) (x : Option Program) (s : State) : (setEntry n x s).ware = s.ware := rfl
@[simp] theorem setEntry_route (n : Fin 16) (x : Option Program) (s : State) : (setEntry n x s).route = s.route := rfl
@[simp] theorem setEntry_page (n : Fin 16) (x : Option Program) (s : State) : (setEntry n x s).page = s.page := rfl
@[simp] theorem setEntry_relay (n : Fin 16) (x : Option Program) (s : State) : (setEntry n x s).relay = s.relay := rfl
@[simp] theorem setEntry_port (n : Fin 16) (x : Option Program) (s : State) : (setEntry n x s).port = s.port := rfl
@[simp] theorem setEntry_prog_runs (n : Fin 16) (x : Option Program) (s : State) : (setEntry n x s).prog.runs = s.prog.runs := rfl
@[simp] theorem setEntry_prog_plates (n : Fin 16) (x : Option Program) (s : State) : (setEntry n x s).prog.plates = s.prog.plates := rfl
@[simp] theorem setEntry_prog_given (n : Fin 16) (x : Option Program) (s : State) : (setEntry n x s).prog.given = s.prog.given := rfl
@[simp] theorem setGroup_pending (g : GroupNo) (x : Group) (s : State) : (setGroup g x s).pending = s.pending := rfl
@[simp] theorem setGroup_inReset (g : GroupNo) (x : Group) (s : State) : (setGroup g x s).inReset = s.inReset := rfl
@[simp] theorem setGroup_oe (g : GroupNo) (x : Group) (s : State) : (setGroup g x s).oe = s.oe := rfl
@[simp] theorem setGroup_heat (g : GroupNo) (x : Group) (s : State) : (setGroup g x s).heat = s.heat := rfl
@[simp] theorem setGroup_prog (g : GroupNo) (x : Group) (s : State) : (setGroup g x s).prog = s.prog := rfl
@[simp] theorem setGroup_load (g : GroupNo) (x : Group) (s : State) : (setGroup g x s).load = s.load := rfl
@[simp] theorem setGroup_bus (g : GroupNo) (x : Group) (s : State) : (setGroup g x s).bus = s.bus := rfl
@[simp] theorem setGroup_course (g : GroupNo) (x : Group) (s : State) : (setGroup g x s).course = s.course := rfl
@[simp] theorem setGroup_ware (g : GroupNo) (x : Group) (s : State) : (setGroup g x s).ware = s.ware := rfl
@[simp] theorem setGroup_route (g : GroupNo) (x : Group) (s : State) : (setGroup g x s).route = s.route := rfl
@[simp] theorem setGroup_relay (g : GroupNo) (x : Group) (s : State) : (setGroup g x s).relay = s.relay := rfl
@[simp] theorem setGroup_port (g : GroupNo) (x : Group) (s : State) : (setGroup g x s).port = s.port := rfl
@[simp] theorem setGroup_page_pages (g : GroupNo) (x : Group) (s : State) : (setGroup g x s).page.pages = s.page.pages := rfl
@[simp] theorem setGroup_page_next (g : GroupNo) (x : Group) (s : State) : (setGroup g x s).page.next = s.page.next := rfl
@[simp] theorem setPair_pending (i : Fin 4) (x : Pair) (s : State) : (setPair i x s).pending = s.pending := rfl
@[simp] theorem setPair_inReset (i : Fin 4) (x : Pair) (s : State) : (setPair i x s).inReset = s.inReset := rfl
@[simp] theorem setPair_oe (i : Fin 4) (x : Pair) (s : State) : (setPair i x s).oe = s.oe := rfl
@[simp] theorem setPair_heat (i : Fin 4) (x : Pair) (s : State) : (setPair i x s).heat = s.heat := rfl
@[simp] theorem setPair_prog (i : Fin 4) (x : Pair) (s : State) : (setPair i x s).prog = s.prog := rfl
@[simp] theorem setPair_load (i : Fin 4) (x : Pair) (s : State) : (setPair i x s).load = s.load := rfl
@[simp] theorem setPair_bus (i : Fin 4) (x : Pair) (s : State) : (setPair i x s).bus = s.bus := rfl
@[simp] theorem setPair_course (i : Fin 4) (x : Pair) (s : State) : (setPair i x s).course = s.course := rfl
@[simp] theorem setPair_ware (i : Fin 4) (x : Pair) (s : State) : (setPair i x s).ware = s.ware := rfl
@[simp] theorem setPair_route (i : Fin 4) (x : Pair) (s : State) : (setPair i x s).route = s.route := rfl
@[simp] theorem setPair_page (i : Fin 4) (x : Pair) (s : State) : (setPair i x s).page = s.page := rfl
@[simp] theorem setPair_port (i : Fin 4) (x : Pair) (s : State) : (setPair i x s).port = s.port := rfl
@[simp] theorem setPair_relay_list (i : Fin 4) (x : Pair) (s : State) : (setPair i x s).relay.list = s.relay.list := rfl
@[simp] theorem setPair_relay_exchange (i : Fin 4) (x : Pair) (s : State) : (setPair i x s).relay.exchange = s.relay.exchange := rfl
@[simp] theorem setPair_relay_key (i : Fin 4) (x : Pair) (s : State) : (setPair i x s).relay.key = s.relay.key := rfl
@[simp] theorem setRule_pending (i : Fin 32) (r : Rule) (s : State) : (setRule i r s).pending = s.pending := rfl
@[simp] theorem setRule_inReset (i : Fin 32) (r : Rule) (s : State) : (setRule i r s).inReset = s.inReset := rfl
@[simp] theorem setRule_oe (i : Fin 32) (r : Rule) (s : State) : (setRule i r s).oe = s.oe := rfl
@[simp] theorem setRule_heat (i : Fin 32) (r : Rule) (s : State) : (setRule i r s).heat = s.heat := rfl
@[simp] theorem setRule_prog (i : Fin 32) (r : Rule) (s : State) : (setRule i r s).prog = s.prog := rfl
@[simp] theorem setRule_load (i : Fin 32) (r : Rule) (s : State) : (setRule i r s).load = s.load := rfl
@[simp] theorem setRule_bus (i : Fin 32) (r : Rule) (s : State) : (setRule i r s).bus = s.bus := rfl
@[simp] theorem setRule_course (i : Fin 32) (r : Rule) (s : State) : (setRule i r s).course = s.course := rfl
@[simp] theorem setRule_ware (i : Fin 32) (r : Rule) (s : State) : (setRule i r s).ware = s.ware := rfl
@[simp] theorem setRule_page (i : Fin 32) (r : Rule) (s : State) : (setRule i r s).page = s.page := rfl
@[simp] theorem setRule_relay (i : Fin 32) (r : Rule) (s : State) : (setRule i r s).relay = s.relay := rfl
@[simp] theorem setRule_port (i : Fin 32) (r : Rule) (s : State) : (setRule i r s).port = s.port := rfl
@[simp] theorem setRule_route_events (i : Fin 32) (r : Rule) (s : State) : (setRule i r s).route.events = s.route.events := rfl
@[simp] theorem setRule_route_evaluation (i : Fin 32) (r : Rule) (s : State) : (setRule i r s).route.evaluation = s.route.evaluation := rfl
@[simp] theorem nextStep_pending (s : State) : (nextStep s).pending = s.pending := rfl
@[simp] theorem nextStep_inReset (s : State) : (nextStep s).inReset = s.inReset := rfl
@[simp] theorem nextStep_oe (s : State) : (nextStep s).oe = s.oe := rfl
@[simp] theorem nextStep_prog (s : State) : (nextStep s).prog = s.prog := rfl
@[simp] theorem nextStep_load (s : State) : (nextStep s).load = s.load := rfl
@[simp] theorem nextStep_bus (s : State) : (nextStep s).bus = s.bus := rfl
@[simp] theorem nextStep_course (s : State) : (nextStep s).course = s.course := rfl
@[simp] theorem nextStep_ware (s : State) : (nextStep s).ware = s.ware := rfl
@[simp] theorem nextStep_route (s : State) : (nextStep s).route = s.route := rfl
@[simp] theorem nextStep_page (s : State) : (nextStep s).page = s.page := rfl
@[simp] theorem nextStep_relay (s : State) : (nextStep s).relay = s.relay := rfl
@[simp] theorem nextStep_port (s : State) : (nextStep s).port = s.port := rfl
@[simp] theorem nextStep_heat_zones (s : State) : (nextStep s).heat.zones = s.heat.zones := rfl
@[simp] theorem applyRamp_pending (s : State) : (applyRamp s).pending = s.pending := by
  simp [applyRamp]
@[simp] theorem applyRamp_inReset (s : State) : (applyRamp s).inReset = s.inReset := by
  simp [applyRamp]
@[simp] theorem applyRamp_oe (s : State) : (applyRamp s).oe = s.oe := by
  simp [applyRamp]
@[simp] theorem applyRamp_prog (s : State) : (applyRamp s).prog = s.prog := by
  simp [applyRamp]
@[simp] theorem applyRamp_bus (s : State) : (applyRamp s).bus = s.bus := by
  simp [applyRamp]
@[simp] theorem applyRamp_course (s : State) : (applyRamp s).course = s.course := by
  simp [applyRamp]
@[simp] theorem applyRamp_ware (s : State) : (applyRamp s).ware = s.ware := by
  simp [applyRamp]
@[simp] theorem applyRamp_route (s : State) : (applyRamp s).route = s.route := by
  simp [applyRamp]
@[simp] theorem applyRamp_page (s : State) : (applyRamp s).page = s.page := by
  simp [applyRamp]
@[simp] theorem applyRamp_relay (s : State) : (applyRamp s).relay = s.relay := by
  simp [applyRamp]
@[simp] theorem applyRamp_port (s : State) : (applyRamp s).port = s.port := by
  simp [applyRamp]
@[simp] theorem applyRamp_heat_step (s : State) : (applyRamp s).heat.step = s.heat.step := by
  simp [applyRamp]
@[simp] theorem setOe_pending (high : Bool) (s : State) : (setOe high s).pending = s.pending := by
  unfold setOe; split <;> simp
@[simp] theorem setOe_inReset (high : Bool) (s : State) : (setOe high s).inReset = s.inReset := by
  unfold setOe; split <;> simp
@[simp] theorem setOe_prog (high : Bool) (s : State) : (setOe high s).prog = s.prog := by
  unfold setOe; split <;> simp
@[simp] theorem setOe_load (high : Bool) (s : State) : (setOe high s).load = s.load := by
  unfold setOe; split <;> simp
@[simp] theorem setOe_bus (high : Bool) (s : State) : (setOe high s).bus = s.bus := by
  unfold setOe; split <;> simp
@[simp] theorem setOe_course (high : Bool) (s : State) : (setOe high s).course = s.course := by
  unfold setOe; split <;> simp
@[simp] theorem setOe_page (high : Bool) (s : State) : (setOe high s).page = s.page := by
  unfold setOe; split <;> simp
@[simp] theorem setOe_relay (high : Bool) (s : State) : (setOe high s).relay = s.relay := by
  unfold setOe; split <;> simp
@[simp] theorem setOe_heat_step (high : Bool) (s : State) : (setOe high s).heat.step = s.heat.step := by
  unfold setOe; split <;> simp
@[simp] theorem setOe_route_rules (high : Bool) (s : State) : (setOe high s).route.rules = s.route.rules := by
  unfold setOe; split <;> simp
@[simp] theorem setOe_route_evaluation (high : Bool) (s : State) : (setOe high s).route.evaluation = s.route.evaluation := by
  unfold setOe; split <;> simp
@[simp] theorem setOe_port_straps (high : Bool) (s : State) : (setOe high s).port.straps = s.port.straps := by
  unfold setOe; split <;> simp
@[simp] theorem setOe_port_configured (high : Bool) (s : State) : (setOe high s).port.configured = s.port.configured := by
  unfold setOe; split <;> simp
@[simp] theorem setOe_port_lastResult (high : Bool) (s : State) : (setOe high s).port.lastResult = s.port.lastResult := by
  unfold setOe; split <;> simp
@[simp] theorem setOe_port_dataOut (high : Bool) (s : State) : (setOe high s).port.dataOut = s.port.dataOut := by
  unfold setOe; split <;> simp
@[simp] theorem setOe_port_mailbox (high : Bool) (s : State) : (setOe high s).port.mailbox = s.port.mailbox := by
  unfold setOe; split <;> simp
@[simp] theorem setOe_port_mask (high : Bool) (s : State) : (setOe high s).port.mask = s.port.mask := by
  unfold setOe; split <;> simp
@[simp] theorem setOe_ware_washZone (high : Bool) (s : State) : (setOe high s).ware.washZone = s.ware.washZone := by
  unfold setOe; split <;> simp
@[simp] theorem setOe_ware_rinseZone (high : Bool) (s : State) : (setOe high s).ware.rinseZone = s.ware.rinseZone := by
  unfold setOe; split <;> simp
@[simp] theorem setOe_ware_sanMin (high : Bool) (s : State) : (setOe high s).ware.sanMin = s.ware.sanMin := by
  unfold setOe; split <;> simp
@[simp] theorem setOe_ware_washMin (high : Bool) (s : State) : (setOe high s).ware.washMin = s.ware.washMin := by
  unfold setOe; split <;> simp
@[simp] theorem setOe_ware_maxDwell (high : Bool) (s : State) : (setOe high s).ware.maxDwell = s.ware.maxDwell := by
  unfold setOe; split <;> simp
@[simp] theorem setOe_ware_high (high : Bool) (s : State) : (setOe high s).ware.high = s.ware.high := by
  unfold setOe; split <;> simp
@[simp] theorem setOe_ware_low (high : Bool) (s : State) : (setOe high s).ware.low = s.ware.low := by
  unfold setOe; split <;> simp
@[simp] theorem setOe_ware_enable (high : Bool) (s : State) : (setOe high s).ware.enable = s.ware.enable := by
  unfold setOe; split <;> simp
@[simp] theorem setOe_ware_waiting (high : Bool) (s : State) : (setOe high s).ware.waiting = s.ware.waiting := by
  unfold setOe; split <;> simp
@[simp] theorem setOe_ware_racks (high : Bool) (s : State) : (setOe high s).ware.racks = s.ware.racks := by
  unfold setOe; split <;> simp
@[simp] theorem setOe_ware_nextSeq (high : Bool) (s : State) : (setOe high s).ware.nextSeq = s.ware.nextSeq := by
  unfold setOe; split <;> simp
@[simp] theorem setOe_ware_heldLow (high : Bool) (s : State) : (setOe high s).ware.heldLow = s.ware.heldLow := by
  unfold setOe; split <;> simp
@[simp] theorem setOe_ware_levelHigh (high : Bool) (s : State) : (setOe high s).ware.levelHigh = s.ware.levelHigh := by
  unfold setOe; split <;> simp
@[simp] theorem setOe_ware_repeatCount (high : Bool) (s : State) : (setOe high s).ware.repeatCount = s.ware.repeatCount := by
  unfold setOe; split <;> simp
@[simp] theorem setOe_ware_wash (high : Bool) (s : State) : (setOe high s).ware.wash = s.ware.wash := by
  unfold setOe; split <;> simp
@[simp] theorem setOe_ware_subCause (high : Bool) (s : State) : (setOe high s).ware.subCause = s.ware.subCause := by
  unfold setOe; split <;> simp
@[simp] theorem addRec_pending (r : CourseRec) (s : State) : (addRec r s).pending = s.pending := by
  unfold addRec; (repeat' split) <;> rfl
@[simp] theorem addRec_inReset (r : CourseRec) (s : State) : (addRec r s).inReset = s.inReset := by
  unfold addRec; (repeat' split) <;> rfl
@[simp] theorem addRec_oe (r : CourseRec) (s : State) : (addRec r s).oe = s.oe := by
  unfold addRec; (repeat' split) <;> rfl
@[simp] theorem addRec_heat (r : CourseRec) (s : State) : (addRec r s).heat = s.heat := by
  unfold addRec; (repeat' split) <;> rfl
@[simp] theorem addRec_prog (r : CourseRec) (s : State) : (addRec r s).prog = s.prog := by
  unfold addRec; (repeat' split) <;> rfl
@[simp] theorem addRec_load (r : CourseRec) (s : State) : (addRec r s).load = s.load := by
  unfold addRec; (repeat' split) <;> rfl
@[simp] theorem addRec_bus (r : CourseRec) (s : State) : (addRec r s).bus = s.bus := by
  unfold addRec; (repeat' split) <;> rfl
@[simp] theorem addRec_ware (r : CourseRec) (s : State) : (addRec r s).ware = s.ware := by
  unfold addRec; (repeat' split) <;> rfl
@[simp] theorem addRec_route (r : CourseRec) (s : State) : (addRec r s).route = s.route := by
  unfold addRec; (repeat' split) <;> rfl
@[simp] theorem addRec_page (r : CourseRec) (s : State) : (addRec r s).page = s.page := by
  unfold addRec; (repeat' split) <;> rfl
@[simp] theorem addRec_relay (r : CourseRec) (s : State) : (addRec r s).relay = s.relay := by
  unfold addRec; (repeat' split) <;> rfl
@[simp] theorem addRec_port (r : CourseRec) (s : State) : (addRec r s).port = s.port := by
  unfold addRec; (repeat' split) <;> rfl
@[simp] theorem addRec_course_clock (r : CourseRec) (s : State) : (addRec r s).course.clock = s.course.clock := by
  unfold addRec; (repeat' split) <;> rfl
@[simp] theorem addRec_course_schedule (r : CourseRec) (s : State) : (addRec r s).course.schedule = s.course.schedule := by
  unfold addRec; (repeat' split) <;> rfl
@[simp] theorem addRec_course_clearing (r : CourseRec) (s : State) : (addRec r s).course.clearing = s.course.clearing := by
  unfold addRec; (repeat' split) <;> rfl
@[simp] theorem addRec_course_lateQuanta (r : CourseRec) (s : State) : (addRec r s).course.lateQuanta = s.course.lateQuanta := by
  unfold addRec; (repeat' split) <;> rfl
@[simp] theorem removeRec_pending (c : CourseNo) (s : State) : (removeRec c s).pending = s.pending := by
  unfold removeRec; split <;> rfl
@[simp] theorem removeRec_inReset (c : CourseNo) (s : State) : (removeRec c s).inReset = s.inReset := by
  unfold removeRec; split <;> rfl
@[simp] theorem removeRec_oe (c : CourseNo) (s : State) : (removeRec c s).oe = s.oe := by
  unfold removeRec; split <;> rfl
@[simp] theorem removeRec_heat (c : CourseNo) (s : State) : (removeRec c s).heat = s.heat := by
  unfold removeRec; split <;> rfl
@[simp] theorem removeRec_prog (c : CourseNo) (s : State) : (removeRec c s).prog = s.prog := by
  unfold removeRec; split <;> rfl
@[simp] theorem removeRec_load (c : CourseNo) (s : State) : (removeRec c s).load = s.load := by
  unfold removeRec; split <;> rfl
@[simp] theorem removeRec_bus (c : CourseNo) (s : State) : (removeRec c s).bus = s.bus := by
  unfold removeRec; split <;> rfl
@[simp] theorem removeRec_ware (c : CourseNo) (s : State) : (removeRec c s).ware = s.ware := by
  unfold removeRec; split <;> rfl
@[simp] theorem removeRec_route (c : CourseNo) (s : State) : (removeRec c s).route = s.route := by
  unfold removeRec; split <;> rfl
@[simp] theorem removeRec_page (c : CourseNo) (s : State) : (removeRec c s).page = s.page := by
  unfold removeRec; split <;> rfl
@[simp] theorem removeRec_relay (c : CourseNo) (s : State) : (removeRec c s).relay = s.relay := by
  unfold removeRec; split <;> rfl
@[simp] theorem removeRec_port (c : CourseNo) (s : State) : (removeRec c s).port = s.port := by
  unfold removeRec; split <;> rfl
@[simp] theorem removeRec_course_clock (c : CourseNo) (s : State) : (removeRec c s).course.clock = s.course.clock := by
  unfold removeRec; split <;> rfl
@[simp] theorem removeRec_course_schedule (c : CourseNo) (s : State) : (removeRec c s).course.schedule = s.course.schedule := by
  unfold removeRec; split <;> rfl
@[simp] theorem removeRec_course_clearing (c : CourseNo) (s : State) : (removeRec c s).course.clearing = s.course.clearing := by
  unfold removeRec; split <;> rfl
@[simp] theorem removeRec_course_lateQuanta (c : CourseNo) (s : State) : (removeRec c s).course.lateQuanta = s.course.lateQuanta := by
  unfold removeRec; split <;> rfl
@[simp] theorem configuredBy_pending (p : List Byte) (s : State) : (s.configuredBy p).pending = s.pending := rfl
@[simp] theorem configuredBy_inReset (p : List Byte) (s : State) : (s.configuredBy p).inReset = s.inReset := rfl
@[simp] theorem configuredBy_oe (p : List Byte) (s : State) : (s.configuredBy p).oe = s.oe := rfl
@[simp] theorem configuredBy_heat (p : List Byte) (s : State) : (s.configuredBy p).heat = s.heat := rfl
@[simp] theorem configuredBy_prog (p : List Byte) (s : State) : (s.configuredBy p).prog = s.prog := rfl
@[simp] theorem configuredBy_bus (p : List Byte) (s : State) : (s.configuredBy p).bus = s.bus := rfl
@[simp] theorem configuredBy_route (p : List Byte) (s : State) : (s.configuredBy p).route = s.route := rfl
@[simp] theorem configuredBy_page (p : List Byte) (s : State) : (s.configuredBy p).page = s.page := rfl
@[simp] theorem configuredBy_relay (p : List Byte) (s : State) : (s.configuredBy p).relay = s.relay := rfl
@[simp] theorem configuredBy_course_clock (p : List Byte) (s : State) : (s.configuredBy p).course.clock = s.course.clock := rfl
@[simp] theorem configuredBy_course_schedule (p : List Byte) (s : State) : (s.configuredBy p).course.schedule = s.course.schedule := rfl
@[simp] theorem configuredBy_course_board (p : List Byte) (s : State) : (s.configuredBy p).course.board = s.course.board := rfl
@[simp] theorem configuredBy_course_clearing (p : List Byte) (s : State) : (s.configuredBy p).course.clearing = s.course.clearing := rfl
@[simp] theorem configuredBy_load_peers (p : List Byte) (s : State) : (s.configuredBy p).load.peers = s.load.peers := rfl
@[simp] theorem configuredBy_load_applied (p : List Byte) (s : State) : (s.configuredBy p).load.applied = s.load.applied := rfl
@[simp] theorem configuredBy_load_expiryGrant (p : List Byte) (s : State) : (s.configuredBy p).load.expiryGrant = s.load.expiryGrant := rfl
@[simp] theorem configuredBy_port_straps (p : List Byte) (s : State) : (s.configuredBy p).port.straps = s.port.straps := rfl
@[simp] theorem configuredBy_port_mailbox (p : List Byte) (s : State) : (s.configuredBy p).port.mailbox = s.port.mailbox := rfl

/-! ### Runs cleared -/

@[simp] theorem clearRuns_pending (s : State) : (clearRuns s).pending = s.pending := by
  unfold clearRuns; exact foldl_keeps (fun s => s.pending) (fun s z => setRun z Run.idle s) (fun _ _ => by simp) zoneNos s
@[simp] theorem clearRuns_inReset (s : State) : (clearRuns s).inReset = s.inReset := by
  unfold clearRuns; exact foldl_keeps (fun s => s.inReset) (fun s z => setRun z Run.idle s) (fun _ _ => by simp) zoneNos s
@[simp] theorem clearRuns_oe (s : State) : (clearRuns s).oe = s.oe := by
  unfold clearRuns; exact foldl_keeps (fun s => s.oe) (fun s z => setRun z Run.idle s) (fun _ _ => by simp) zoneNos s
@[simp] theorem clearRuns_load (s : State) : (clearRuns s).load = s.load := by
  unfold clearRuns; exact foldl_keeps (fun s => s.load) (fun s z => setRun z Run.idle s) (fun _ _ => by simp) zoneNos s
@[simp] theorem clearRuns_bus (s : State) : (clearRuns s).bus = s.bus := by
  unfold clearRuns; exact foldl_keeps (fun s => s.bus) (fun s z => setRun z Run.idle s) (fun _ _ => by simp) zoneNos s
@[simp] theorem clearRuns_course (s : State) : (clearRuns s).course = s.course := by
  unfold clearRuns; exact foldl_keeps (fun s => s.course) (fun s z => setRun z Run.idle s) (fun _ _ => by simp) zoneNos s
@[simp] theorem clearRuns_ware (s : State) : (clearRuns s).ware = s.ware := by
  unfold clearRuns; exact foldl_keeps (fun s => s.ware) (fun s z => setRun z Run.idle s) (fun _ _ => by simp) zoneNos s
@[simp] theorem clearRuns_route (s : State) : (clearRuns s).route = s.route := by
  unfold clearRuns; exact foldl_keeps (fun s => s.route) (fun s z => setRun z Run.idle s) (fun _ _ => by simp) zoneNos s
@[simp] theorem clearRuns_page (s : State) : (clearRuns s).page = s.page := by
  unfold clearRuns; exact foldl_keeps (fun s => s.page) (fun s z => setRun z Run.idle s) (fun _ _ => by simp) zoneNos s
@[simp] theorem clearRuns_relay (s : State) : (clearRuns s).relay = s.relay := by
  unfold clearRuns; exact foldl_keeps (fun s => s.relay) (fun s z => setRun z Run.idle s) (fun _ _ => by simp) zoneNos s
@[simp] theorem clearRuns_port (s : State) : (clearRuns s).port = s.port := by
  unfold clearRuns; exact foldl_keeps (fun s => s.port) (fun s z => setRun z Run.idle s) (fun _ _ => by simp) zoneNos s
@[simp] theorem clearRuns_prog_table (s : State) : (clearRuns s).prog.table = s.prog.table := by
  unfold clearRuns; exact foldl_keeps (fun s => s.prog.table) (fun s z => setRun z Run.idle s) (fun _ _ => by simp) zoneNos s

@[simp] theorem setRun_heat_step (z : ZoneNo) (r : Run) (s : State) : (setRun z r s).heat.step = s.heat.step := by
  unfold setRun; dsimp only; split <;> rfl

@[simp] theorem clearRuns_heat_step (s : State) : (clearRuns s).heat.step = s.heat.step := by
  unfold clearRuns; exact foldl_keeps (fun s => s.heat.step) (fun s z => setRun z Run.idle s) (fun _ _ => by simp) zoneNos s

@[simp] theorem clearRuns_prog_plates (s : State) : (clearRuns s).prog.plates = Vector.replicate 16 0 := rfl
@[simp] theorem clearRuns_prog_given (s : State) : (clearRuns s).prog.given = Vector.replicate 16 none := rfl

/-- Setting runs to IDLE one by one leaves IDLE those that are. -/
theorem foldl_setRun_idle {y : ZoneNo} (zs : List ZoneNo) : ∀ s : State, y ∈ zs ∨ s.prog.runs[y] = Run.idle →
    (zs.foldl (fun s z => setRun z Run.idle s) s).prog.runs[y] = Run.idle := by
  induction zs with
  | nil => intro s h; exact h.resolve_left List.not_mem_nil
  | cons z zs ih =>
    intro s h
    refine ih _ ?_
    rw [setRun_runs]
    by_cases hz : z = y
    · exact .inr (if_pos hz)
    · rw [if_neg hz]
      exact h.imp_left fun hy => (List.mem_cons.1 hy).resolve_left fun heq => hz heq.symm

@[simp] theorem mem_zoneNos (z : ZoneNo) : z ∈ zoneNos := by
  revert z
  decide

@[simp] theorem clearRuns_prog_runs (s : State) (z : ZoneNo) : (clearRuns s).prog.runs[z] = Run.idle :=
  foldl_setRun_idle zoneNos s (.inl (mem_zoneNos z))

/-! ### Entry to LEFT and RESTART -/

@[simp] theorem clearBlocks_pending (s : State) : (clearBlocks s).pending = s.pending := by
  unfold clearBlocks; simp
@[simp] theorem clearBlocks_inReset (s : State) : (clearBlocks s).inReset = s.inReset := by
  unfold clearBlocks; simp
@[simp] theorem clearBlocks_oe (s : State) : (clearBlocks s).oe = s.oe := by
  unfold clearBlocks; simp
@[simp] theorem clearBlocks_bus (s : State) : (clearBlocks s).bus = s.bus := by
  unfold clearBlocks; simp
@[simp] theorem clearBlocks_route (s : State) : (clearBlocks s).route = s.route := by
  unfold clearBlocks; simp
@[simp] theorem clearBlocks_page (s : State) : (clearBlocks s).page = s.page := by
  unfold clearBlocks; simp
@[simp] theorem clearBlocks_relay (s : State) : (clearBlocks s).relay = s.relay := by
  unfold clearBlocks; simp
@[simp] theorem clearBlocks_port (s : State) : (clearBlocks s).port = s.port := by
  unfold clearBlocks; simp
@[simp] theorem clearBlocks_prog_table (s : State) : (clearBlocks s).prog.table = s.prog.table := by
  unfold clearBlocks; simp
@[simp] theorem clearBlocks_heat_step (s : State) : (clearBlocks s).heat.step = s.heat.step := by
  unfold clearBlocks; simp
@[simp] theorem clearBlocks_load (s : State) : (clearBlocks s).load = { s.load.cleared with applied := 0 } := by
  simp [clearBlocks]
@[simp] theorem clearBlocks_course (s : State) : (clearBlocks s).course = s.course.cleared := by
  simp [clearBlocks]
@[simp] theorem clearBlocks_ware (s : State) : (clearBlocks s).ware = s.ware.cleared := by
  simp [clearBlocks]
@[simp] theorem clearBlocks_prog_plates (s : State) : (clearBlocks s).prog.plates = Vector.replicate 16 0 := by
  simp [clearBlocks]
@[simp] theorem clearBlocks_prog_given (s : State) : (clearBlocks s).prog.given = Vector.replicate 16 none := by
  simp [clearBlocks]
@[simp] theorem clearBlocks_prog_runs (s : State) (z : ZoneNo) : (clearBlocks s).prog.runs[z] = Run.idle := by
  unfold clearBlocks
  rw [applyGrant_prog]
  exact clearRuns_prog_runs s z

@[simp] theorem enterLeft_pending (s : State) : (enterLeft s).pending = s.pending := by
  simp [enterLeft, emptyRelay, emptyRoute, Relay.idle]
@[simp] theorem enterLeft_inReset (s : State) : (enterLeft s).inReset = s.inReset := by
  simp [enterLeft, emptyRelay, emptyRoute, Relay.idle]
@[simp] theorem enterLeft_oe (s : State) : (enterLeft s).oe = s.oe := by
  simp [enterLeft, emptyRelay, emptyRoute, Relay.idle]
@[simp] theorem enterLeft_prog_table (s : State) : (enterLeft s).prog.table = s.prog.table := by
  simp [enterLeft, emptyRelay, emptyRoute, Relay.idle]
@[simp] theorem enterLeft_heat_step (s : State) : (enterLeft s).heat.step = s.heat.step := by
  simp [enterLeft, emptyRelay, emptyRoute, Relay.idle]
@[simp] theorem enterLeft_port_straps (s : State) : (enterLeft s).port.straps = s.port.straps := by
  simp [enterLeft, emptyRelay, emptyRoute, Relay.idle]
@[simp] theorem enterLeft_port_configured (s : State) : (enterLeft s).port.configured = s.port.configured := by
  simp [enterLeft, emptyRelay, emptyRoute, Relay.idle]
@[simp] theorem enterLeft_port_lastResult (s : State) : (enterLeft s).port.lastResult = s.port.lastResult := by
  simp [enterLeft, emptyRelay, emptyRoute, Relay.idle]
@[simp] theorem enterLeft_port_dataOut (s : State) : (enterLeft s).port.dataOut = s.port.dataOut := by
  simp [enterLeft, emptyRelay, emptyRoute, Relay.idle]
@[simp] theorem enterLeft_port_mailbox (s : State) : (enterLeft s).port.mailbox = s.port.mailbox := by
  simp [enterLeft, emptyRelay, emptyRoute, Relay.idle]
@[simp] theorem enterLeft_port_mask (s : State) : (enterLeft s).port.mask = s.port.mask := by
  simp [enterLeft, emptyRelay, emptyRoute, Relay.idle]
@[simp] theorem enterLeft_port_counters (s : State) : (enterLeft s).port.counters = s.port.counters := by
  simp [enterLeft, emptyRelay, emptyRoute, Relay.idle]
@[simp] theorem enterLeft_route_rules (s : State) : (enterLeft s).route.rules = s.route.rules := by
  simp [enterLeft, emptyRelay, emptyRoute, Relay.idle]
@[simp] theorem enterLeft_page_groups (s : State) : (enterLeft s).page.groups = s.page.groups := by
  simp [enterLeft, emptyRelay, emptyRoute, Relay.idle]
@[simp] theorem enterLeft_page_next (s : State) : (enterLeft s).page.next = s.page.next := by
  simp [enterLeft, emptyRelay, emptyRoute, Relay.idle]
@[simp] theorem enterLeft_relay_pairs (s : State) : (enterLeft s).relay.pairs = s.relay.pairs := by
  simp [enterLeft, emptyRelay, emptyRoute, Relay.idle]
@[simp] theorem enterLeft_bus (s : State) : (enterLeft s).bus = { s.bus with
    link := .left, queue := [], access := .empty, repeats := Vector.replicate 32 none,
    startMissed := s.bus.deafened.startMissed } := by
  simp [enterLeft]
@[simp] theorem enterLeft_load (s : State) : (enterLeft s).load = { s.load.cleared with applied := 0 } := by
  simp [enterLeft]
@[simp] theorem enterLeft_course (s : State) : (enterLeft s).course = s.course.cleared := by
  simp [enterLeft]
@[simp] theorem enterLeft_ware (s : State) : (enterLeft s).ware = s.ware.cleared := by
  simp [enterLeft]
@[simp] theorem enterLeft_page (s : State) : (enterLeft s).page = { s.page with pages := [] } := by
  simp [enterLeft]
@[simp] theorem enterLeft_route (s : State) : (enterLeft s).route = { s.route with events := [], evaluation := none } := by
  simp [enterLeft, emptyRoute]
@[simp] theorem enterLeft_relay (s : State) : (enterLeft s).relay = { s.relay.idle with list := [] } := by
  simp [enterLeft, emptyRelay]
@[simp] theorem enterLeft_prog_plates (s : State) : (enterLeft s).prog.plates = Vector.replicate 16 0 := by
  simp [enterLeft]
@[simp] theorem enterLeft_prog_given (s : State) : (enterLeft s).prog.given = Vector.replicate 16 none := by
  simp [enterLeft]
@[simp] theorem enterLeft_prog_runs (s : State) (z : ZoneNo) : (enterLeft s).prog.runs[z] = Run.idle := by
  unfold enterLeft
  rw [latch_prog, emptyRelay_prog, emptyRoute_prog]
  exact clearBlocks_prog_runs _ z

@[simp] theorem restartBlocks_pending (s : State) : (restartBlocks s).pending = s.pending := by
  simp [restartBlocks, restartZones, emptyRelay, emptyRoute, Relay.idle, Port.restarted]
@[simp] theorem restartBlocks_inReset (s : State) : (restartBlocks s).inReset = s.inReset := by
  simp [restartBlocks, restartZones, emptyRelay, emptyRoute, Relay.idle, Port.restarted]
@[simp] theorem restartBlocks_oe (s : State) : (restartBlocks s).oe = s.oe := by
  simp [restartBlocks, restartZones, emptyRelay, emptyRoute, Relay.idle, Port.restarted]
@[simp] theorem restartBlocks_prog_table (s : State) : (restartBlocks s).prog.table = s.prog.table := by
  simp [restartBlocks, restartZones, emptyRelay, emptyRoute, Relay.idle, Port.restarted]
@[simp] theorem restartBlocks_heat_step (s : State) : (restartBlocks s).heat.step = s.heat.step := by
  simp [restartBlocks, restartZones, emptyRelay, emptyRoute, Relay.idle, Port.restarted]
@[simp] theorem restartBlocks_port_straps (s : State) : (restartBlocks s).port.straps = s.port.straps := by
  simp [restartBlocks, restartZones, emptyRelay, emptyRoute, Relay.idle, Port.restarted]
@[simp] theorem restartBlocks_port_configured (s : State) : (restartBlocks s).port.configured = s.port.configured := by
  simp [restartBlocks, restartZones, emptyRelay, emptyRoute, Relay.idle, Port.restarted]
@[simp] theorem restartBlocks_port_lastResult (s : State) : (restartBlocks s).port.lastResult = s.port.lastResult := by
  simp [restartBlocks, restartZones, emptyRelay, emptyRoute, Relay.idle, Port.restarted]
@[simp] theorem restartBlocks_port_dataOut (s : State) : (restartBlocks s).port.dataOut = s.port.dataOut := by
  simp [restartBlocks, restartZones, emptyRelay, emptyRoute, Relay.idle, Port.restarted]
@[simp] theorem restartBlocks_port_mask (s : State) : (restartBlocks s).port.mask = s.port.mask := by
  simp [restartBlocks, restartZones, emptyRelay, emptyRoute, Relay.idle, Port.restarted]
@[simp] theorem restartBlocks_port_counters (s : State) : (restartBlocks s).port.counters = s.port.counters := by
  simp [restartBlocks, restartZones, emptyRelay, emptyRoute, Relay.idle, Port.restarted]
@[simp] theorem restartBlocks_route_rules (s : State) : (restartBlocks s).route.rules = s.route.rules := by
  simp [restartBlocks, restartZones, emptyRelay, emptyRoute, Relay.idle, Port.restarted]
@[simp] theorem restartBlocks_page_groups (s : State) : (restartBlocks s).page.groups = s.page.groups := by
  simp [restartBlocks, restartZones, emptyRelay, emptyRoute, Relay.idle, Port.restarted]
@[simp] theorem restartBlocks_page_next (s : State) : (restartBlocks s).page.next = s.page.next := by
  simp [restartBlocks, restartZones, emptyRelay, emptyRoute, Relay.idle, Port.restarted]
@[simp] theorem restartBlocks_relay_pairs (s : State) : (restartBlocks s).relay.pairs = s.relay.pairs := by
  simp [restartBlocks, restartZones, emptyRelay, emptyRoute, Relay.idle, Port.restarted]
@[simp] theorem restartBlocks_bus (s : State) : (restartBlocks s).bus = s.bus.restarted := by
  simp [restartBlocks, restartZones]
@[simp] theorem restartBlocks_load (s : State) :
    (restartBlocks s).load = { s.load.cleared with applied := 0, listenCount := 0 } := by
  simp [restartBlocks, restartZones]
@[simp] theorem restartBlocks_course (s : State) : (restartBlocks s).course = s.course.cleared := by
  simp [restartBlocks, restartZones]
@[simp] theorem restartBlocks_ware (s : State) : (restartBlocks s).ware = s.ware.cleared := by
  simp [restartBlocks, restartZones]
@[simp] theorem restartBlocks_page (s : State) : (restartBlocks s).page = { s.page with pages := [] } := by
  simp [restartBlocks, restartZones]
@[simp] theorem restartBlocks_route (s : State) :
    (restartBlocks s).route = { s.route with events := [], evaluation := none } := by
  simp [restartBlocks, restartZones, emptyRoute]
@[simp] theorem restartBlocks_relay (s : State) : (restartBlocks s).relay = { s.relay.idle with list := [] } := by
  simp [restartBlocks, restartZones, emptyRelay]
@[simp] theorem restartBlocks_port (s : State) : (restartBlocks s).port = s.port.restarted := by
  simp [restartBlocks, restartZones]
@[simp] theorem restartBlocks_prog_plates (s : State) : (restartBlocks s).prog.plates = Vector.replicate 16 0 := by
  simp [restartBlocks, restartZones]
@[simp] theorem restartBlocks_prog_given (s : State) : (restartBlocks s).prog.given = Vector.replicate 16 none := by
  simp [restartBlocks, restartZones]
@[simp] theorem restartBlocks_prog_runs (s : State) (z : ZoneNo) : (restartBlocks s).prog.runs[z] = Run.idle := by
  have hprog : (restartBlocks s).prog = (clearBlocks { s with bus := s.bus.restarted }).prog := by
    simp [restartBlocks, restartZones]
  rw [hprog]
  exact clearBlocks_prog_runs _ z

end Sys2Proof.Machine

/-! SUPPORT. What the operations on the heat block do to each zone: its settings and samples stand, and but at a window start and the
setting of the outputs its output is on only where it was, at a step that its plan keeps. -/

namespace Sys2Proof.Machine

/-- The settings and the samples of a zone, which no allotment, plan or output moves. -/
structure Zone.Alike (a b : Zone) : Prop where
  rating : b.rating = a.rating
  band : b.band = a.band
  limit : b.limit = a.limit
  floor : b.floor = a.floor
  probeFitted : b.probeFitted = a.probeFitted
  temp : b.temp = a.temp
  probe : b.probe = a.probe
  age : b.age = a.age
  isOver : b.isOver = a.isOver

/-- A zone whose output is on only where it was, the step in progress staying in its plan then. -/
structure Zone.Stays (step : Nat) (a b : Zone) : Prop where
  alike : a.Alike b
  on : b.on = true → a.on = true
  plan : b.on = true → step ∈ a.plan → step ∈ b.plan

section Zones
variable {a b c : Zone} {step : Nat} {s t : State}

theorem Zone.Alike.refl (a : Zone) : a.Alike a := ⟨rfl, rfl, rfl, rfl, rfl, rfl, rfl, rfl, rfl⟩

theorem Zone.Alike.trans (h : a.Alike b) (h' : b.Alike c) : a.Alike c :=
  ⟨h'.rating.trans h.rating, h'.band.trans h.band, h'.limit.trans h.limit, h'.floor.trans h.floor,
    h'.probeFitted.trans h.probeFitted, h'.temp.trans h.temp, h'.probe.trans h.probe, h'.age.trans h.age,
    h'.isOver.trans h.isOver⟩

theorem Zone.Alike.stale (h : a.Alike b) : b.stale = a.stale := by rw [Zone.stale, Zone.stale, h.age]

theorem Zone.Alike.demand (h : a.Alike b) (r : Run) : b.demand r = a.demand r := by
  rw [Zone.demand, Zone.demand, h.stale, h.rating, h.isOver, h.temp, h.band]

theorem Zone.Alike.freshAtLeast (h : a.Alike b) (least : Nat) : b.freshAtLeast least = a.freshAtLeast least := by
  rw [Zone.freshAtLeast, Zone.freshAtLeast, h.stale, h.temp]

theorem Zone.Stays.refl (step : Nat) (a : Zone) : a.Stays step a := ⟨.refl a, id, fun _ => id⟩

theorem Zone.Stays.trans (h : a.Stays step b) (h' : b.Stays step c) : a.Stays step c :=
  ⟨h.alike.trans h'.alike, fun hc => h.on (h'.on hc), fun hc hp => h'.plan hc (h.plan (h'.on hc) hp)⟩

/-- A zone that is off stays so. -/
theorem Zone.Stays.of_off (halike : a.Alike b) (hoff : b.on = false) : a.Stays step b :=
  ⟨halike, fun hon => by simp [hoff] at hon, fun hon => by simp [hoff] at hon⟩

theorem Zone.leaves_alike (a : Zone) (step : Nat) : a.Alike (a.leaves step) := ⟨rfl, rfl, rfl, rfl, rfl, rfl, rfl, rfl, rfl⟩

theorem Zone.leaves_stays (a : Zone) (step : Nat) : a.Stays step (a.leaves step) := .of_off (a.leaves_alike step) rfl

/-- R18: the plan steps begun stay. -/
theorem Zone.replan_stays (a : Zone) (step allot : Nat) : a.Stays step (a.replan step allot) :=
  ⟨⟨rfl, rfl, rfl, rfl, rfl, rfl, rfl, rfl, rfl⟩, id, fun _ hp =>
    List.mem_append_left _ (List.mem_filter.mpr ⟨hp, by simp⟩)⟩

/-! ### Zone by zone -/

@[simp] theorem mapZones_zone (f : ZoneNo → Zone → Zone) (s : State) (z : ZoneNo) :
    (mapZones f s).heat.zones[z] = f z s.heat.zones[z] := by
  simp [mapZones]

theorem mapZone_zone (z y : ZoneNo) (f : Zone → Zone) (s : State) :
    (mapZone z f s).heat.zones[y] = if z = y then f s.heat.zones[z] else s.heat.zones[y] := zones_set _ _ _ _

theorem setRun_zone (z y : ZoneNo) (r : Run) (s : State) : (setRun z r s).heat.zones[y] =
    if z = y ∧ s.prog.runs[z].state.active = true ∧ r.state.active = false then s.heat.zones[y].leaves s.heat.step
    else s.heat.zones[y] := by
  unfold setRun
  cases hold : s.prog.runs[z].state.active <;> cases hnew : r.state.active <;> simp
  refine (zones_set _ _ _ _).trans ?_
  split
  next h => rw [h]
  · rfl

theorem reallot_zone (g : Nat) (s : State) (z : ZoneNo) :
    (reallot g s).heat.zones[z] = s.heat.zones[z].replan s.heat.step ((s.allotments g).getD z 0) := by
  simp [reallot]

theorem windowStart_zone (s : State) (z : ZoneNo) : (windowStart s).heat.zones[z] =
    { s.heat.zones[z] with
      allot := (s.allotments s.load.applied).getD z 0
      plan := planFor z (s.heat.zones[z].steps ((s.allotments s.load.applied).getD z 0)) } := by
  simp [windowStart]

theorem setRun_stays (z y : ZoneNo) (r : Run) (s : State) :
    s.heat.zones[y].Stays s.heat.step (setRun z r s).heat.zones[y] := by
  rw [setRun_zone]
  split
  · exact Zone.leaves_stays _ _
  · exact .refl _ _

theorem outputsOff_stays (s : State) (z : ZoneNo) : s.heat.zones[z].Stays s.heat.step (outputsOff s).heat.zones[z] := by
  rw [outputsOff, mapZones_zone]
  exact .of_off ⟨rfl, rfl, rfl, rfl, rfl, rfl, rfl, rfl, rfl⟩ rfl

theorem applyGrant_stays (g : Nat) (s : State) (z : ZoneNo) :
    s.heat.zones[z].Stays s.heat.step (applyGrant g s).heat.zones[z] := by
  rcases applyGrant_cases g s with ⟨-, h⟩ | ⟨-, h⟩ <;> rw [h]
  · exact .refl _ _
  · rw [reallot_zone]
    exact Zone.replan_stays _ _ _

theorem lowerGrant_stays (m : Nat) (s : State) (z : ZoneNo) :
    s.heat.zones[z].Stays s.heat.step (lowerGrant m s).heat.zones[z] := by
  unfold lowerGrant
  split
  · exact applyGrant_stays m s z
  · exact .refl _ _

theorem regrant_stays (s : State) (z : ZoneNo) : s.heat.zones[z].Stays s.heat.step (regrant s).heat.zones[z] :=
  lowerGrant_stays _ (setGrant s.stateGrant s) z

theorem windowStart_alike (s : State) (z : ZoneNo) : s.heat.zones[z].Alike (windowStart s).heat.zones[z] := by
  rw [windowStart_zone]
  exact ⟨rfl, rfl, rfl, rfl, rfl, rfl, rfl, rfl, rfl⟩

theorem setOutputs_alike (s : State) (z : ZoneNo) : s.heat.zones[z].Alike (setOutputs s).heat.zones[z] := by
  rw [setOutputs, mapZones_zone]
  exact ⟨rfl, rfl, rfl, rfl, rfl, rfl, rfl, rfl, rfl⟩

theorem clearRuns_stays (s : State) (z : ZoneNo) : s.heat.zones[z].Stays s.heat.step (clearRuns s).heat.zones[z] := by
  have hfold : ∀ (zs : List ZoneNo) (u : State), u.heat.step = s.heat.step → s.heat.zones[z].Stays s.heat.step u.heat.zones[z] →
      s.heat.zones[z].Stays s.heat.step (zs.foldl (fun s z => setRun z Run.idle s) u).heat.zones[z] := by
    intro zs
    induction zs with
    | nil => exact fun _ _ h => h
    | cons y zs ih =>
      intro u hstep h
      refine ih _ ((setRun_heat_step _ _ _).trans hstep) (h.trans ?_)
      rw [← hstep]
      exact setRun_stays _ _ _ _
  exact hfold zoneNos s rfl (.refl _ _)

theorem clearBlocks_stays (s : State) (z : ZoneNo) : s.heat.zones[z].Stays s.heat.step (clearBlocks s).heat.zones[z] := by
  refine (clearRuns_stays s z).trans ?_
  have hleft : (clearRuns s).heat.zones[z].Stays s.heat.step
      (mapZones (fun _ zn => zn.leaves s.heat.step) (clearRuns s)).heat.zones[z] := by
    rw [mapZones_zone]
    exact Zone.leaves_stays _ _
  have hgranted := applyGrant_stays 0 { mapZones (fun _ zn => zn.leaves s.heat.step) (clearRuns s) with
    load := (mapZones (fun _ zn => zn.leaves s.heat.step) (clearRuns s)).load.cleared
    course := (mapZones (fun _ zn => zn.leaves s.heat.step) (clearRuns s)).course.cleared
    ware := (mapZones (fun _ zn => zn.leaves s.heat.step) (clearRuns s)).ware.cleared } z
  rw [mapZones_heat_step, clearRuns_heat_step] at hgranted
  exact hleft.trans hgranted

theorem relink_stays (l : LinkState) (s : State) (z : ZoneNo) : s.heat.zones[z].Stays s.heat.step (relink l s).heat.zones[z] := by
  rw [relink_heat]
  split
  · exact regrant_stays (setLink l s) z
  · exact (outputsOff_stays (setLink l s) z).trans (regrant_stays (outputsOff (setLink l s)) z)

theorem setOe_stays (high : Bool) (s : State) (z : ZoneNo) : s.heat.zones[z].Stays s.heat.step (setOe high s).heat.zones[z] := by
  unfold setOe
  dsimp only
  rw [evalConveyor_heat]
  split
  · exact .refl _ _
  · exact outputsOff_stays { s with oe := high } z

theorem enterLeft_heat (s : State) : (enterLeft s).heat = (clearBlocks { s with bus := { s.bus with
    link := .left, queue := [], access := .empty, repeats := Vector.replicate 32 none,
    startMissed := s.bus.deafened.startMissed } }).heat := by
  simp [enterLeft]

theorem enterLeft_stays (s : State) (z : ZoneNo) : s.heat.zones[z].Stays s.heat.step (enterLeft s).heat.zones[z] := by
  rw [enterLeft_heat]
  have h := clearBlocks_stays { s with bus := { s.bus with
    link := .left, queue := [], access := .empty, repeats := Vector.replicate 32 none,
    startMissed := s.bus.deafened.startMissed } } z
  exact h

theorem restartBlocks_zone (s : State) (z : ZoneNo) : (restartBlocks s).heat.zones[z] =
    { (clearBlocks { s with bus := s.bus.restarted }).heat.zones[z] with
      age := 6, isOver := (clearBlocks { s with bus := s.bus.restarted }).heat.zones[z].overTest } := by
  have hheat : (restartBlocks s).heat = (restartZones (emptyRelay (emptyRoute (clearBlocks { s with bus := s.bus.restarted })))).heat := rfl
  rw [hheat, restartZones, mapZones_zone]
  rfl

end Zones

end Sys2Proof.Machine

/-! SUPPORT. The operations of the heat and program blocks and the tick as chains of moves. -/

namespace Sys2Proof.Machine

section Chains
variable {K : Kind → Prop} {s t : State}

/-! ### Samples, ages and settings of one zone -/

theorem Reach.sampleZone {z : ZoneNo} (hK : K (.sample z)) {zn : Zone} (hstep : ZoneStep t.heat.zones[z] zn)
    (h : Reach K s t) : Reach K s (mapZone z (fun _ => zn) t) := h.tail hK (.sample z zn t hstep)

theorem ageZone_step (zn : Zone) (step : Nat) :
    ZoneStep zn (if zn.aged.stale ∧ !zn.stale then zn.aged.leaves step else zn.aged) := by
  have hage : zn.aged.age ≤ 6 := Nat.min_le_left _ _
  split
  · exact ⟨fun _ => hage, nofun⟩
  · next hnot =>
    refine ⟨fun _ => hage, fun hon => ⟨hon, rfl, fun hfresh => ?_, id⟩⟩
    simpa [hfresh] using hnot

theorem Reach.ageZone (z : ZoneNo) (hK : K (.sample z)) (h : Reach K s t) : Reach K s (ageZone z t) :=
  h.sampleZone hK (ageZone_step _ _)

theorem storeSample_step (zn : Zone) (temp : Int) (probe : Option Int) (step : Nat) :
    ZoneStep zn (if (zn.sampled temp probe).isOver ∧ !zn.isOver then (zn.sampled temp probe).leaves step
      else zn.sampled temp probe) := by
  split
  · exact ⟨fun _ => Nat.zero_le _, nofun⟩
  · next hnot =>
    refine ⟨fun _ => Nat.zero_le _, fun hon => ⟨hon, rfl, fun _ => rfl, fun hcool => ?_⟩⟩
    simpa [hcool] using hnot

theorem Reach.storeSample (x : ZoneNo × Int × Option Int) (hK : K (.sample x.1)) (h : Reach K s t) :
    Reach K s (storeSample x t) := h.sampleZone hK (storeSample_step _ _ _ _)

theorem withSettings_step (zn : Zone) (x : ZoneSettings) (step : Nat) :
    ZoneStep zn (if x.rating ≠ zn.rating ∨ ((zn.withSettings x).isOver ∧ !zn.isOver) then (zn.withSettings x).leaves step
      else zn.withSettings x) := by
  split
  · exact ⟨id, nofun⟩
  · next hnot =>
    refine ⟨id, fun hon => ⟨hon, rfl, id, fun hcool => ?_⟩⟩
    simpa [hcool] using (not_or.mp hnot).2

theorem Reach.setZone (x : ZoneSettings) (z : ZoneNo) (hK : K (.settings z)) (h : Reach K s t) : Reach K s (setZone x z t) := by
  refine h.tail hK (.settings z _ t (withSettings_step _ _ _) ?_)
  split <;> exact ⟨rfl, rfl⟩

/-! ### Runs -/

theorem Reach.sampleStage {z : ZoneNo} (hrun : K (.run z)) (hevent : K .event) (h : Reach K s t) :
    Reach K s (sampleStage z t) := by
  unfold Machine.sampleStage
  dsimp only
  split
  · next hactive _ =>
    refine .ite (fun _ => h.enterStage hrun hevent (.inl fun hidle => ?_)) fun _ => h
    rw [hidle] at hactive
    cases hactive
  · exact h

theorem Reach.overZones {zs : List ZoneNo} {f : ZoneNo → State → State} (hf : ∀ z u, Reach K s u → Reach K s (f z u))
    (h : Reach K s t) : Reach K s (overZones zs f t) := h.foldl fun z _ u hu => hf z u hu

/-- What changes of runs are made of. -/
def running : Kind → Prop
  | .run _ => True
  | k => reacts k

theorem running_admits_reacts (hK : Admits K running) : Admits K reacts := fun k hk =>
  hK (by cases k <;> first | exact hk | trivial)

/-- A run's tick and what the course block takes of it. -/
theorem Reach.tickDerived {z : ZoneNo} (hK : Admits K running) (h : Reach K s t) :
    Reach K s (Machine.deriveAll (Machine.tickRun z t)) :=
  (h.tickRun (hK (k := .run z) trivial) (hK (k := .event) trivial)).deriveAll (running_admits_reacts hK)

theorem Reach.runTick {z : ZoneNo} (hK : Admits K running) (hgrant : K .grant) (h : Reach K s t) : Reach K s (runTick z t) :=
  (h.tickDerived hK).followDemand hgrant

/-! ### Several zones -/

theorem Reach.ageZones (hsample : ∀ z, K (.sample z)) (hrun : ∀ z, K (.run z)) (hevent : K .event) (h : Reach K s t) :
    Reach K s (ageZones t) :=
  (h.foldl fun z _ _ hu => hu.ageZone z (hsample z)).foldl fun z _ _ hu => hu.faultCheck (hrun z) hevent

theorem Reach.zonesChanged (hK : Admits K reacts) (hgrant : K .grant) (hdrive : K .drive) (h : Reach K s t) :
    Reach K s (zonesChanged t) := ((h.deriveAll hK).followDemand hgrant).evalConveyor hdrive

/-- A ZONE SET up to the following of the demand. -/
theorem Reach.zonesSet (hK : Admits K running) (hset : ∀ z, K (.settings z)) (x : ZoneSettings) (zs : List ZoneNo)
    (h : Reach K s t) :
    Reach K s (Machine.deriveAll (Machine.overZones zs Machine.faultCheck (Machine.overZones zs (Machine.setZone x) t))) :=
  Reach.deriveAll (running_admits_reacts hK)
    (Reach.overZones (fun z _ hu => hu.faultCheck (hK (k := .run z) trivial) (hK (k := .event) trivial))
      (h.overZones fun z _ hu => hu.setZone x z (hset z)))

/-- A SAMPLE up to the following of the demand. -/
theorem Reach.samplesTaken (hK : Admits K running) (hsample : ∀ z, K (.sample z)) (xs : List (ZoneNo × Int × Option Int))
    (h : Reach K s t) :
    Reach K s (Machine.deriveAll (Machine.overZones (xs.map (·.1)) sampleRun (xs.foldl (fun s x => Machine.storeSample x s) t))) := by
  have hevent := hK (k := .event) trivial
  refine Reach.deriveAll (running_admits_reacts hK) (Reach.overZones (fun z _ hu => ?_)
    (h.foldl fun x _ _ hu => hu.storeSample x (hsample x.1)))
  exact (hu.faultCheck (hK (k := .run z) trivial) hevent).sampleStage (hK (k := .run z) trivial) hevent

/-- The selected runs of an ASSIGN, at a station whose link lets it be taken. -/
theorem Reach.assignRuns {zs : List ZoneNo} {c : CourseNo} {n : Fin 16} {body : Program} {fired : Bool}
    (hrun : ∀ z, K (.run z)) (hevent : K .event) (hlink : t.bus.link ≠ .monitor) (h : Reach K s t) :
    Reach K s (Machine.overZones zs (assignRun c n body fired) t) ∧
      (Machine.overZones zs (assignRun c n body fired) t).bus.link = t.bus.link := by
  refine foldl_inv (P := fun u => Reach K s u ∧ u.bus.link = t.bus.link) _ (fun u z ⟨hu, hul⟩ => ⟨?_, ?_⟩) zs t ⟨h, rfl⟩
  · have hset : Reach K s (Machine.setRun z (Run.fresh c n body) u) := hu.setRun (hrun z) (.inr (.inr (hul ▸ hlink)))
    refine .ite (fun _ => hset.enterStage (hrun z) hevent (.inl ?_)) fun _ => hset
    rw [setRun_runs, if_pos rfl]
    nofun
  · exact (congrArg Steady.link (assignRun_steady c n body fired z u)).trans hul

/-- An ASSIGN up to the following of the demand. -/
theorem Reach.assigned {zs : List ZoneNo} {c : CourseNo} {n : Fin 16} {body : Program} {fired : Bool}
    (hK : Admits K (firesWith c)) (hlink : t.bus.link ≠ .monitor) (h : Reach K s t) :
    Reach K s (Machine.derive c (Machine.overZones zs (assignRun c n body fired) (Machine.ensureRec c t))) := by
  have hreacts := firesWith_admits_reactsOn hK
  have hmade := h.ensureRec hreacts (hK (k := .add c) rfl)
  have hkept : (Machine.ensureRec c t).bus.link = t.bus.link := congrArg Steady.link (ensureRec_steady c t)
  exact Reach.derive hreacts
    (hmade.assignRuns (fun z => hK (k := .run z) trivial) (hK (k := .event) trivial) (hkept ▸ hlink)).1

/-- An ABORT up to the following of the demand. -/
theorem Reach.aborted (hK : Admits K running) (zs : List ZoneNo) (cs : List CourseNo) (h : Reach K s t) :
    Reach K s (cs.foldl (fun s c => Machine.derive c s) (Machine.overZones zs (fun z => Machine.setRun z Run.idle) t)) :=
  Reach.foldl (fun _ _ _ hu => hu.derive fun _ hk => running_admits_reacts hK (reactsOn_le_reacts hk))
    (h.overZones fun z _ hu => hu.setRun (hK (k := .run z) trivial) (.inr (.inl rfl)))

theorem Reach.setPlates {c : CourseNo} (hK : Admits K (reactsOn c)) (hplates : K .plates) {n : Nat} (hn : n ≤ 4000)
    (h : Reach K s t) : Reach K s (setPlates c n t) := Reach.derive hK (h.tail hplates (.plates c n t hn))

theorem Reach.setEntry (hK : K .table) (n : Fin 16) (x : Option Program) (h : Reach K s t) : Reach K s (setEntry n x t) :=
  h.tail hK (.table n x t)

theorem Reach.writeProgram (hK : K .table) (p : List Byte) (h : Reach K s t) : Reach K s (writeProgram p t).1 := by
  unfold Machine.writeProgram
  (repeat' split) <;> first | exact h | exact h.setEntry hK _ _

/-! ### Step boundaries and the tick -/

/-- A step boundary up to the outputs: the ages, the faults, the demand followed, and a window start's plans. -/
theorem Reach.stepBegun (hstep : K .step) (hsample : ∀ z, K (.sample z)) (hrun : ∀ z, K (.run z)) (hevent : K .event)
    (hbus : K .bus) (h : Reach K s t) : Reach K s (Machine.ageZones (nextStep (Machine.ageRepeats RepeatRec.half t))) :=
  Reach.ageZones hsample hrun hevent ((h.ageRepeats hbus RepeatRec.half).tail hstep (.nextStep _))

theorem Reach.outputsSet (hstep : K .step) (h : Reach K s t) :
    Reach K s (setOutputs (if t.heat.step = 0 then windowStart t else t)) :=
  Reach.tail (.ite (fun _ => h.tail hstep (.window t)) fun _ => h) hstep (.outputs _)

theorem Reach.stepBoundary (hK : Admits K running) (hstep : K .step) (hsample : ∀ z, K (.sample z)) (hbus : K .bus)
    (hgrant : K .grant) (hdrive : K .drive) (h : Reach K s t) : Reach K s (stepBoundary t) :=
  (((h.stepBegun hstep hsample (fun z => hK (k := .run z) trivial) (hK (k := .event) trivial) hbus).followDemand
    hgrant).outputsSet hstep).zonesChanged (running_admits_reacts hK) hgrant hdrive

theorem Reach.programTick (hK : Admits K running) {before : State} (h : Reach K s t) : Reach K s (programTick before t) :=
  Reach.deriveAll (running_admits_reacts hK) (h.foldl fun z _ _ hu =>
    .ite (fun _ => hu.tickRun (hK (k := .run z) trivial) (hK (k := .event) trivial)) fun _ => hu)

/-- What a tick is made of besides the fire orders of the schedule's entries. -/
def ticks : Kind → Prop
  | .run _ | .bus | .grant => True
  | k => boardWork k ∨ rackWork k ∨ escalations k

theorem Reach.serviceTick (hK : Admits K ticks)
    (hfire : ∀ u, Reach K s u → ∀ e ∈ u.course.schedule, Admits K (firesWith e.course)) (h : Reach K s t) :
    Reach K s (serviceTick t) := by
  have hboard : Admits K boardWork := fun k hk => hK (by cases k <;> first | exact .inl hk | trivial)
  have hracks : Admits K rackWork := fun k hk => hK (by cases k <;> first | exact .inr (.inl hk) | trivial)
  have hpages : Admits K escalations := fun k hk => hK (by cases k <;> first | exact .inr (.inr hk) | trivial)
  have hruns : Admits K running := fun k hk => hK (by cases k <;> first | exact .inl hk | trivial)
  have haged := h.ageRepeats (hK (k := .bus) trivial) RepeatRec.tick
  exact (((haged.courseTick hboard hfire).programTick hruns).followDemand (hK (k := .grant) trivial)).wareTick hracks
    |>.pageTick hpages

end Chains

end Sys2Proof.Machine

/-! SUPPORT. How a condition is shown to be kept by moves: on the single moves first, then on the release of a course and the entry to
LEAVING, which are chains of those. -/

namespace Sys2Proof.Machine

/-- A move that is not one of the two that are chains besides. -/
def Kind.single : Kind → Prop
  | .release _ | .leaving => False
  | _ => True

/-- Kinds closed under taking the two compound moves apart. -/
structure Whole (K : Kind → Prop) : Prop where
  release : ∀ c, K (.release c) → Admits K (releases c)
  leaving : K .leaving → Admits K leavings

theorem single_of_releases {c : CourseNo} : Admits Kind.single (releases c) := by
  intro k hk
  cases k <;> first | trivial | exact hk

theorem single_of_leavings : Admits Kind.single leavings := by
  intro k hk
  cases k <;> first | trivial | exact hk

section Keeps
variable {P : State → Prop} {K : Kind → Prop} {k : Kind} {s t : State}

/-- A condition that the admitted single moves keep is kept by every admitted move. -/
theorem Whole.keeps (hK : Whole K) (hP : ∀ {k s t}, k.single → K k → Move k s t → P s → P t) (hk : K k) (hmove : Move k s t)
    (hs : P s) : P t := by
  by_cases hsingle : k.single
  · exact hP hsingle hk hmove hs
  cases hmove
  case release r st isLocal hstate hrec =>
    exact (releaseRec_reach st isLocal hrec hstate).keeps (fun hr => hP (single_of_releases hr) (hK.release _ hk hr)) hs
  case leaving hlink hconf =>
    exact (enterLeaving_reach hlink hconf).keeps (fun hl => hP (single_of_leavings hl) (hK.leaving hk hl)) hs
  all_goals exact absurd trivial hsingle

/-- A condition that the admitted single moves keep is kept along a chain. -/
theorem Reach.keepsWhole (hK : Whole K) (hP : ∀ {k s t}, k.single → K k → Move k s t → P s → P t) (h : Reach K s t)
    (hs : P s) : P t := h.keeps (fun hk hmove => hK.keeps hP hk hmove) hs

theorem whole_true : Whole fun _ => True := ⟨fun _ _ _ _ => trivial, fun _ _ _ => trivial⟩

end Keeps

/-! ### The schedule's entries -/

/-- The courses and the times of the fire schedule's entries (R83). -/
def EntriesFit (s : State) : Prop := ∀ e ∈ s.course.schedule, e.course ≠ 0 ∧ e.time ≤ 86399

theorem EntriesFit.same {s t : State} (h : EntriesFit s) (heq : t.course.schedule = s.course.schedule) : EntriesFit t := by
  unfold EntriesFit
  rwa [heq]

theorem entriesFit_of_nil {s : State} (h : s.course.schedule = []) : EntriesFit s := by
  simp [EntriesFit, h]

theorem Move.entriesFit {k : Kind} {s t : State} (hk : k.single) (hmove : Move k s t) (hs : EntriesFit s) : EntriesFit t := by
  cases hmove
  case schedule l h => exact fun e he => (h.1 e he).elim (hs e) id
  case left | restart => exact entriesFit_of_nil (by simp [Course.cleared])
  case released => exact entriesFit_of_nil rfl
  case release | leaving => exact hk.elim
  all_goals
    refine hs.same ?_
    simp

theorem Reach.entriesFit {K : Kind → Prop} {s t : State} (h : Reach K s t) (hs : EntriesFit s) : EntriesFit t :=
  (h.mono (K' := fun _ => True) fun _ _ => trivial).keepsWhole whole_true (fun hk _ => Move.entriesFit hk) hs

end Sys2Proof.Machine

/-! SUPPORT. Every command, and so every step, as a chain of moves of the kinds its rule allows. -/

namespace Sys2Proof.Machine

/-! ### The kinds a command may use -/

/-- What any command may bring about. -/
def Basic : Kind → Prop
  | .add _ | .request _ | .left _ _ | .run _ | .done _ | .sample _ | .settings _ | .step | .enable | .ramp | .oe | .reset
  | .configure | .unpeer | .leaving | .restart => False
  | .link l => l ≠ .leaving
  | _ => True

/-- The commands that set runs apart from a release. -/
def setsRuns : Instr → Bool
  | .assign _ | .fire _ | .abort _ | .setClock _ | .zoneSet _ | .sample _ | .stepBoundary | .windowStart | .sampleStale _
  | .timedStageEnd _ | .zoneLate _ | .holdOver _ | .courseHeard .. | .serviceClockTick | .scheduleEntryFires _ => true
  | _ => false

/-- The commands by which zones take samples or age. -/
def setsSamples : Instr → Bool
  | .sample _ | .stepBoundary | .windowStart | .sampleStale _ => true
  | _ => false

/-- The commands by which peers are lost. -/
def losesPeers : Instr → Bool
  | .leaveHeard .. | .peerAgedOut _ | .loadPeriodExpiry => true
  | _ => false

/-- What a command may bring about in a state, beyond what any may. -/
def Allowed (s : State) (c : Instr) : Kind → Prop
  | .add d => TablesSafe s → d ≠ 0
  | .request n => PagesSafe s → 1 ≤ n ∧ n ≤ 7
  | .left configured own =>
    ((s.port.configured = false → s.bus.queue = []) → configured = true) ∧ (RecordsSafe s → own ≠ 0)
  | .run _ => setsRuns c = true
  | .sample _ => setsSamples c = true
  | .step => c = .stepBoundary ∨ c = .windowStart
  | .settings _ => ∃ p, c = .zoneSet p
  | .enable => ∃ p, c = .wareSet p
  | .ramp => c = .loadPeriodExpiry
  | .oe => ∃ high, c = .oeInterlockChange high
  | .reset => c = .resetAsserted ∨ ∃ straps, c = .resetReleased straps
  | .configure => ∃ p, c = .configure p
  | .unpeer => losesPeers c = true
  | .leaving => ∃ p, c = .withdraw p
  | .restart => ∃ p, c = .restart p
  | k => Basic k

section Sets
variable {s : State} {c : Instr}

theorem allowed_of_basic : Admits (Allowed s c) Basic := by
  intro k hk
  cases k <;> first | exact hk | exact hk.elim

theorem basic_of_reacts : Admits Basic reacts := by intro k hk; cases k <;> first | exact hk | trivial
theorem basic_of_wares : Admits Basic wares := by intro k hk; cases k <;> first | exact hk | trivial
theorem basic_of_rackWork : Admits Basic rackWork := by intro k hk; cases k <;> first | exact hk | trivial
theorem basic_of_escalations : Admits Basic escalations := by intro k hk; cases k <;> first | exact hk | trivial
theorem basic_of_endings : Admits Basic endings := by intro k hk; cases k <;> first | exact hk | trivial
theorem basic_of_boardWork : Admits Basic boardWork := by intro k hk; cases k <;> first | exact hk | trivial

theorem basic_of_relinks : Admits Basic relinks := by
  intro k hk
  cases k <;> first | exact hk | trivial | (rcases hk with rfl | rfl <;> nofun)

theorem basic_of_loads : Admits Basic loads := by
  intro k hk
  cases k <;> first | exact hk | trivial | exact basic_of_relinks hk

theorem Admits.trans {K L M : Kind → Prop} (h : Admits K L) (h' : Admits L M) : Admits K M := fun _ hk => h (h' hk)

theorem allowed_of_reactsOn {d : CourseNo} : Admits (Allowed s c) (reactsOn d) := fun _ hk =>
  allowed_of_basic (basic_of_reacts (reactsOn_le_reacts hk))

theorem allowed_of_running (hc : setsRuns c = true) : Admits (Allowed s c) running := by
  intro k hk
  cases k <;> first | exact hc | exact hk | trivial

theorem allowed_of_firesWith {d : CourseNo} (hc : setsRuns c = true) (hd : TablesSafe s → d ≠ 0) :
    Admits (Allowed s c) (firesWith d) := by
  intro k hk
  cases k
  case run => exact hc
  case add => exact fun hs => hk ▸ hd hs
  all_goals first | exact hk | trivial

theorem allowed_of_losses (hc : losesPeers c = true) : Admits (Allowed s c) losses := by
  intro k hk
  cases k
  case unpeer => exact hc
  case load => trivial
  all_goals exact allowed_of_basic (hk.elim (fun hk => basic_of_relinks hk) fun hk => basic_of_reacts hk)

theorem allowed_of_requests {n : Nat} (hn : PagesSafe s → 1 ≤ n ∧ n ≤ 7) : Admits (Allowed s c) (requests n) := by
  intro k hk
  cases k
  case request => exact fun hs => hk ▸ hn hs
  all_goals first | exact hk | trivial

theorem allowed_of_ticks (hc : setsRuns c = true) : Admits (Allowed s c) ticks := by
  intro k hk
  cases k
  case run => exact hc
  case bus | grant => trivial
  all_goals exact allowed_of_basic (hk.elim (fun hk => basic_of_boardWork hk) fun hk =>
    hk.elim (fun hk => basic_of_rackWork hk) fun hk => basic_of_escalations hk)

end Sets

/-! ### Frames and other shared forms -/

section Chains
variable {K : Kind → Prop} {s t u : State}

theorem Reach.setPort (hK : K .port) {p : Port} (hp : PortStep t.port p) (h : Reach K s t) : Reach K s { t with port := p } :=
  h.tail hK (.port p t hp)

theorem Reach.answerFrame (hK : K .port) (st : Byte) (d : List Byte) (r : Result) (h : Reach K s t) :
    Reach K s (answerFrame st d r t) := h.setPort hK ⟨rfl, rfl, id⟩

theorem Reach.writeFrame (hK : K .port) {ok before : Bool} {act : State → State × Result}
    (hact : before = true ∨ t.port.configured = true → Reach K s (act t).1) (h : Reach K s t) :
    Reach K s (writeFrame ok before act t) := by
  rcases writeFrame_cases ok before act t with ⟨-, heq⟩ | ⟨-, -, -, heq⟩ | ⟨-, hmay, heq⟩ <;> rw [heq]
  · exact h.answerFrame hK _ _ _
  · exact h.answerFrame hK _ _ _
  · exact (hact hmay).answerFrame hK _ _ _

theorem Reach.readFrame (hK : K .port) {code : Byte} {n : Nat} {p : List Byte} {r : Result} {data : List Byte}
    {side : State → State} (hside : Reach K s (side t)) (h : Reach K s t) : Reach K s (readFrame code n p r data side t) :=
  .ite (fun _ => hside.answerFrame hK _ _ _) fun _ => h.answerFrame hK _ _ _

/-- A command that acts out of reset. -/
theorem reach_of_unlessReset {f : State → State} (h : unlessReset s f = .next u) (hf : s.inReset = false → Reach K s (f s)) :
    Reach K s u := by
  rcases unlessReset_cases h with ⟨-, rfl⟩ | ⟨hr, rfl⟩
  · exact .refl
  · exact hf hr

/-- A write command. -/
theorem reach_of_write {ok before : Bool} {act : State → State × Result}
    (h : unlessReset s (Machine.writeFrame ok before act) = .next u) (hK : K .port)
    (hact : before = true ∨ s.port.configured = true → Reach K s (act s).1) : Reach K s u :=
  reach_of_unlessReset h fun _ => Reach.writeFrame hK hact .refl

/-- A read command without a side effect. -/
theorem reach_of_read {code : Byte} {n : Nat} {p : List Byte} {r : Result} {data : List Byte}
    (h : unlessReset s (Machine.readFrame code n p r data id) = .next u) (hK : K .port) : Reach K s u :=
  reach_of_unlessReset h fun _ => Reach.readFrame hK .refl .refl

/-- A notice heard. -/
theorem reach_of_hearing {n : Notice} {act : State → State} (h : unlessReset s (hearing n act) = .next u)
    (hbus : K .bus) (hcount : K .count) (hact : ∀ t, Reach K s t → Reach K s (act t)) : Reach K s u :=
  reach_of_unlessReset h fun _ => .ite (fun _ => .refl) fun _ => hact _ ((Reach.recordNotice hbus n .refl).bump hcount _)

end Chains

/-! ### The commands -/

theorem courseOf_ne_zero {n : Nat} {c : CourseNo} (h : courseOf n = some c) : c ≠ 0 := by
  unfold courseOf at h
  split at h <;> cases h
  next hn =>
    intro h0
    have := congrArg Fin.val h0
    simp [Fin.ofNat] at this
    omega

theorem not_bars_ne_monitor {l : LinkState} (h : ¬l.bars = true) : l ≠ .monitor := by
  rintro rfl
  exact h rfl

theorem monitor_of_own_eq_zero {s : State} (hs : RecordsSafe s) (h : s.bus.link ≠ .monitor) : s.own ≠ 0 := fun hown =>
  h (hs.monitor hown).1


theorem not_bars_of_not_or {a b : Bool} (h : ¬(a || b) = true) : ¬a = true := fun ha => h (by simp [ha])

section Commands
variable {s u : State} {c : Instr}

/-- What any command may do. -/
theorem basics : Admits (Allowed s c) Basic := allowed_of_basic

theorem port_of_any : Allowed s c .port := allowed_of_basic (k := .port) trivial

theorem reacts_of_any : Admits (Allowed s c) reacts := basics.trans basic_of_reacts
theorem wares_of_any : Admits (Allowed s c) wares := basics.trans basic_of_wares
theorem rackWork_of_any : Admits (Allowed s c) rackWork := basics.trans basic_of_rackWork
theorem pages_of_any : Admits (Allowed s c) pages := wares_admits_pages wares_of_any
theorem escalations_of_any : Admits (Allowed s c) escalations := basics.trans basic_of_escalations
theorem endings_of_any : Admits (Allowed s c) endings := basics.trans basic_of_endings
theorem relinks_of_any : Admits (Allowed s c) relinks := basics.trans basic_of_relinks
theorem loads_of_any : Admits (Allowed s c) loads := basics.trans basic_of_loads

/-- Entry to LEFT comes of a notice in the queue, which only a configured station of a number above 0 has. -/
theorem left_of_queue (hqueue : s.bus.queue ≠ []) : Allowed s c (.left s.port.configured s.own) := by
  refine ⟨fun hempty => ?_, fun hs hown => hqueue (hs.monitor hown).2.1⟩
  by_contra hconf
  exact hqueue (hempty (by simpa using hconf))

/-! #### Reset, configuration and reads -/

theorem reach_resetAsserted (h : exec .resetAsserted s = .next u) : Reach (Allowed s .resetAsserted) s u := by
  cases h
  exact .of_move (k := .reset) (.inl rfl) (.asserted s)

theorem reach_resetReleased {straps : Straps} (h : exec (.resetReleased straps) s = .next u) :
    Reach (Allowed s (.resetReleased straps)) s u := by
  cases h
  exact .of_move (k := .reset) (.inr ⟨straps, rfl⟩) (.released straps s.bus.draws s.bus.deafened.startMissed s)

theorem reach_configure {p : List Byte} (h : exec (.configure p) s = .next u) : Reach (Allowed s (.configure p)) s u := by
  refine reach_of_write h port_of_any fun _ => ?_
  unfold configure
  split
  · exact .refl
  next hconf =>
  have hmade : Reach (Allowed s (.configure p)) s (s.configuredBy p) :=
    .of_move (k := .configure) ⟨p, rfl⟩ (.configure p s (by simpa using hconf))
  refine Reach.evalConveyor (basics (k := .drive) trivial) (.ite (fun hoff => ?_) fun _ => hmade)
  have hbusy := hmade.setBus (basics (k := .bus) trivial) (b := { (s.configuredBy p).bus with lineBusy := true }) rfl id
    fun hs => hs.same rfl rfl id
  refine hbusy.changeLink (l := .listen) (basics (k := .link .listen) nofun) wares_of_any ?_ (.inl rfl) fun _ => rfl
  intro hmonitor
  cases hoff.symm.trans hmonitor

theorem reach_unknown {code : Byte} {p : List Byte} (h : exec (.unknown code p) s = .next u) :
    Reach (Allowed s (.unknown code p)) s u :=
  reach_of_unlessReset h fun _ => .ite (fun _ => Reach.answerFrame port_of_any _ _ _ .refl) fun _ => .refl

theorem reach_readReports {p : List Byte} (h : exec (.readReports p) s = .next u) : Reach (Allowed s (.readReports p)) s u :=
  reach_of_unlessReset h fun _ => Reach.readFrame port_of_any
    (Reach.setPort port_of_any (p := { s.port with mailbox := s.port.mailbox.taken.2 })
      ⟨rfl, rfl, fun hm => hm.taken⟩ .refl) .refl

theorem reach_readCounters {p : List Byte} (h : exec (.readCounters p) s = .next u) :
    Reach (Allowed s (.readCounters p)) s u :=
  reach_of_unlessReset h fun _ => Reach.readFrame port_of_any
    (.ite (fun _ => Reach.setPort port_of_any ⟨rfl, rfl, id⟩ .refl) fun _ => .refl) .refl

theorem reach_freeBank {p : List Byte} (h : exec (.freeBank p) s = .next u) : Reach (Allowed s (.freeBank p)) s u := by
  refine reach_of_write h port_of_any fun _ => ?_
  split
  next m hm => exact Reach.setPort port_of_any (p := { s.port with mailbox := m }) ⟨rfl, rfl, fun hs => hs.freed hm⟩ .refl
  · exact .refl

theorem reach_alertMask {p : List Byte} (h : exec (.alertMask p) s = .next u) : Reach (Allowed s (.alertMask p)) s u :=
  reach_of_write h port_of_any fun _ => Reach.setPort port_of_any ⟨rfl, rfl, id⟩ .refl

theorem reach_clearAlert {p : List Byte} (h : exec (.clearAlert p) s = .next u) : Reach (Allowed s (.clearAlert p)) s u :=
  reach_of_write h port_of_any fun _ => Reach.setPort port_of_any ⟨rfl, rfl, id⟩ .refl

theorem reach_programRead {p : List Byte} (h : exec (.programRead p) s = .next u) : Reach (Allowed s (.programRead p)) s u := by
  change unlessReset s _ = _ at h
  split at h
  · exact reach_of_read h port_of_any
  · exact reach_of_read h port_of_any

theorem reach_ruleRead {p : List Byte} (h : exec (.ruleRead p) s = .next u) : Reach (Allowed s (.ruleRead p)) s u := by
  change unlessReset s _ = _ at h
  split at h
  · exact reach_of_read h port_of_any
  · exact reach_of_read h port_of_any

/-! #### Zones, programs and runs -/

theorem reach_setZones {p : List Byte} (x : ZoneSettings) (zs : List ZoneNo) :
    Reach (Allowed s (.zoneSet p)) s (setZones x zs s) := by
  unfold setZones
  exact Reach.followDemand (basics (k := .grant) trivial)
    (Reach.zonesSet (allowed_of_running rfl) (fun _ => ⟨p, rfl⟩) x zs .refl)

theorem reach_zoneSet {p : List Byte} (h : exec (.zoneSet p) s = .next u) : Reach (Allowed s (.zoneSet p)) s u := by
  refine reach_of_write h port_of_any fun _ => ?_
  dsimp only
  split
  · exact .refl
  split
  · exact .refl
  · dsimp only
    exact reach_setZones _ _

theorem reach_takeSamples {p : List Byte} (xs : List (ZoneNo × Int × Option Int)) :
    Reach (Allowed s (.sample p)) s (takeSamples xs s) := by
  unfold takeSamples
  exact Reach.evalConveyor (basics (k := .drive) trivial) (Reach.followDemand (basics (k := .grant) trivial)
    (Reach.samplesTaken (K := Allowed s (.sample p)) (allowed_of_running rfl) (fun _ => rfl) xs .refl))

theorem reach_sample {p : List Byte} (h : exec (.sample p) s = .next u) : Reach (Allowed s (.sample p)) s u := by
  refine reach_of_write h port_of_any fun _ => ?_
  split
  · dsimp only
    exact reach_takeSamples _
  · exact .refl

theorem reach_programWrite {p : List Byte} (h : exec (.programWrite p) s = .next u) :
    Reach (Allowed s (.programWrite p)) s u :=
  reach_of_write h port_of_any fun _ => Reach.writeProgram (basics (k := .table) trivial) p .refl

theorem reach_assign {p : List Byte} (h : exec (.assign p) s = .next u) : Reach (Allowed s (.assign p)) s u := by
  refine reach_of_write h port_of_any fun _ => ?_
  unfold assignFrame
  dsimp only
  split
  next d n hd hn =>
    split
    · split
      · exact .refl
      split
      · exact .refl
      next hbars =>
      split
      · exact .refl
      have hlink : s.bus.link ≠ .monitor := not_bars_ne_monitor (not_bars_of_not_or (not_bars_of_not_or hbars))
      exact Reach.followDemand (basics (k := .grant) trivial)
        (Reach.assigned (allowed_of_firesWith rfl fun _ => courseOf_ne_zero hd) hlink .refl)
    · exact .refl
  · exact .refl

theorem reach_abort {p : List Byte} (h : exec (.abort p) s = .next u) : Reach (Allowed s (.abort p)) s u := by
  refine reach_of_write h port_of_any fun _ => ?_
  split
  · exact .refl
  · exact Reach.followDemand (basics (k := .grant) trivial) (Reach.aborted (allowed_of_running rfl) _ _ .refl)

theorem reach_plates {p : List Byte} (h : exec (.plates p) s = .next u) : Reach (Allowed s (.plates p)) s u := by
  refine reach_of_write h port_of_any fun _ => ?_
  split
  · exact Reach.setPlates allowed_of_reactsOn (basics (k := .plates) trivial) (by omega) .refl
  · exact .refl

theorem reach_stepBoundary_of (hstep : c = .stepBoundary ∨ c = .windowStart) : Reach (Allowed s c) s (stepBoundary s) := by
  have hc : setsRuns c = true ∧ setsSamples c = true := by rcases hstep with rfl | rfl <;> exact ⟨rfl, rfl⟩
  exact Reach.stepBoundary (allowed_of_running hc.1) hstep (fun _ => hc.2) (basics (k := .bus) trivial)
    (basics (k := .grant) trivial) (basics (k := .drive) trivial) .refl

theorem reach_stepBoundary (h : exec .stepBoundary s = .next u) : Reach (Allowed s .stepBoundary) s u :=
  reach_of_unlessReset h fun _ => reach_stepBoundary_of (.inl rfl)

theorem reach_windowStart (h : exec .windowStart s = .next u) : Reach (Allowed s .windowStart) s u :=
  reach_of_unlessReset h fun _ => .ite (fun _ => reach_stepBoundary_of (.inr rfl)) fun _ => .refl

theorem reach_sampleStale {z : ZoneNo} (h : exec (.sampleStale z) s = .next u) : Reach (Allowed s (.sampleStale z)) s u :=
  reach_of_unlessReset h fun _ => .ite (fun _ => Reach.zonesChanged reacts_of_any (basics (k := .grant) trivial)
    (basics (k := .drive) trivial) (Reach.faultCheck (z := z) rfl (basics (k := .event) trivial)
      (Reach.ageZone z rfl .refl))) fun _ => .refl

theorem reach_runTick {z : ZoneNo} (hc : setsRuns c = true) : Reach (Allowed s c) s (runTick z s) :=
  Reach.runTick (allowed_of_running hc) (basics (k := .grant) trivial) .refl

theorem reach_timedStageEnd {z : ZoneNo} (h : exec (.timedStageEnd z) s = .next u) :
    Reach (Allowed s (.timedStageEnd z)) s u :=
  reach_of_unlessReset h fun _ => .ite (fun _ => reach_runTick rfl) fun _ => .refl

theorem reach_zoneLate {z : ZoneNo} (h : exec (.zoneLate z) s = .next u) : Reach (Allowed s (.zoneLate z)) s u :=
  reach_of_unlessReset h fun _ => .ite (fun _ => reach_runTick rfl) fun _ => .refl

theorem reach_holdOver {z : ZoneNo} (h : exec (.holdOver z) s = .next u) : Reach (Allowed s (.holdOver z)) s u :=
  reach_of_unlessReset h fun _ => .ite (fun _ => reach_runTick rfl) fun _ => .refl

/-! #### Courses -/

/-- The courses of a schedule that the tables' ranges bound are fired under their own number. -/
theorem firesWith_of_entry {t : State} {e : SchedEntry} (hc : setsRuns c = true) (hfit : TablesSafe s → EntriesFit t)
    (he : e ∈ t.course.schedule) : Admits (Allowed s c) (firesWith e.course) :=
  allowed_of_firesWith hc fun hs => (hfit hs e he).1

theorem TablesSafe.entriesFit (hs : TablesSafe s) : EntriesFit s := fun e he => hs.entries e he

theorem reach_setClock {p : List Byte} (h : exec (.setClock p) s = .next u) : Reach (Allowed s (.setClock p)) s u := by
  refine reach_of_write h port_of_any fun _ => ?_
  split
  · exact .refl
  next ht =>
  have hclock : Reach (Allowed s (.setClock p)) s (setClockTo (tripleAt p 0) s) :=
    .of_move (k := .clock) trivial (.clock _ s (by omega))
  exact Reach.fireEntries (t := setClockTo (tripleAt p 0) s) (basics (k := .schedule) trivial)
    (fun e he => firesWith_of_entry (t := s) rfl TablesSafe.entriesFit he) _ hclock

theorem reach_fire {p : List Byte} (h : exec (.fire p) s = .next u) : Reach (Allowed s (.fire p)) s u := by
  refine reach_of_write h port_of_any fun _ => ?_
  split
  · exact .refl
  next d hd =>
  split
  · exact .refl
  split
  · exact .refl
  exact Reach.fire (allowed_of_firesWith rfl fun _ => courseOf_ne_zero hd) .refl

theorem reach_schedule {p : List Byte} (h : exec (.schedule p) s = .next u) : Reach (Allowed s (.schedule p)) s u := by
  refine reach_of_write h port_of_any fun _ => ?_
  split
  · exact .refl
  next d hd =>
  split
  · exact .refl
  next ht =>
  split
  · exact .refl
  split
  · exact .refl
  next hroom =>
  refine .of_move (k := .schedule) trivial (.schedule _ s ⟨fun e he => ?_, .inr ?_⟩)
  · rcases List.mem_append.mp he with he | he
    · exact .inl he
    · cases List.mem_singleton.mp he
      exact .inr ⟨courseOf_ne_zero hd, Nat.le_of_not_lt ht⟩
  · simp only [List.length_append, List.length_cons, List.length_nil]
    omega

theorem reach_openCourse {p : List Byte} (h : exec (.openCourse p) s = .next u) : Reach (Allowed s (.openCourse p)) s u := by
  refine reach_of_write h port_of_any fun _ => ?_
  split
  · exact .refl
  split
  · exact .refl
  next d hd =>
  split
  · exact .refl
  split
  · exact .refl
  exact Reach.openCourse allowed_of_reactsOn (fun _ => courseOf_ne_zero hd) p .refl

theorem reach_release {p : List Byte} (h : exec (.release p) s = .next u) : Reach (Allowed s (.release p)) s u := by
  refine reach_of_write h port_of_any fun _ => ?_
  split
  · exact .refl
  split
  · exact .refl
  next d hd =>
  split
  · exact .refl
  split
  · exact .refl
  split
  · exact Reach.releaseCourse (basics (k := .release d) trivial) _ _ .refl
  · exact .refl

theorem reach_hold {p : List Byte} (h : exec (.hold p) s = .next u) : Reach (Allowed s (.hold p)) s u := by
  refine reach_of_write h port_of_any fun _ => ?_
  split
  · exact .refl
  split
  · exact .refl
  next hquanta =>
  split
  · exact .refl
  next hbars =>
  split
  · exact .refl
  split
  · exact .refl
  exact Reach.holdCourse allowed_of_reactsOn
    (fun hs => ⟨by omega, monitor_of_own_eq_zero hs (not_bars_ne_monitor hbars)⟩) .refl

theorem reach_closeCourse {p : List Byte} (h : exec (.closeCourse p) s = .next u) :
    Reach (Allowed s (.closeCourse p)) s u := by
  refine reach_of_write h port_of_any fun _ => ?_
  split
  · exact .refl
  next d hd =>
  split
  · exact Reach.removeRec (basics (k := .remove d) trivial) .refl
  · exact .refl

theorem reach_courseHeard {st : Station} {seq d m : Byte} {fire : Bool} {spare : BitVec 5} {plates warm : Option Half}
    (h : exec (.courseHeard st seq d m fire spare plates warm) s = .next u) :
    Reach (Allowed s (.courseHeard st seq d m fire spare plates warm)) s u := by
  refine reach_of_hearing h (basics (k := .bus) trivial) (basics (k := .count) trivial) fun t ht => ?_
  unfold takeCourseNotice
  split
  next hd _ => exact ht.takeCourse (allowed_of_firesWith rfl fun _ => courseOf_ne_zero hd)
  · exact ht

theorem reach_holdHeard {st : Station} {seq d q : Byte} (h : exec (.holdHeard st seq d q) s = .next u) :
    Reach (Allowed s (.holdHeard st seq d q)) s u := by
  refine reach_of_hearing h (basics (k := .bus) trivial) (basics (k := .count) trivial) fun t ht => ?_
  refine .ite (fun _ => ht) fun hfields => ?_
  simp only [not_or] at hfields
  exact ht.requestHold allowed_of_reactsOn fun _ => ⟨by omega, hfields.1⟩

theorem reach_serviceClockTick (h : exec .serviceClockTick s = .next u) : Reach (Allowed s .serviceClockTick) s u :=
  reach_of_unlessReset h fun _ => Reach.serviceTick (allowed_of_ticks rfl)
    (fun t ht _ he => firesWith_of_entry (t := t) rfl (fun hs => ht.entriesFit hs.entriesFit) he) .refl

theorem reach_holdExpiry {d : CourseNo} (h : exec (.holdExpiry d) s = .next u) : Reach (Allowed s (.holdExpiry d)) s u :=
  reach_of_unlessReset h fun _ => .ite (fun _ => Reach.tickHold allowed_of_reactsOn .refl) fun _ => .refl

theorem reach_scheduleEntryFires {i : Fin 8} (h : exec (.scheduleEntryFires i) s = .next u) :
    Reach (Allowed s (.scheduleEntryFires i)) s u := by
  simp only [exec, execScheduleEntryFires] at h
  refine reach_of_unlessReset h fun _ => ?_
  split
  next e he =>
    refine .ite (fun _ => ?_) fun _ => .refl
    exact Reach.fireScheduled (firesWith_of_entry (t := s) rfl TablesSafe.entriesFit (List.mem_of_getElem? he))
      (Reach.thinSchedule (basics (k := .schedule) trivial) (List.eraseIdx_sublist _ _) .refl)
  · exact .refl

theorem reach_releaseAgeExpiry {d : CourseNo} (h : exec (.releaseAgeExpiry d) s = .next u) :
    Reach (Allowed s (.releaseAgeExpiry d)) s u :=
  reach_of_unlessReset h fun _ => .ite (fun _ => Reach.tickAge (basics (k := .record d) trivial)
    (basics (k := .remove d) trivial) .refl) fun _ => .refl

theorem reach_clearCall {d : CourseNo} (h : exec (.clearCall d) s = .next u) : Reach (Allowed s (.clearCall d)) s u := by
  simp only [exec, execClearCall] at h
  refine reach_of_unlessReset h fun _ => ?_
  split
  · refine .ite (fun _ => Reach.raise (basics (k := .event) trivial) _ ?_) fun _ => .refl
    exact .of_move (k := .clearing) trivial (.clearing _ s fun hs =>
      ⟨(List.length_filter_le _ _).trans hs.1, nodup_filter_map _ hs.2⟩)
  · exact .refl

theorem reach_courseRepeat {d : CourseNo} (h : exec (.courseRepeat d) s = .next u) :
    Reach (Allowed s (.courseRepeat d)) s u :=
  reach_of_unlessReset h fun _ => .ite (fun _ => Reach.handCourse (basics (k := .take) trivial)
    (basics (k := .record d) trivial) _ _ .refl) fun _ => .refl

/-! #### The ware block -/

theorem reach_wareSet {p : List Byte} (h : exec (.wareSet p) s = .next u) : Reach (Allowed s (.wareSet p)) s u := by
  refine reach_of_write h port_of_any fun hconf => ?_
  split
  · exact .refl
  · exact Reach.setWare ⟨p, rfl⟩ (basics (k := .drive) trivial) wares_of_any _ _ (hconf.resolve_left nofun) .refl

theorem reach_conveyorReset {p : List Byte} (h : exec (.conveyorReset p) s = .next u) :
    Reach (Allowed s (.conveyorReset p)) s u := by
  refine reach_of_write h port_of_any fun _ => ?_
  split
  · exact .refl
  · exact Reach.driveConveyor (basics (k := .drive) trivial) (Reach.unfault (basics (k := .ware) trivial) .refl)

theorem reach_sanitizeAck {p : List Byte} (h : exec (.sanitizeAck p) s = .next u) :
    Reach (Allowed s (.sanitizeAck p)) s u := by
  refine reach_of_write h port_of_any fun _ => ?_
  split
  · exact .refl
  · exact Reach.holdLow (basics (k := .ware) trivial) false .refl

theorem reach_oeInterlockChange {high : Bool} (h : exec (.oeInterlockChange high) s = .next u) :
    Reach (Allowed s (.oeInterlockChange high)) s u := by
  cases h
  exact .ite (fun hr => .of_move (k := .oe) ⟨high, rfl⟩ (.oeInReset high s hr))
    fun _ => .of_move (k := .oe) ⟨high, rfl⟩ (.oe high s)

theorem reach_entryEdge (h : exec .entryEdge s = .next u) : Reach (Allowed s .entryEdge) s u :=
  reach_of_unlessReset h fun _ => .ite (fun hactive => Reach.takeEntry rackWork_of_any hactive .refl) fun _ => .refl

theorem reach_rinseEdge (h : exec .rinseEdge s = .next u) : Reach (Allowed s .rinseEdge) s u :=
  reach_of_unlessReset h fun _ => .ite (fun hactive => Reach.takeRinse rackWork_of_any hactive .refl) fun _ => .refl

theorem reach_exitEdge (h : exec .exitEdge s = .next u) : Reach (Allowed s .exitEdge) s u :=
  reach_of_unlessReset h fun _ => .ite (fun hactive => Reach.takeExit rackWork_of_any hactive .refl) fun _ => .refl

theorem reach_wareHeard {st : Station} {seq l : Byte} {b : Half} {v : Byte} (h : exec (.wareHeard st seq l b v) s = .next u) :
    Reach (Allowed s (.wareHeard st seq l b v)) s u :=
  reach_of_hearing h (basics (k := .bus) trivial) (basics (k := .count) trivial) fun _ ht => ht.takeWareNotice wares_of_any _ _ _ _

theorem reach_dwellFault (h : exec .dwellFault s = .next u) : Reach (Allowed s .dwellFault) s u :=
  reach_of_unlessReset h fun _ => .ite (fun _ => Reach.tickDwell (basics (k := .fault) trivial)
    (Reach.tickRacks (basics (k := .ware) trivial) .refl)) fun _ => .refl

theorem reach_wareRepeat (h : exec .wareRepeat s = .next u) : Reach (Allowed s .wareRepeat) s u :=
  reach_of_unlessReset h fun _ => .ite (fun _ => Reach.handWare wares_of_any .refl) fun _ => .refl

theorem reach_washViewAgeOut {st : Station} (h : exec (.washViewAgeOut st) s = .next u) :
    Reach (Allowed s (.washViewAgeOut st)) s u :=
  reach_of_unlessReset h fun _ => .ite (fun _ => Reach.dropWash wares_of_any st .refl) fun _ => .refl

/-! #### Load sharing and the link -/

theorem reach_withdraw {p : List Byte} (h : exec (.withdraw p) s = .next u) : Reach (Allowed s (.withdraw p)) s u := by
  refine reach_of_write h port_of_any fun hconf => ?_
  split
  next hheats => exact Reach.enterLeaving ⟨p, rfl⟩ hheats (hconf.resolve_left nofun) .refl
  · exact .refl

theorem reach_restart {p : List Byte} (h : exec (.restart p) s = .next u) : Reach (Allowed s (.restart p)) s u := by
  refine reach_of_write h port_of_any fun hconf => ?_
  split
  next hlink => exact .of_move (k := .restart) ⟨p, rfl⟩ (.restart s hlink (hconf.resolve_left nofun))
  · exact .refl

theorem reach_loadPeriodExpiry (h : exec .loadPeriodExpiry s = .next u) : Reach (Allowed s .loadPeriodExpiry) s u := by
  simp only [exec, execLoadPeriodExpiry] at h
  exact reach_of_unlessReset h fun _ => Reach.loadPeriodEnd rfl (basics (k := .take) trivial)
    (Reach.loadPeriodFigures (allowed_of_losses rfl) (basics (k := .compute) trivial) .refl)

theorem reach_peerAgedOut {st : Station} (h : exec (.peerAgedOut st) s = .next u) : Reach (Allowed s (.peerAgedOut st)) s u :=
  reach_of_unlessReset h fun _ => .ite (fun _ => Reach.losePeer (allowed_of_losses rfl) st .refl) fun _ => .refl

theorem reach_listenEnd (h : exec .listenEnd s = .next u) : Reach (Allowed s .listenEnd) s u :=
  reach_of_unlessReset h fun _ => .ite (fun _ => Reach.countListen (basics (k := .load) trivial) relinks_of_any .refl)
    fun _ => .refl

theorem reach_loadHeard {st : Station} {seq : Byte} {q f : Half} {w : Byte} {d l : Half}
    (h : exec (.loadHeard st seq q f w d l) s = .next u) : Reach (Allowed s (.loadHeard st seq q f w d l)) s u :=
  reach_of_hearing h (basics (k := .bus) trivial) (basics (k := .count) trivial) fun _ ht =>
    ht.takeLoadNotice loads_of_any _ _ _ _ _ _

theorem reach_leaveHeard {st : Station} {seq : Byte} (h : exec (.leaveHeard st seq) s = .next u) :
    Reach (Allowed s (.leaveHeard st seq)) s u :=
  reach_of_hearing h (basics (k := .bus) trivial) (basics (k := .count) trivial) fun _ ht =>
    ht.losePeer (allowed_of_losses rfl) st

/-! #### The line -/

theorem reach_lineIdle (h : exec .lineIdle s = .next u) : Reach (Allowed s .lineIdle) s u := by
  have hbus : Allowed s .lineIdle .bus := trivial
  cases h
  exact .ite (fun _ => Reach.setBusy hbus false .refl) fun _ => Reach.lineIdle hbus .refl

theorem reach_lineBusy (h : exec .lineBusy s = .next u) : Reach (Allowed s .lineBusy) s u := by
  have hbus : Allowed s .lineBusy .bus := trivial
  cases h
  exact .ite (fun _ => Reach.setBusy hbus true .refl) fun _ => Reach.deferGap hbus (Reach.setBusy hbus true .refl)

theorem reach_accessGapExpiry (h : exec .accessGapExpiry s = .next u) : Reach (Allowed s .accessGapExpiry) s u :=
  reach_of_unlessReset h fun _ => .ite (fun hgap => Reach.startSending (basics (k := .bus) trivial) hgap .refl) fun _ => .refl

theorem reach_backoffExpiry (h : exec .backoffExpiry s = .next u) : Reach (Allowed s .backoffExpiry) s u :=
  reach_of_unlessReset h fun _ => .ite (fun hback => Reach.seekBackoff (basics (k := .bus) trivial)
    (by rw [hback]; nofun) .refl) fun _ => .refl

theorem ne_nil_of_onLine {e : TxEntry} (h : onLineOf s.bus.queue = some e) : s.bus.queue ≠ [] :=
  List.ne_nil_of_mem (onLineOf_mem h).1

theorem reach_collision (h : exec .collision s = .next u) : Reach (Allowed s .collision) s u := by
  simp only [exec, execCollision] at h
  refine reach_of_unlessReset h fun _ => ?_
  split
  next honline => exact Reach.collide endings_of_any (left_of_queue (ne_nil_of_onLine honline)) honline .refl
  · exact .refl

theorem reach_noticeCompleted (h : exec .noticeCompleted s = .next u) : Reach (Allowed s .noticeCompleted) s u := by
  simp only [exec, execNoticeCompleted] at h
  refine reach_of_unlessReset h fun _ => ?_
  split
  next honline => exact Reach.complete endings_of_any (left_of_queue (ne_nil_of_onLine honline)) honline .refl
  · exact .refl

theorem ne_nil_of_waiter {b : Bus} {e : TxEntry} (h : b.waiter = some e) : b.queue ≠ [] := by
  unfold Bus.waiter at h
  split at h
  · exact List.ne_nil_of_mem (headOf_mem h).1
  · cases h

theorem reach_deferDrop (h : exec .deferDrop s = .next u) : Reach (Allowed s .deferDrop) s u :=
  reach_of_unlessReset h fun _ => .ite (fun hbrink => by
    obtain ⟨e, he⟩ : ∃ e, s.bus.waiter = some e := by
      cases hw : s.bus.waiter with
      | none => simp [Bus.brinkDefer, hw] at hbrink
      | some e => exact ⟨e, rfl⟩
    exact Reach.waitMilli endings_of_any (left_of_queue (ne_nil_of_waiter he)) .refl) fun _ => .refl

/-! #### Routing, pages and the relay -/

theorem normal_inRange (r : Rule) : r.normal.inRange = true := by
  unfold Rule.normal
  split
  next h => simp [Rule.inRange, Rule.blank, h]
  next h => simp [Rule.inRange, Rule.blank, h]
  · rfl
  · rfl
  next h =>
    split
    next hr => simp [Rule.inRange, hr]
    · simp [Rule.inRange, le_clamp, clamp_le]

theorem ruleFrom_inRange {p : List Byte} {r : Rule} (h : ruleFrom p = some r) : r.inRange = true := by
  unfold ruleFrom at h
  split at h
  · dsimp only at h
    split at h
    · cases h
    split at h
    · cases h
    cases h
    exact normal_inRange _
  · cases h

theorem reach_ruleWrite {p : List Byte} (h : exec (.ruleWrite p) s = .next u) : Reach (Allowed s (.ruleWrite p)) s u := by
  refine reach_of_write h port_of_any fun _ => ?_
  split
  next hrule => exact .of_move (k := .rule) trivial (.rule _ _ s (ruleFrom_inRange hrule))
  · exact .refl

theorem reach_groupWrite {p : List Byte} (h : exec (.groupWrite p) s = .next u) : Reach (Allowed s (.groupWrite p)) s u := by
  refine reach_of_write h port_of_any fun _ => ?_
  split
  next g e _ _ =>
    have hset := Reach.setGroup (K := Allowed s (.groupWrite p)) trivial g { escalation := e, onDuty := flagAt p 2 }
      (.refl (s := s))
    exact .ite (fun _ => hset) fun _ => hset.moveForDuty pages_of_any _
  · exact .refl

theorem reach_duty {p : List Byte} (h : exec (.duty p) s = .next u) : Reach (Allowed s (.duty p)) s u := by
  refine reach_of_write h port_of_any fun _ => ?_
  split
  · exact Reach.moveForDuty pages_of_any _ (Reach.setGroup (basics (k := .group) trivial) _ _ .refl)
  · exact .refl

theorem reach_page {p : List Byte} (h : exec (.page p) s = .next u) : Reach (Allowed s (.page p)) s u := by
  refine reach_of_write h port_of_any fun _ => ?_
  split
  · exact .refl
  next g hg =>
  split
  · exact .refl
  split
  · exact .refl
  exact Reach.requestPage (allowed_of_requests fun _ =>
    ⟨le_clamp _ _ _, clamp_le (by omega) _⟩) .refl

theorem reach_coverageWrite {p : List Byte} (h : exec (.coverageWrite p) s = .next u) :
    Reach (Allowed s (.coverageWrite p)) s u := by
  refine reach_of_write h port_of_any fun _ => ?_
  split
  · exact .refl
  · exact Reach.setPair (basics (k := .pair) trivial) _ _ .refl

theorem reach_pageHeard {st : Station} {seq n a g p m d : Byte} (h : exec (.pageHeard st seq n a g p m d) s = .next u) :
    Reach (Allowed s (.pageHeard st seq n a g p m d)) s u :=
  reach_of_hearing h (basics (k := .bus) trivial) (basics (k := .count) trivial) fun _ ht =>
    ht.takePageNotice (basics (k := .relay) trivial) _ _ _ _ _ _ _

theorem reach_answerHeard {st : Station} {seq o n a : Byte} {pager : Half} {r : Byte}
    (h : exec (.answerHeard st seq o n a pager r) s = .next u) : Reach (Allowed s (.answerHeard st seq o n a pager r)) s u :=
  reach_of_hearing h (basics (k := .bus) trivial) (basics (k := .count) trivial) fun _ ht =>
    ht.takeAnswerNotice (basics (k := .relay) trivial) escalations_of_any _ _ _ _ _

theorem reach_takeEvent (h : exec .takeEvent s = .next u) : Reach (Allowed s .takeEvent) s u :=
  reach_of_unlessReset h fun _ => Reach.takeOldest (basics (k := .route) trivial) .refl

theorem reach_evaluationEnd (h : exec .evaluationEnd s = .next u) : Reach (Allowed s .evaluationEnd) s u :=
  reach_of_unlessReset h fun _ => Reach.endEvaluation (basics (k := .route) trivial)
    (fun _ _ he hr => allowed_of_requests fun hs => outcome_priority (by simpa [he] using hs.taken) hr) .refl

theorem reach_pageTimeout {n : Byte} (h : exec (.pageTimeout n) s = .next u) : Reach (Allowed s (.pageTimeout n)) s u := by
  simp only [exec, execPageTimeout] at h
  refine reach_of_unlessReset h fun _ => ?_
  split
  · exact .ite (fun _ => Reach.escalate escalations_of_any _ (Reach.mapPage (basics (k := .page) trivial)
      (fun _ => ⟨rfl, rfl, rfl, rfl, rfl, rfl⟩) .refl)) fun _ => .refl
  · exact .refl

theorem reach_deferralLimit {n : Byte} (h : exec (.deferralLimit n) s = .next u) :
    Reach (Allowed s (.deferralLimit n)) s u := by
  simp only [exec, execDeferralLimit] at h
  refine reach_of_unlessReset h fun _ => ?_
  split
  · exact .ite (fun _ => Reach.placePage pages_of_any _ .refl) fun _ => .refl
  · exact .refl

theorem reach_done {o n a : Byte} (h : exec (.done o n a) s = .next u) : Reach (Allowed s (.done o n a)) s u :=
  reach_of_unlessReset h fun _ => Reach.takeDone (basics (k := .relay) trivial) _ _ _ .refl

theorem reach_completionTimeout (h : exec .completionTimeout s = .next u) : Reach (Allowed s .completionTimeout) s u := by
  have hrelay : Allowed s .completionTimeout .relay := trivial
  simp only [exec, execCompletionTimeout] at h
  refine reach_of_unlessReset h fun _ => .ite (fun _ => .refl) fun _ => ?_
  split
  next hfirst => exact Reach.retry hrelay hfirst .refl
  next hretry => exact Reach.giveUp hrelay (basics (k := .latch) trivial) (by rw [hretry]; nofun) .refl
  · exact .refl

theorem reach_reply {pager : Half} {o n a r : Byte} (h : exec (.reply pager o n a r) s = .next u) :
    Reach (Allowed s (.reply pager o n a r)) s u :=
  reach_of_unlessReset h fun _ => Reach.takeReply (basics (k := .relay) trivial) escalations_of_any _ _ _ _ _ .refl

theorem reach_radioMessageDiscarded {bytes : List Byte} (h : exec (.radioMessageDiscarded bytes) s = .next u) :
    Reach (Allowed s (.radioMessageDiscarded bytes)) s u := by
  have hrelay : Allowed s (.radioMessageDiscarded bytes) .relay := trivial
  simp only [exec, execRadioMessageDiscarded] at h
  refine reach_of_unlessReset h fun _ => ?_
  split
  · exact .refl
  · exact Reach.takeDone hrelay _ _ _ .refl
  · exact Reach.takeReply hrelay escalations_of_any _ _ _ _ _ .refl

theorem reach_transmitSent (h : exec .transmitSent s = .next u) : Reach (Allowed s .transmitSent) s u := by
  simp only [exec, execTransmitSent] at h
  exact reach_of_unlessReset h fun _ => .ite (fun _ => .refl) fun hbusy =>
    Reach.startTimer (basics (k := .relay) trivial) hbusy .refl

/-- Every command but the notice that the receiver reads for itself is a chain of moves of its kinds. -/
theorem exec_reach (hc : ∀ bytes, c ≠ .noticeDiscarded bytes) (h : exec c s = .next u) : Reach (Allowed s c) s u := by
  cases c
  case resetAsserted => exact reach_resetAsserted h
  case resetReleased => exact reach_resetReleased h
  case configure => exact reach_configure h
  case setClock => exact reach_setClock h
  case zoneSet => exact reach_zoneSet h
  case sample => exact reach_sample h
  case programWrite => exact reach_programWrite h
  case programRead => exact reach_programRead h
  case assign => exact reach_assign h
  case fire => exact reach_fire h
  case abort => exact reach_abort h
  case schedule => exact reach_schedule h
  case openCourse => exact reach_openCourse h
  case release => exact reach_release h
  case hold => exact reach_hold h
  case closeCourse => exact reach_closeCourse h
  case plates => exact reach_plates h
  case wareSet => exact reach_wareSet h
  case conveyorReset => exact reach_conveyorReset h
  case sanitizeAck => exact reach_sanitizeAck h
  case ruleWrite => exact reach_ruleWrite h
  case ruleRead => exact reach_ruleRead h
  case groupWrite => exact reach_groupWrite h
  case duty => exact reach_duty h
  case page => exact reach_page h
  case coverageWrite => exact reach_coverageWrite h
  case readReports => exact reach_readReports h
  case freeBank => exact reach_freeBank h
  case alertMask => exact reach_alertMask h
  case clearAlert => exact reach_clearAlert h
  case readCounters => exact reach_readCounters h
  case withdraw => exact reach_withdraw h
  case restart => exact reach_restart h
  case unknown => exact reach_unknown h
  case oeInterlockChange => exact reach_oeInterlockChange h
  case entryEdge => exact reach_entryEdge h
  case rinseEdge => exact reach_rinseEdge h
  case exitEdge => exact reach_exitEdge h
  case stepBoundary => exact reach_stepBoundary h
  case windowStart => exact reach_windowStart h
  case sampleStale => exact reach_sampleStale h
  case timedStageEnd => exact reach_timedStageEnd h
  case zoneLate => exact reach_zoneLate h
  case holdOver => exact reach_holdOver h
  case loadPeriodExpiry => exact reach_loadPeriodExpiry h
  case peerAgedOut => exact reach_peerAgedOut h
  case listenEnd => exact reach_listenEnd h
  case loadHeard => exact reach_loadHeard h
  case leaveHeard => exact reach_leaveHeard h
  case courseHeard => exact reach_courseHeard h
  case holdHeard => exact reach_holdHeard h
  case wareHeard => exact reach_wareHeard h
  case pageHeard => exact reach_pageHeard h
  case answerHeard => exact reach_answerHeard h
  case noticeDiscarded bytes => exact absurd rfl (hc bytes)
  case lineIdle => exact reach_lineIdle h
  case lineBusy => exact reach_lineBusy h
  case accessGapExpiry => exact reach_accessGapExpiry h
  case collision => exact reach_collision h
  case backoffExpiry => exact reach_backoffExpiry h
  case noticeCompleted => exact reach_noticeCompleted h
  case deferDrop => exact reach_deferDrop h
  case serviceClockTick => exact reach_serviceClockTick h
  case holdExpiry => exact reach_holdExpiry h
  case scheduleEntryFires => exact reach_scheduleEntryFires h
  case releaseAgeExpiry => exact reach_releaseAgeExpiry h
  case clearCall => exact reach_clearCall h
  case courseRepeat => exact reach_courseRepeat h
  case dwellFault => exact reach_dwellFault h
  case wareRepeat => exact reach_wareRepeat h
  case washViewAgeOut => exact reach_washViewAgeOut h
  case takeEvent => exact reach_takeEvent h
  case evaluationEnd => exact reach_evaluationEnd h
  case pageTimeout => exact reach_pageTimeout h
  case deferralLimit => exact reach_deferralLimit h
  case done => exact reach_done h
  case completionTimeout => exact reach_completionTimeout h
  case reply => exact reach_reply h
  case radioMessageDiscarded => exact reach_radioMessageDiscarded h
  case radioByteTimeout => exact reach_of_unlessReset h fun _ => .refl
  case transmitSent => exact reach_transmitSent h
  all_goals exact reach_of_read h port_of_any

end Commands

end Sys2Proof.Machine

/-! The grants of the live set (R49–R52): O46, and that no station gets more than its demand. -/

namespace Sys2Proof.Machine

theorem length_sweep (n : Nat) (pairs : List (Nat × Nat)) : (sweep n pairs).length = pairs.length := by
  rw [sweep_eq_map_zipIdx]
  simp

/-- No share passes a bound that it and its cap lie within. -/
theorem sweep_le_bound {α : Type} (share cap bound : α → Nat) (rows : List α)
    (h : ∀ r ∈ rows, share r ≤ bound r ∧ cap r ≤ bound r) :
    ∀ n, ∀ x ∈ (sweep n (rows.map fun r => (share r, cap r))).zip rows, x.1 ≤ bound x.2 := by
  induction rows with
  | nil => simp
  | cons r rows ih =>
    intro n
    obtain ⟨hr, hrows⟩ := List.forall_mem_cons.mp h
    rw [List.map_cons, sweep_cons]
    split
    next hlow => 
      have hr' : share r + 1 ≤ bound r := Nat.lt_of_lt_of_le hlow.2 hr.2
      exact List.forall_mem_cons.mpr ⟨hr', ih hrows (n - 1)⟩
    next => exact List.forall_mem_cons.mpr ⟨hr.1, ih hrows n⟩

/-- Parts of some units by weight, each cut down at most, sum to no more than the units. -/
theorem sum_parts_le {α : Type} (rows : List α) (p : α → Bool) (w part : α → Nat) (units : Nat)
    (hin : ∀ r ∈ rows, p r = true → part r ≤ units * w r / ((rows.filter p).map w).sum)
    (hout : ∀ r ∈ rows, p r = false → part r = 0) : (rows.map part).sum ≤ units := by
  generalize hm : ((rows.filter p).map w).sum = m at hin
  have hparts : (rows.map part).sum ≤ ((rows.filter p).map fun r => w r * units / m).sum := by
    clear hm
    induction rows with
    | nil => simp
    | cons r rows ih =>
      have htail := ih (fun x hx => hout x (List.mem_cons_of_mem _ hx)) fun x hx => hin x (List.mem_cons_of_mem _ hx)
      cases hp : p r with
      | true =>
        have hr := hin r List.mem_cons_self hp
        rw [Nat.mul_comm] at hr
        simp only [List.map_cons, List.sum_cons, List.filter_cons, hp, if_true]
        omega
      | false =>
        have hr := hout r List.mem_cons_self hp
        simpa [List.filter_cons, hp, hr] using htail
  rcases Nat.eq_zero_or_pos m with rfl | hpos
  · refine hparts.trans ?_
    simp
  · have hbound := mul_sum_div_le ((rows.filter p).map w) units m
    rw [hm, List.map_map] at hbound
    exact hparts.trans (Nat.le_of_mul_le_mul_left hbound hpos)

section Weighted
variable {rest : Nat} {rows : List LiveRow}

theorem uncapped_eq (weight : Nat) :
    uncapped rest weight = fun r => decide (rest * r.w / weight < r.q - r.f) := rfl

theorem firstExtra_eq (weight : Nat) :
    firstExtra rest weight = fun r => min (rest * r.w / weight) (r.q - r.f) := rfl

theorem weightE_eq (rows : List LiveRow) : weightE rows = ((rows.filter fun r => r.f < r.q).map (·.w)).sum := by
  simp only [weightE, LiveRow.want, Nat.sub_pos_iff_lt]

theorem sum_firstExtra_le : (rows.map (firstExtra rest (weightE rows))).sum ≤ rest := by
  refine sum_parts_le rows (fun r => 0 < r.want) (·.w) _ rest (fun r _ _ => Nat.min_le_left _ _) fun r _ hr => ?_
  have hzero : r.want = 0 := by simpa using hr
  simp [firstExtra, hzero]

/-- R52: the second extra of a row. -/
def secondExtra (rest : Nat) (rows : List LiveRow) (r : LiveRow) : Nat :=
  if uncapped rest (weightE rows) r then
    min ((rest - (rows.map (firstExtra rest (weightE rows))).sum) * r.w /
        ((rows.filter (uncapped rest (weightE rows))).map (·.w)).sum)
      (r.want - firstExtra rest (weightE rows) r)
  else 0

theorem sum_secondExtra_le :
    (rows.map (secondExtra rest rows)).sum ≤ rest - (rows.map (firstExtra rest (weightE rows))).sum := by
  refine sum_parts_le rows (uncapped rest (weightE rows)) (·.w) _ _ (fun r _ hr => ?_) fun r _ hr => ?_
  · rw [secondExtra, if_pos hr]
    exact Nat.min_le_left _ _
  · simp [secondExtra, hr]

theorem extras_le_want (r : LiveRow) : firstExtra rest (weightE rows) r + secondExtra rest rows r ≤ r.want := by
  have hfirst : firstExtra rest (weightE rows) r ≤ r.want := Nat.min_le_right _ _
  unfold secondExtra
  split <;> omega

/-- R51, R52: a row's share before the last sweep, and its cap in that. -/
def weightedShare (rest : Nat) (rows : List LiveRow) (r : LiveRow) : Nat :=
  r.f + firstExtra rest (weightE rows) r + secondExtra rest rows r

def weightedCap (rest : Nat) (rows : List LiveRow) (r : LiveRow) : Nat := if uncapped rest (weightE rows) r then r.q else 0

theorem weightedGrants_eq_sweep (rest : Nat) (rows : List LiveRow) : weightedGrants rest rows =
    sweep (rest - (rows.map (firstExtra rest (weightE rows))).sum - (rows.map (secondExtra rest rows)).sum)
      (rows.map fun r => (weightedShare rest rows r, weightedCap rest rows r)) := rfl

theorem weightedGrants_le : ∀ x ∈ (weightedGrants rest rows).zip rows, x.1 ≤ max x.2.f x.2.q := by
  rw [weightedGrants_eq_sweep]
  refine sweep_le_bound _ _ (fun r => max r.f r.q) rows (fun r _ => ⟨?_, ?_⟩) _
  · have hextras := extras_le_want (rest := rest) (rows := rows) r
    unfold LiveRow.want at hextras
    unfold weightedShare
    omega
  · unfold weightedCap
    split <;> omega

theorem sum_weightedShare : (rows.map (weightedShare rest rows)).sum =
    (rows.map (·.f)).sum + (rows.map (firstExtra rest (weightE rows))).sum + (rows.map (secondExtra rest rows)).sum := by
  show (rows.map fun r => r.f + firstExtra rest (weightE rows) r + secondExtra rest rows r).sum = _
  rw [List.sum_map_add, List.sum_map_add]

theorem sum_weightedGrants_le : (weightedGrants rest rows).sum ≤ (rows.map (·.f)).sum + rest := by
  have hfirst := sum_firstExtra_le (rest := rest) (rows := rows)
  have hsecond := sum_secondExtra_le (rest := rest) (rows := rows)
  have hshare := sum_weightedShare (rest := rest) (rows := rows)
  rw [weightedGrants_eq_sweep, sum_sweep, List.map_map]
  change (rows.map (weightedShare rest rows)).sum + _ ≤ _
  omega

theorem weightedGrants_eq_sweptOver (rest : Nat) (rows : List LiveRow) : weightedGrants rest rows =
    sweptOver ((rows.map (·.f)).sum + rest) (rows.map (weightedShare rest rows)) (rows.map (weightedCap rest rows)) := by
  rw [weightedGrants_eq_sweep, ← topUp_eq_sweptOver, topUp, List.zip_map', sum_weightedShare]
  congr 1
  omega

end Weighted

section Cases
variable {usable : Nat} {rows : List LiveRow}

theorem scaledFloor_le (hle : usable ≤ (rows.map (·.f)).sum) (f : Nat) : f * usable / (rows.map (·.f)).sum ≤ f :=
  Nat.div_le_of_le_mul (by rw [Nat.mul_comm f]; exact Nat.mul_le_mul_right f hle)

theorem sum_scaledFloors (hle : usable ≤ (rows.map (·.f)).sum) :
    (topUp usable ((rows.map (·.f)).map fun f => f * usable / (rows.map (·.f)).sum) (rows.map (·.f))).sum = usable := by
  rcases Nat.eq_zero_or_pos (rows.map (·.f)).sum with hzero | hpos
  · have husable : usable = 0 := by omega
    simp [topUp, sum_sweep, husable, Function.comp_def]
    rw [List.map_fst_zip (by simp)]
    simp
  · simpa [Function.comp_def] using sum_topUp_scaled rows (fun _ => 0) (·.f) hpos hle

/-- R50–R52: no station gets more than its floor and its demand, which is the demand where that covers the floor. -/
theorem liveGrants_le : ∀ x ∈ (liveGrants usable rows).zip rows, x.1 ≤ max x.2.f x.2.q := by
  unfold liveGrants
  dsimp only
  split
  · intro x hx
    have hzip : (rows.map (·.q)).zip rows = rows.map fun r => (r.q, r) := by
      simpa using List.zip_map' (f := LiveRow.q) (g := id) (l := rows)
    rw [hzip] at hx
    obtain ⟨r, -, rfl⟩ := List.mem_map.mp hx
    exact Nat.le_max_right _ _
  split
  next hle =>
    have hswept := sweep_le_bound (fun r : LiveRow => r.f * usable / (rows.map (·.f)).sum) (·.f)
      (fun r => max r.f r.q) rows
      (fun r _ => ⟨(scaledFloor_le hle r.f).trans (Nat.le_max_left _ _), Nat.le_max_left _ _⟩)
      (usable - ((rows.map (·.f)).map fun f => f * usable / (rows.map (·.f)).sum).sum)
    rw [topUp, List.map_map, List.zip_map']
    rwa [List.map_map] at hswept
  · exact weightedGrants_le

theorem liveGrants_le_q (h : ∀ r ∈ rows, r.f ≤ r.q) : ∀ x ∈ (liveGrants usable rows).zip rows, x.1 ≤ x.2.q := fun x hx => by
  have hle := liveGrants_le x hx
  rwa [Nat.max_eq_right (h x.2 (List.of_mem_zip hx).2)] at hle

theorem length_liveGrants : (liveGrants usable rows).length = rows.length := by
  unfold liveGrants
  dsimp only
  split
  · simp
  split
  · simp [topUp, length_sweep]
  · simp [weightedGrants_eq_sweep, length_sweep]

theorem sum_liveGrants_le : (liveGrants usable rows).sum ≤ usable := by
  unfold liveGrants
  dsimp only
  split
  next hle => exact hle
  split
  next hle => exact (sum_scaledFloors hle).le
  next hlt =>
    have hsum := sum_weightedGrants_le (rest := usable - (rows.map (·.f)).sum) (rows := rows)
    omega

end Cases

end Sys2Proof.Machine

namespace Sys2Proof.Proofs

open Sys2Proof.Machine

/-- Settles O46. -/
theorem grantCases : Obligations.GrantCases := by
  intro usable rows hrows
  have hfloors : ∀ r ∈ rows, r.f ≤ r.q := fun r hr => (hrows r hr).1
  refine ⟨length_liveGrants, fun hfit => ?_, fun hover hle => ?_, fun hover hlt => ?_, ?_, sum_liveGrants_le⟩
  · exact if_pos hfit
  · have hcase : liveGrants usable rows =
        topUp usable ((rows.map (·.f)).map fun f => f * usable / (rows.map (·.f)).sum) (rows.map (·.f)) := by
      simp only [liveGrants, hover.not_ge, hle, if_true, if_false]
    refine ⟨?_, by rw [hcase]; exact sum_scaledFloors hle⟩
    rw [hcase, topUp_eq_sweptOver, List.map_map]
    rfl
  · have hcase : liveGrants usable rows = weightedGrants (usable - (rows.map (·.f)).sum) rows := by
      simp only [liveGrants, hover.not_ge, hlt.not_ge, if_false]
    rw [hcase, weightedGrants_eq_sweptOver]
    refine congrArg₂ (sweptOver _) (List.map_congr_left fun r _ => ?_) (List.map_congr_left fun r _ => ?_)
    · simp only [weightedShare, secondExtra, uncapped_eq, firstExtra_eq, weightE_eq, LiveRow.want, decide_eq_true_eq]
    · simp only [weightedCap, uncapped_eq, weightE_eq, decide_eq_true_eq]
  · rw [List.all_eq_true]
    exact fun x hx => decide_eq_true (liveGrants_le_q hfloors x hx)

end Sys2Proof.Proofs

/-! SUPPORT. From the commands to the step: a condition that every command keeps, and that an idle millisecond keeps, is kept by every
step. -/

namespace Sys2Proof.Machine

section Steps
variable {P : State → Prop} {s t u : State}

/-- R77: a notice read from its bytes is taken as the command that hears it. -/
theorem exec_heardAs (n : Notice) (s : State) : exec n.heardAs s = unlessReset s (hearing n (passOn n)) := by
  obtain ⟨sender, seq, body⟩ := n
  cases body <;> rfl

/-- Bytes at the receiver do nothing, are counted as a discard, or are heard as the notice they spell. -/
theorem noticeDiscarded_cases {bytes : List Byte} (h : exec (.noticeDiscarded bytes) s = .next u) :
    u = s ∨ (∃ k, u = bump k s) ∨ ∃ n : Notice, exec n.heardAs s = .next u := by
  have hfull := h
  rcases unlessReset_cases h with ⟨-, rfl⟩ | ⟨hr, rfl⟩
  · exact .inl rfl
  · unfold receiveBytes
    split
    · exact .inl rfl
    · split
      · exact .inr (.inl ⟨_, rfl⟩)
      · exact .inr (.inl ⟨_, rfl⟩)
      · exact .inl rfl
      · next n _ => exact .inr (.inr ⟨n, (exec_heardAs n s).trans (unlessReset_of_not_inReset hr _)⟩)

theorem heardAs_ne_discarded (n : Notice) (bytes : List Byte) : n.heardAs ≠ .noticeDiscarded bytes := by
  unfold Notice.heardAs
  split <;> nofun

theorem waiter_of_empty {b : Bus} (h : b.queue = []) : b.waiter = none := by
  unfold Bus.waiter
  rw [h]
  split <;> rfl

theorem waitMilli_of_empty (h : s.bus.queue = []) : Machine.waitMilli s = s := by
  unfold Machine.waitMilli
  rw [waiter_of_empty h]

theorem ageRepeats_queue (f : RepeatRec → RepeatRec) (s : State) : (ageRepeats f s).bus.queue = s.bus.queue := by
  simp only [ageRepeats]

/-- An idle millisecond is a chain of what any command may do. -/
theorem idleStep_reach (c : Instr) : Reach (Allowed s c) s (Machine.idleStep s) := by
  by_cases hempty : s.bus.queue = []
  · unfold Machine.idleStep
    rw [waitMilli_of_empty ((ageRepeats_queue _ s).trans hempty)]
    exact .ite (fun _ => .refl) fun _ => Reach.ageRepeats (basics (k := .bus) trivial) RepeatRec.milli .refl
  · exact Reach.idleStep endings_of_any (left_of_queue hempty) .refl

/-- What every command and an idle millisecond keep, every step keeps. -/
theorem keeps_of_step (hqueue : ∀ l s, P s → P { s with pending := l })
    (hexec : ∀ c s u, (∀ bytes, c ≠ .noticeDiscarded bytes) → exec c s = .next u → P s → P u)
    (hbump : ∀ k s, P s → P (bump k s)) (hidle : ∀ s, P s → P (Machine.idleStep s)) (hs : P s) (h : step s = .next t) : P t := by
  rcases step_cases s with ⟨-, heq⟩ | ⟨c, rest, -, heq⟩
  · cases heq.symm.trans h
    exact hidle s hs
  · have hrest := hqueue rest s hs
    have hcmd : exec c { s with pending := rest } = .next t := heq.symm.trans h
    by_cases hc : ∃ bytes, c = .noticeDiscarded bytes
    · obtain ⟨bytes, rfl⟩ := hc
      rcases noticeDiscarded_cases hcmd with rfl | ⟨k, rfl⟩ | ⟨n, hn⟩
      · exact hrest
      · exact hbump k _ hrest
      · exact hexec _ _ _ (heardAs_ne_discarded n) hn hrest
    · exact hexec c _ t (fun bytes heq => hc ⟨bytes, heq⟩) hcmd hrest

/-- What every chain of a command's kinds keeps, every step keeps. -/
theorem keeps_of_reach (hP : ∀ c s u, Reach (Allowed s c) s u → P s → P u) (hs : P s) (h : step s = .next t) : P t := by
  refine keeps_of_step (fun l s => ?_) (fun c s u hc h => hP c s u (exec_reach hc h)) (fun k s => ?_) (fun s => ?_) hs h
  · exact hP .radioByteTimeout s _ (.of_move (k := .queue) trivial (.queue l s))
  · exact hP .radioByteTimeout s _ (Reach.bump (basics (k := .count) trivial) k .refl)
  · exact hP .radioByteTimeout s _ (idleStep_reach _)

end Steps

end Sys2Proof.Machine

/-! The transmit queue's bounds (R68), kept by every step. -/

namespace Sys2Proof.Machine

section TxQueue
variable {s t : State} {k : Kind}

theorem TxSafe.of_bus (h : TxSafe s) (hqueue : t.bus.queue = s.bus.queue) (haccess : t.bus.access = s.bus.access)
    (hnext : t.bus.nextId = s.bus.nextId) : TxSafe t :=
  txSafe_iff.mpr ((txSafe_iff.mp h).same hqueue hnext (by rw [haccess]; exact id))

theorem txSafe_of_empty (h : s.bus.queue = []) : TxSafe s := by
  constructor <;> simp [h]

/-- RESTART leaves at most the notice in transmission. -/
theorem Bus.Safe.restarted {b : Bus} (h : b.Safe) : b.restarted.Safe := by
  have hwaiting : b.clearWaiting.Safe := by
    refine h.thin List.filter_sublist (Nat.le_refl _) fun hne => ?_
    have hidle : b.access ≠ .sending := fun hsend => hne (by simp [Bus.clearWaiting, hsend])
    exact List.all_eq_true.mpr fun e he => List.all_eq_true.mp (h.sending hidle) e (List.mem_filter.mp he).1
  exact (hwaiting.touch (f := fun e => { e with orphan := true }) fun _ => ⟨rfl, rfl, rfl⟩).same rfl rfl id

theorem Move.txSafe (hk : k.single) (hmove : Move k s t) (hs : TxSafe s) : TxSafe t := by
  cases hmove
  case take b hlink => exact hs.takeNotice b
  case bus b h => exact h.safe hs
  case left => exact txSafe_of_empty (by simp)
  case restart => exact txSafe_iff.mpr (by simpa using (txSafe_iff.mp hs).restarted)
  case released => exact txSafe_of_empty rfl
  case release | leaving => exact hk.elim
  all_goals exact hs.of_bus (by simp) (by simp) (by simp)

end TxQueue

end Sys2Proof.Machine

namespace Sys2Proof.Proofs

open Sys2Proof.Machine

/-- Settles O9. -/
theorem transmitQueueKept : Obligations.TransmitQueueKept := fun _ _ hs h =>
  keeps_of_reach (fun _ _ _ hr => (hr.mono fun _ _ => trivial).keepsWhole whole_true fun hk _ => Move.txSafe hk) hs h

end Sys2Proof.Proofs

/-! The mailbox (R174), the rack queue (R108), the page queue (R142) and the other tables, kept by every step. -/

namespace Sys2Proof.Machine

section Mailbox
variable {s t : State} {k : Kind}

theorem mailboxSafe_of_empty {m : Mailbox} (h0 : m.bank0 = ⟨.empty, []⟩) (h1 : m.bank1 = ⟨.empty, []⟩)
    (horder : m.fullOrder = []) : MailboxSafe m := by
  constructor
  case size | full | notFull | empty | order =>
    exact fun i => by fin_cases i <;> simp [Mailbox.bank, h0, h1, horder]
  all_goals simp [h0, h1, horder]

theorem Move.mailboxSafe (hk : k.single) (hmove : Move k s t) (hs : MailboxSafe s.port.mailbox) : MailboxSafe t.port.mailbox := by
  cases hmove
  case report b => exact hs.put _ b
  case port p h => exact h.mailbox hs
  case restart =>
    rw [restartBlocks_port]
    exact mailboxSafe_of_empty rfl rfl rfl
  case released => exact mailboxSafe_of_empty rfl rfl rfl
  case release | leaving => exact hk.elim
  all_goals simpa using hs

end Mailbox

section Racks
variable {s t : State} {k : Kind}

/-- The racks' bounds rest on the racks, the next sequence, the sanitize minimum and, unconfigured, the conveyor and the enable
flag. -/
theorem RacksSafe.same (hs : RacksSafe s) (hracks : t.ware.racks = s.ware.racks) (hnext : t.ware.nextSeq = s.ware.nextSeq)
    (hmin : t.ware.sanMin = s.ware.sanMin) (hconf : t.port.configured = s.port.configured)
    (hoff : s.port.configured = false → t.ware.conveyor = .off) (henable : t.ware.enable = s.ware.enable) : RacksSafe t where
  room := by rw [hracks]; exact hs.room
  next := by rw [hnext]; exact hs.next
  numbers := by rw [hracks, hnext]; exact hs.numbers
  order := by rw [hracks]; exact hs.order
  clean := by rw [hracks, hmin]; exact hs.clean
  configured := fun hc =>
    have hc' := hconf.symm.trans hc
    ⟨hracks.trans (hs.configured hc').1, hoff hc', henable.trans (hs.configured hc').2.2⟩

theorem racksSafe_of_empty (hracks : t.ware.racks = []) (hnext : t.ware.nextSeq < 65536)
    (hoff : t.ware.conveyor = .off ∧ t.ware.enable = false ∨ t.port.configured = true) : RacksSafe t where
  room := by simp [hracks]
  next := hnext
  numbers := by simp [hracks]
  order := by simp [hracks]
  clean := by simp [hracks]
  configured := fun hc => ⟨hracks, hoff.resolve_right fun ht => by simp [hc] at ht⟩

/-- R114: at an unconfigured station the conveyor is OFF. -/
theorem driveConveyor_unconfigured (hc : s.port.configured = false) : (driveConveyor s).ware.conveyor = .off := by
  have htarget : s.conveyorTarget = .off := by simp [State.conveyorTarget, State.wareActive, hc]
  unfold driveConveyor
  dsimp only
  split <;> exact htarget

theorem evalConveyor_unconfigured (hc : s.port.configured = false) (hoff : s.ware.conveyor = .off) :
    (evalConveyor s).ware.conveyor = .off := by
  unfold evalConveyor
  rw [if_neg (by rw [hoff]; nofun)]
  exact driveConveyor_unconfigured hc

theorem Move.racksSafe (hk : k.single) (hmove : Move k s t) (hs : RacksSafe s) : RacksSafe t := by
  have hoff (hc : s.port.configured = false) : s.ware.conveyor = .off := (hs.configured hc).2.1
  cases hmove
  case ware w h henable => exact h.racks hs
  case enable w h => exact h.racks hs
  case drive => exact hs.same (by simp) (by simp) (by simp) (by simp) driveConveyor_unconfigured (by simp)
  case fault c h =>
    exact hs.same (by simp) (by simp) (by simp) (by simp) (fun hc => by rw [h hs] at hc; cases hc) (by simp)
  case link l _ _ _ =>
    refine hs.same (by simp) (by simp) (by simp) (by simp) (fun hc => ?_) (by simp)
    refine evalConveyor_unconfigured ?_ ?_ <;> split <;> simp [hc, hoff hc]
  case oe high =>
    refine hs.same (by simp) (by simp) (by simp) (by simp) (fun hc => ?_) (by simp)
    refine evalConveyor_unconfigured ?_ ?_ <;> split <;> simp [hc, hoff hc]
  case left => exact racksSafe_of_empty (by simp [Ware.cleared]) (by simpa [Ware.cleared] using hs.next) (by simp [Ware.cleared])
  case restart =>
    exact racksSafe_of_empty (by simp [Ware.cleared]) (by simpa [Ware.cleared] using hs.next) (by simp [Ware.cleared])
  case released straps draws missed => exact racksSafe_of_empty rfl (Nat.zero_lt_succ 65535) (.inl ⟨rfl, rfl⟩)
  case configure p hconf => exact racksSafe_of_empty (hs.configured hconf).1 hs.next (.inr rfl)
  case port p h => exact hs.same rfl rfl rfl h.configured hoff rfl
  case release | leaving => exact hk.elim
  all_goals exact hs.same (by simp) (by simp) (by simp) (by simp) (fun hc => by simpa using hoff hc) (by simp)

end Racks

section Pages
variable {s t : State} {k : Kind}

/-- The kinds but a page request out of range. -/
def Asked : Kind → Prop
  | .request n => 1 ≤ n ∧ n ≤ 7
  | _ => True

theorem whole_asked : Whole Asked where
  release _ _ := by intro k hk; cases k <;> first | trivial | exact hk.elim
  leaving _ := by intro k hk; cases k <;> first | trivial | exact hk.elim

theorem asked_of_allowed {c : Instr} (hs : PagesSafe s) : Admits Asked (Allowed s c) := by
  intro k hk
  cases k
  case request n => exact hk hs
  all_goals trivial

theorem PagesSafe.of_parts (hs : PagesSafe s) (hpages : t.page.pages = s.page.pages) (hnext : t.page.next = s.page.next)
    (hrules : t.route.rules = s.route.rules) (heval : t.route.evaluation = s.route.evaluation) : PagesSafe t where
  room := by rw [hpages]; exact hs.room
  numbers := by rw [hpages]; exact hs.numbers
  range := by rw [hpages]; exact hs.range
  next := by rw [hnext]; exact hs.next
  calls := by rw [hpages]; exact hs.calls
  attempts := by rw [hpages]; exact hs.attempts
  priorities := by rw [hpages]; exact hs.priorities
  rules := by rw [hrules]; exact hs.rules
  taken := by rw [heval]; exact hs.taken

theorem pagesSafe_of_empty (hpages : t.page.pages = []) (hnext : 1 ≤ t.page.next ∧ t.page.next ≤ 255)
    (hrules : t.route.rules.toList.all Rule.inRange = true) (heval : t.route.evaluation = none) : PagesSafe t := by
  constructor
  case next => exact hnext
  case rules => exact hrules
  all_goals simp [hpages, heval]

theorem PagesSafe.pageNotSent (hs : PagesSafe s) (id : Nat) : PagesSafe (pageNotSent id s) :=
  hs.withPage (hs.block.touch fun p _ => by split <;> exact ⟨rfl, rfl, rfl, rfl, rfl, fun x => x⟩)

theorem PagesSafe.takeNotice (hs : PagesSafe s) (b : Body) : PagesSafe (takeNotice b s) := by
  unfold Machine.takeNotice
  split
  · exact hs.of_parts rfl rfl rfl rfl
  · split
    · exact hs.of_parts rfl rfl rfl rfl
    · split
      · refine PagesSafe.pageNotSent ?_ _
        exact hs.of_parts rfl rfl rfl rfl
      · exact hs.of_parts rfl rfl rfl rfl

theorem Move.pagesSafe (hk : k.single) (hasked : Asked k) (hmove : Move k s t) (hs : PagesSafe s) : PagesSafe t := by
  cases hmove
  case take b hlink => exact hs.takeNotice b
  case page b hgroups h => exact h hs
  case request n b hgroups h => exact h hasked hs
  case rule i r h =>
    refine { hs with rules := ?_, taken := hs.taken }
    refine List.all_eq_true.mpr fun x hx => ?_
    rcases Vector.mem_or_eq_of_mem_set (hi := i.isLt) (Vector.mem_toList_iff.mp hx) with hx | rfl
    · exact List.all_eq_true.mp hs.rules x (Vector.mem_toList_iff.mpr hx)
    · exact h
  case route r h =>
    refine { hs with rules := by rw [h.rules]; exact hs.rules, taken := ?_ }
    cases he : r.evaluation with
    | none => simp [he]
    | some e =>
      rcases h.evaluation e he with hold | hrules
      · simpa [he, hold] using hs.taken
      · simpa [he, hrules] using hs.rules
  case left => exact pagesSafe_of_empty (by simp) (by simpa using hs.next) (by simpa using hs.rules) (by simp)
  case restart => exact pagesSafe_of_empty (by simp) (by simpa using hs.next) (by simpa using hs.rules) (by simp)
  case released straps draws missed =>
    exact (Sys2Proof.Proofs.resetMeetsAll straps s.oe).2.2.2.2.2.2.2.2.1.of_parts rfl rfl rfl rfl
  case release | leaving => exact hk.elim
  all_goals exact hs.of_parts (by simp) (by simp) (by simp) (by simp)

end Pages

/-! ### The other tables -/

section Tables
variable {s t : State} {k : Kind}

theorem length_queueEvent_le {q : List Event} (e : Event) (h : q.length ≤ 16) : (queueEvent q e).length ≤ 16 := by
  unfold queueEvent
  split
  · simp only [List.length_append, List.length_cons, List.length_nil]; omega
  split
  · split
    next i hi =>
      have hlt : i < q.length := (List.findIdx?_eq_some_iff_findIdx_eq.mp hi).1
      simp only [List.length_append, List.length_cons, List.length_nil, List.length_eraseIdx_of_lt hlt]
      omega
    · exact h
  · exact h

/-- R128: the event queue's bound. -/
def EventsFit (s : State) : Prop := s.route.events.length ≤ 16

theorem EventsFit.raise (h : EventsFit s) (e : Event) : EventsFit (raise e s) := by
  unfold EventsFit Machine.raise
  dsimp only
  split
  · exact length_queueEvent_le e h
  · exact h

theorem EventsFit.evalConveyor (h : EventsFit s) : EventsFit (evalConveyor s) := by
  unfold Machine.evalConveyor Machine.driveConveyor
  dsimp only
  split
  · exact h
  split
  · exact EventsFit.raise (s := mapWare (·.move s.conveyorTarget) s) h _
  · exact h

theorem EventsFit.driveConveyor (h : EventsFit s) : EventsFit (driveConveyor s) := by
  unfold Machine.driveConveyor
  dsimp only
  split
  · exact EventsFit.raise (s := mapWare (·.move s.conveyorTarget) s) h _
  · exact h

theorem EventsFit.same (h : EventsFit s) (heq : t.route.events = s.route.events) : EventsFit t := by
  rw [EventsFit, heq]
  exact h

theorem eventsFit_of_nil (h : t.route.events = []) : EventsFit t := by
  rw [EventsFit, h]
  exact Nat.zero_le _

theorem Move.eventsFit (hk : k.single) (hmove : Move k s t) (hs : EventsFit s) : EventsFit t := by
  cases hmove
  case event e => exact hs.raise e
  case drive => exact hs.driveConveyor
  case fault c h =>
    unfold faultConveyor
    split
    · exact hs
    · exact EventsFit.raise (s := mapWare _ s) hs _
  case link l _ _ _ =>
    refine EventsFit.evalConveyor (hs.same ?_)
    split <;> simp
  case oe high =>
    refine EventsFit.evalConveyor (hs.same ?_)
    split <;> simp
  case route r h => exact h.events.trans hs
  case left | restart => exact eventsFit_of_nil (by simp)
  case released => exact eventsFit_of_nil rfl
  case release | leaving => exact hk.elim
  all_goals exact hs.same (by simp)

theorem Move.scheduleRoom (hk : k.single) (hmove : Move k s t) (hs : s.course.schedule.length ≤ 8) :
    t.course.schedule.length ≤ 8 := by
  cases hmove
  case schedule l h => exact h.2.elim (fun hle => hle.trans hs) id
  case left | restart => simp [Course.cleared]
  case released => exact Nat.zero_le _
  case release | leaving => exact hk.elim
  all_goals simpa using hs

theorem Move.clearingFits (hk : k.single) (hmove : Move k s t) (hs : ClearingFits s.course.clearing) :
    ClearingFits t.course.clearing := by
  cases hmove
  case clearing l h => exact h hs
  case left | restart => simp [Course.cleared, ClearingFits]
  case released => exact ⟨Nat.zero_le _, .nil⟩
  case release | leaving => exact hk.elim
  all_goals simpa using hs

theorem peersFit_nil (own : Station) : PeersFit own [] := ⟨by simp, .nil, by simp, by simp, by simp⟩
theorem washFits_nil (own : Station) : WashFits own [] := ⟨by simp, .nil, by simp, by simp⟩

theorem State.declaredF_le_declaredQ (s : State) : s.declaredF ≤ s.declaredQ :=
  List.sum_le_sum fun _ _ => Nat.min_le_left _ _

/-- A grant read from the live table is 0 or that of a row of the station, within its figures and the usable limit. -/
theorem grantIn_liveTable (st : Station) : grantIn s.liveTable st = 0 ∨
    ∃ r ∈ s.liveRows, r.station = st ∧ grantIn s.liveTable st ≤ max r.f r.q ∧ grantIn s.liveTable st ≤ s.load.usable := by
  unfold grantIn
  cases hfind : s.liveTable.find? (·.1 == st) with
  | none => exact .inl rfl
  | some x =>
    have hx : x.1 = st := by simpa using List.find?_some hfind
    have hmem : x ∈ s.liveTable := List.mem_of_find?_eq_some hfind
    obtain ⟨i, hi, rfl⟩ := List.mem_iff_getElem.mp hmem
    have hlen : i < s.liveRows.length := by
      simp only [State.liveTable, List.length_zip, List.length_map] at hi
      omega
    have hgrants : i < (liveGrants s.load.usable s.liveRows).length := length_liveGrants ▸ hlen
    refine .inr ⟨s.liveRows[i], List.getElem_mem _, ?_, ?_, ?_⟩
    · rw [← hx]
      simp [State.liveTable]
    · have hzip : ((liveGrants s.load.usable s.liveRows)[i], s.liveRows[i]) ∈
          (liveGrants s.load.usable s.liveRows).zip s.liveRows := by
        rw [← List.getElem_zip (h := by simp [length_liveGrants]; exact hlen)]
        exact List.getElem_mem _
      simpa [State.liveTable] using liveGrants_le _ hzip
    · have hsum := (List.le_sum_of_mem (List.getElem_mem hgrants)).trans sum_liveGrants_le
      simpa [State.liveTable] using hsum

/-- A peer's computed grant is at most its demand. -/
theorem grantIn_liveTable_peer (hfit : PeersFit s.own s.load.peers) {p : Peer} (hp : p ∈ s.load.peers) :
    grantIn s.liveTable p.station ≤ 2040 := by
  rcases grantIn_liveTable (s := s) p.station with h0 | ⟨r, hr, hst, hle, -⟩
  · omega
  · refine hle.trans ?_
    simp only [State.liveRows, List.mem_append, List.mem_cons, List.mem_map, List.mem_filter] at hr
    have hpeer {x : Peer} (hx : x ∈ s.load.peers) : max x.f x.q ≤ 2040 :=
      max_le ((hfit.ranges x hx).2.1.trans (hfit.ranges x hx).1) (hfit.ranges x hx).1
    rcases hr with ⟨x, ⟨hx, -⟩, rfl⟩ | rfl | ⟨x, ⟨hx, -⟩, rfl⟩
    · exact hpeer hx
    · exact absurd hst.symm (hfit.others p hp).2
    · exact hpeer hx

/-- Peers change only their computed grants, within their bound. -/
theorem PeersFit.regrant {own : Station} {l : List Peer} (h : PeersFit own l) {g : Peer → Nat} (hg : ∀ p ∈ l, g p ≤ 6000) :
    PeersFit own (l.map fun p => { p with grant := g p }) where
  length := by simpa using h.length
  order := List.pairwise_map.mpr h.order
  others := by simpa using h.others
  ranges := by simpa using h.ranges
  figures := by
    intro p hp
    obtain ⟨x, hx, rfl⟩ := List.mem_map.mp hp
    obtain ⟨hd, hl, hl', -⟩ := h.figures x hx
    exact ⟨hd, hl, hl', hg x hx⟩

theorem PeersFit.computed (h : PeersFit s.own s.load.peers) : PeersFit s.own (computeGrant s).load.peers := by
  refine h.regrant fun p hp => ?_
  split
  · exact (grantIn_liveTable_peer h hp).trans (by omega)
  · simp [grantIn]

theorem own_eq_of_straps (h : t.port.straps = s.port.straps) : t.own = s.own := congrArg Straps.number h

theorem peersFit_of_same (hs : PeersFit s.own s.load.peers) (hstraps : t.port.straps = s.port.straps)
    (hpeers : t.load.peers = s.load.peers) : PeersFit t.own t.load.peers := by
  rw [own_eq_of_straps hstraps, hpeers]
  exact hs

theorem Move.peersFit (hk : k.single) (hmove : Move k s t) (hs : PeersFit s.own s.load.peers) :
    PeersFit t.own t.load.peers := by
  cases hmove
  case peers l hfit _ => exact hfit hs
  case unpeer l hfit => exact hfit hs
  case load l h hpeers => exact peersFit_of_same hs rfl hpeers
  case compute => exact hs.computed
  case port p h => exact peersFit_of_same hs h.straps rfl
  case left | restart => simpa [Load.cleared] using peersFit_nil _
  case released => exact peersFit_nil _
  case release | leaving => exact hk.elim
  all_goals exact peersFit_of_same hs (by simp) (by simp)

theorem washFits_of_same (hs : WashFits s.own s.ware.wash) (hstraps : t.port.straps = s.port.straps)
    (hwash : t.ware.wash = s.ware.wash) : WashFits t.own t.ware.wash := by
  rw [own_eq_of_straps hstraps, hwash]
  exact hs

theorem Move.washFits (hk : k.single) (hmove : Move k s t) (hs : WashFits s.own s.ware.wash) :
    WashFits t.own t.ware.wash := by
  cases hmove
  case ware w h _ => exact h.wash hs
  case enable w h => exact h.wash hs
  case port p h => exact washFits_of_same hs h.straps rfl
  case left | restart => simpa [Ware.cleared] using washFits_nil _
  case released => exact washFits_nil _
  case configure p hconf => exact washFits_of_same hs rfl rfl
  case release | leaving => exact hk.elim
  all_goals exact washFits_of_same hs (by simp) (by simp)

theorem Move.clockFits (hk : k.single) (hmove : Move k s t) (hs : s.course.clock ≤ 86399) : t.course.clock ≤ 86399 := by
  cases hmove
  case clock n h => exact h
  case left | restart => simpa [Course.cleared] using hs
  case released => exact Nat.zero_le _
  case release | leaving => exact hk.elim
  all_goals simpa using hs

theorem Move.stepFits (hk : k.single) (hmove : Move k s t) (hs : s.heat.step < 20) : t.heat.step < 20 := by
  cases hmove
  case nextStep => exact Nat.mod_lt _ (by omega)
  case released => exact Nat.zero_lt_succ _
  case release | leaving => exact hk.elim
  all_goals simpa using hs

theorem Move.agesFit (hk : k.single) (hmove : Move k s t) (hs : ∀ z : ZoneNo, s.heat.zones[z].age ≤ 6) :
    ∀ z : ZoneNo, t.heat.zones[z].age ≤ 6 := by
  have of_alike {t : State} (h : ∀ z : ZoneNo, s.heat.zones[z].Alike t.heat.zones[z]) (z : ZoneNo) :
      t.heat.zones[z].age ≤ 6 := (h z).age.trans_le (hs z)
  have of_heat {t : State} (h : t.heat = s.heat) (z : ZoneNo) : t.heat.zones[z].age ≤ 6 := by
    rw [h]
    exact hs z
  cases hmove
  case run z r _ => exact of_alike fun y => (setRun_stays z y r s).alike
  case done z _ => exact of_alike fun y => (setRun_stays z y _ s).alike
  case sample z zn h | settings z zn h _ =>
    intro y
    rw [mapZone_zone]
    split
    · exact h.age (hs z)
    · exact hs y
  case window => exact of_alike (windowStart_alike s)
  case outputs => exact of_alike (setOutputs_alike s)
  case off => exact of_alike fun z => (outputsOff_stays s z).alike
  case grant m => exact of_alike fun z => (lowerGrant_stays m s z).alike
  case ramp => exact of_alike fun z => (applyGrant_stays _ s z).alike
  case link l _ _ _ => exact of_alike fun z => (relink_stays l s z).alike
  case oe high => exact of_alike fun z => (setOe_stays high s z).alike
  case left => exact of_alike fun z => (enterLeft_stays s z).alike
  case restart =>
    intro z
    rw [restartBlocks_zone]
  case released straps draws missed =>
    exact (Sys2Proof.Proofs.resetMeetsAll straps s.oe).2.2.2.2.2.2.2.2.2.2.ages
  case release | leaving => exact hk.elim
  case nextStep => exact hs
  all_goals exact of_heat (by simp)

theorem tablesSafe_iff : TablesSafe s ↔ EventsFit s ∧ s.course.schedule.length ≤ 8 ∧ EntriesFit s ∧
    ClearingFits s.course.clearing ∧ PeersFit s.own s.load.peers ∧ WashFits s.own s.ware.wash ∧ s.course.clock ≤ 86399 ∧
    s.heat.step < 20 ∧ ∀ z : ZoneNo, s.heat.zones[z].age ≤ 6 := by
  constructor
  · intro h
    exact ⟨h.events, h.schedule, h.entries, h.clearing,
      ⟨h.peers, h.peerOrder, h.peerOthers, h.peerRanges, h.peerFigures⟩,
      ⟨h.wash, h.washOrder, h.washOthers, h.washRanges⟩, h.clock, h.step, h.ages⟩
  · rintro ⟨hevents, hroom, hentries, hclearing, hpeers, hwash, hclock, hstep, hages⟩
    exact ⟨hevents, hroom, hentries, hclearing, hpeers.length, hpeers.order, hpeers.others, hpeers.ranges, hpeers.figures,
      hwash.length, hwash.order, hwash.others, hwash.ranges, hclock, hstep, hages⟩

theorem Move.tablesSafe (hk : k.single) (hmove : Move k s t) (hs : TablesSafe s) : TablesSafe t := by
  obtain ⟨hevents, hroom, hentries, hclearing, hpeers, hwash, hclock, hstep, hages⟩ := tablesSafe_iff.mp hs
  exact tablesSafe_iff.mpr ⟨hmove.eventsFit hk hevents, hmove.scheduleRoom hk hroom, hmove.entriesFit hk hentries,
    hmove.clearingFits hk hclearing, hmove.peersFit hk hpeers, hmove.washFits hk hwash, hmove.clockFits hk hclock,
    hmove.stepFits hk hstep, hmove.agesFit hk hages⟩

end Tables

end Sys2Proof.Machine

namespace Sys2Proof.Proofs

open Sys2Proof.Machine

/-- Settles O14. -/
theorem racksKept : Obligations.RacksKept := fun _ _ hs h =>
  keeps_of_reach (fun _ _ _ hr => (hr.mono fun _ _ => trivial).keepsWhole whole_true fun hk _ => Move.racksSafe hk) hs h

/-- Settles O16. -/
theorem pagesKept : Obligations.PagesKept := fun _ _ hs h =>
  keeps_of_reach (fun _ _ _ hr hs => (hr.mono (asked_of_allowed hs)).keepsWhole whole_asked Move.pagesSafe hs) hs h

/-- Settles O18. -/
theorem tablesKept : Obligations.TablesKept := fun _ _ hs h =>
  keeps_of_reach (fun _ _ _ hr => (hr.mono fun _ _ => trivial).keepsWhole whole_true fun hk _ => Move.tablesSafe hk) hs h

/-- Settles O15. -/
theorem mailboxKept : Obligations.MailboxKept := fun _ _ hs h =>
  keeps_of_reach (P := fun s => MailboxSafe s.port.mailbox)
    (fun _ _ _ hr => (hr.mono fun _ _ => trivial).keepsWhole whole_true fun hk _ => Move.mailboxSafe hk) hs h

end Sys2Proof.Proofs

/-! The course board's form (R85, R93), kept by every step. The stations that have just left the peer table may still hold member
entries until the course block has been told of each: `BoardBut` allows them by name. -/

namespace Sys2Proof.Machine

section Records
variable {s : State} {board : List CourseRec} {r x : CourseRec}

/-- On a board with no two records of one course, the record found for a course is the one there. -/
theorem recOf_of_mem (hnodup : (s.course.board.map (·.course)).Nodup) (hr : r ∈ s.course.board) : s.recOf r.course = some r := by
  unfold State.recOf
  generalize s.course.board = board at hnodup hr
  induction board with
  | nil => cases hr
  | cons y l ih =>
    obtain ⟨hy, hl⟩ := List.nodup_cons.mp hnodup
    rcases List.mem_cons.mp hr with rfl | hr
    · simp
    · have hne : y.course ≠ r.course := fun heq => hy (List.mem_map.mpr ⟨r, hr, heq.symm⟩)
      rw [List.find?_cons_of_neg (by simpa using hne)]
      exact ih hl hr

/-- A record left on the board is one that stood there for another course, its release order moved at most. -/
theorem mem_withoutRec (h : x ∈ withoutRec r board) :
    ∃ y ∈ board, y.course ≠ r.course ∧ ∃ o, x = { y with releaseOrder := o } := by
  obtain ⟨y, hy, rfl⟩ := List.mem_map.mp h
  obtain ⟨hy, hne⟩ := List.mem_filter.mp hy
  refine ⟨y, hy, by simpa using hne, ?_⟩
  split
  · split
    · exact ⟨_, rfl⟩
    · exact ⟨y.releaseOrder, rfl⟩
  · exact ⟨y.releaseOrder, rfl⟩

theorem withoutRec_courses (r : CourseRec) (board : List CourseRec) :
    (withoutRec r board).map (·.course) = (board.filter (·.course != r.course)).map (·.course) := by
  unfold withoutRec
  rw [List.map_map]
  refine List.map_congr_left fun x _ => ?_
  simp only [Function.comp_apply]
  split
  · split <;> rfl
  · rfl

theorem length_withoutRec_lt (hr : r ∈ board) : (withoutRec r board).length < board.length := by
  unfold withoutRec
  rw [List.length_map]
  exact List.length_filter_lt_length_iff_exists.mpr ⟨r, hr, by simp⟩

theorem length_withoutRec_le (r : CourseRec) (board : List CourseRec) : (withoutRec r board).length ≤ board.length := by
  unfold withoutRec
  rw [List.length_map]
  exact List.length_filter_le _ _

theorem earliestReleased_mem (h : earliestReleased board = some r) : r ∈ board ∧ r.state = .released := by
  obtain ⟨l, n, _, -, hn, -⟩ := List.findSome?_eq_some_iff.mp h
  have hprop := List.find?_some hn
  simp only [Bool.and_eq_true, beq_iff_eq] at hprop
  exact ⟨List.mem_of_find?_eq_some hn, hprop.1⟩

/-- A record is added behind those that stand, one of them removed at most. -/
theorem addRec_cases (r : CourseRec) (s : State) :
    (s.course.board.length < 4 ∧ (addRec r s).course.board = s.course.board ++ [r]) ∨
    (∃ x ∈ s.course.board, (addRec r s).course.board = withoutRec x s.course.board ++ [r]) ∨
    (addRec r s).course.board = s.course.board := by
  unfold addRec
  split
  next hroom => exact .inl ⟨hroom, rfl⟩
  next =>
    split
    next x hx => exact .inr (.inl ⟨x, (earliestReleased_mem hx).1, rfl⟩)
    next => exact .inr (.inr rfl)

theorem removeRec_cases (c : CourseNo) (s : State) :
    (∃ x, s.recOf c = some x ∧ (removeRec c s).course.board = withoutRec x s.course.board) ∨
    (removeRec c s).course.board = s.course.board := by
  unfold removeRec
  split
  next x hx => exact .inl ⟨x, hx, rfl⟩
  next => exact .inr rfl

end Records

/-- The board's form (R85, R93), but that a member entry may be of a station named. -/
structure BoardBut (Q : CourseNo → Station → Prop) (s : State) : Prop where
  room : s.course.board.length ≤ 4
  courses : (s.course.board.map (·.course)).Nodup
  order : ∀ r ∈ s.course.board, r.members.Pairwise fun a b => a.station < b.station
  members : ∀ r ∈ s.course.board, ∀ m ∈ r.members,
    m.station = s.own ∨ s.load.peers.any (·.station == m.station) = true ∨ Q r.course m.station

section Board
variable {Q Q' : CourseNo → Station → Prop} {s t : State} {k : Kind}

theorem boardSafe_iff : BoardSafe s ↔ BoardBut (fun _ _ => False) s :=
  ⟨fun h => ⟨h.room, h.courses, h.order, fun r hr m hm => (h.members r hr m hm).imp_right .inl⟩,
    fun h => ⟨h.room, h.courses, h.order, fun r hr m hm => (h.members r hr m hm).imp_right fun hp => hp.resolve_right id⟩⟩

theorem BoardBut.mono (h : BoardBut Q s) (hQ : ∀ r ∈ s.course.board, ∀ x, Q r.course x → Q' r.course x) : BoardBut Q' s :=
  { h with members := fun r hr m hm => (h.members r hr m hm).imp_right fun hp => hp.imp_right (hQ r hr _) }

theorem BoardBut.same (h : BoardBut Q s) (hboard : t.course.board = s.course.board) (hstraps : t.port.straps = s.port.straps)
    (hpeers : ∀ x, s.load.peers.any (·.station == x) = true → t.load.peers.any (·.station == x) = true) : BoardBut Q t where
  room := by rw [hboard]; exact h.room
  courses := by rw [hboard]; exact h.courses
  order := by rw [hboard]; exact h.order
  members := by
    rw [hboard, own_eq_of_straps hstraps]
    exact fun r hr m hm => (h.members r hr m hm).imp_right fun hp => hp.imp_left (hpeers _)

theorem boardBut_of_nil (h : t.course.board = []) : BoardBut Q t := by
  constructor <;> simp [h]

/-- A board whose records are those that stood, each with its members in order and no other station among them. -/
theorem BoardBut.rebuild (h : BoardBut Q s) {board : List CourseRec} (hroom : board.length ≤ 4)
    (hcourses : (board.map (·.course)).Nodup)
    (hmem : ∀ x ∈ board, x.members = [] ∨ ∃ y ∈ s.course.board, x.course = y.course ∧ x.members = y.members) :
    BoardBut Q { s with course := { s.course with board := board } } where
  room := hroom
  courses := hcourses
  order := fun x hx => by
    rcases hmem x hx with hnil | ⟨y, hy, -, heq⟩
    · simp [hnil]
    · rw [heq]; exact h.order y hy
  members := fun x hx m hm => by
    rcases hmem x hx with hnil | ⟨y, hy, hc, heq⟩
    · simp [hnil] at hm
    · rw [hc]; exact h.members y hy m (heq ▸ hm)

theorem BoardBut.of_board (h : BoardBut Q s) (hboard : t.course.board.length ≤ 4)
    (hcourses : (t.course.board.map (·.course)).Nodup)
    (hmem : ∀ x ∈ t.course.board, x.members = [] ∨ ∃ y ∈ s.course.board, x.course = y.course ∧ x.members = y.members)
    (hstraps : t.port.straps = s.port.straps) (hpeers : t.load.peers = s.load.peers) : BoardBut Q t :=
  (h.rebuild hboard hcourses hmem).same rfl hstraps fun x hx => by rw [hpeers]; exact hx

theorem mapRec_course_map {c : CourseNo} {f : CourseRec → CourseRec} (hf : ∀ r, (f r).course = r.course)
    (board : List CourseRec) : (board.map fun r => if r.course = c then f r else r).map (·.course) = board.map (·.course) := by
  rw [List.map_map]
  refine List.map_congr_left fun r _ => ?_
  simp only [Function.comp_apply]
  split
  · exact hf r
  · rfl

/-- A change of one record whose members are in order, and are those that stood, the station's own or a peer's. -/
theorem BoardBut.mapRec (h : BoardBut Q s) {c : CourseNo} {f : CourseRec → CourseRec} (hf : ∀ r, (f r).course = r.course)
    (horder : ∀ r, s.recOf c = some r → r.members.Pairwise (fun a b => a.station < b.station) →
      (f r).members.Pairwise fun a b => a.station < b.station)
    (hmembers : ∀ r, s.recOf c = some r → ∀ m ∈ (f r).members,
      m.station = s.own ∨ s.load.peers.any (·.station == m.station) = true ∨ Q' c m.station ∨
        ∃ m₀ ∈ r.members, m₀.station = m.station ∧ (Q c m.station → Q' c m.station))
    (hothers : ∀ d x, d ≠ c → Q d x → Q' d x) : BoardBut Q' (mapRec c f s) where
  room := by simpa [Machine.mapRec] using h.room
  courses := (mapRec_course_map hf _).symm ▸ h.courses
  order := fun x hx => by
    obtain ⟨r, hr, rfl⟩ := List.mem_map.mp hx
    split
    next hc => exact horder r (hc ▸ recOf_of_mem h.courses hr) (h.order r hr)
    next => exact h.order r hr
  members := fun x hx => by
    obtain ⟨r, hr, rfl⟩ := List.mem_map.mp hx
    split
    next hc =>
      intro m hm
      subst hc
      rw [hf]
      rcases hmembers r (recOf_of_mem h.courses hr) m hm with hown | hpeer | hQ | ⟨m₀, hm₀, hst, himp⟩
      · exact .inl hown
      · exact .inr (.inl hpeer)
      · exact .inr (.inr hQ)
      · rw [← hst] at himp ⊢
        exact (h.members r hr m₀ hm₀).imp_right fun hp => hp.imp_right himp
    next hne => exact fun m hm => (h.members r hr m hm).imp_right fun hp => hp.imp_right (hothers _ _ hne)

theorem peers_of_isMemberPeer {st : Station} (h : s.isMemberPeer st = true) : s.load.peers.any (·.station == st) = true := by
  simp only [State.isMemberPeer, Bool.and_eq_true] at h
  exact h.2

theorem Move.boardBut (hk : k.single) (hno : k ≠ .unpeer) (hmove : Move k s t) (hs : BoardBut Q s) : BoardBut Q t := by
  cases hmove
  case record c f hcourse h =>
    refine hs.mapRec hcourse (fun r hr => (h r hr).order) (fun r hr m hm => ?_) fun _ _ _ => id
    rcases (h r hr).members m hm with hown | hpeer | ⟨m₀, hm₀, hst⟩
    · exact .inl hown
    · exact .inr (.inl (peers_of_isMemberPeer hpeer))
    · exact .inr (.inr (.inr ⟨m₀, hm₀, hst, id⟩))
  case enterReleased r _ _ =>
    exact hs.mapRec (fun _ => rfl) (fun _ _ => id) (fun r hr m hm => .inr (.inr (.inr ⟨m, hm, rfl, id⟩))) fun _ _ _ => id
  case add r hnew hnone =>
    have hempty : r.members = [] := by
      obtain ⟨c, plates, auto, delay, rfl, -, -⟩ := hnew
      rfl
    have habsent : r.course ∉ s.course.board.map (·.course) := by
      intro hin
      obtain ⟨x, hx, hxc⟩ := List.mem_map.mp hin
      rw [← hxc, recOf_of_mem hs.courses hx] at hnone
      cases hnone
    have hmem : ∀ x ∈ (addRec r s).course.board,
        x.members = [] ∨ ∃ y ∈ s.course.board, x.course = y.course ∧ x.members = y.members := by
      intro x hx
      rcases addRec_cases r s with ⟨-, heq⟩ | ⟨y, -, heq⟩ | heq <;> rw [heq] at hx
      · rcases List.mem_append.mp hx with hx | hx
        · exact .inr ⟨x, hx, rfl, rfl⟩
        · exact .inl (by rw [List.mem_singleton.mp hx, hempty])
      · rcases List.mem_append.mp hx with hx | hx
        · obtain ⟨z, hz, -, o, rfl⟩ := mem_withoutRec hx
          exact .inr ⟨z, hz, rfl, rfl⟩
        · exact .inl (by rw [List.mem_singleton.mp hx, hempty])
      · exact .inr ⟨x, hx, rfl, rfl⟩
    refine hs.of_board ?_ ?_ hmem (by simp) (by simp)
    · rcases addRec_cases r s with ⟨hroom, heq⟩ | ⟨y, hy, heq⟩ | heq <;> rw [heq]
      · simpa using hroom
      · have hlt := length_withoutRec_lt hy
        have hle := hs.room
        simp only [List.length_append, List.length_cons, List.length_nil]
        omega
      · exact hs.room
    · rcases addRec_cases r s with ⟨hroom, heq⟩ | ⟨y, hy, heq⟩ | heq <;> rw [heq]
      · rw [List.map_append]
        exact List.nodup_append_comm.mp (List.nodup_cons.mpr ⟨habsent, hs.courses⟩)
      · rw [List.map_append, withoutRec_courses]
        have hsub : (s.course.board.filter (·.course != y.course)).map (·.course) |>.Sublist (s.course.board.map (·.course)) :=
          List.filter_sublist.map _
        exact List.nodup_append_comm.mp (List.nodup_cons.mpr ⟨fun hin => habsent (hsub.subset hin), hs.courses.sublist hsub⟩)
      · exact hs.courses
  case remove c =>
    rcases removeRec_cases c s with ⟨x, hx, heq⟩ | heq
    · refine hs.of_board ?_ ?_ ?_ (by simp) (by simp) <;> rw [heq]
      · exact (length_withoutRec_le x _).trans hs.room
      · rw [withoutRec_courses]
        exact hs.courses.sublist (List.filter_sublist.map _)
      · intro y hy
        obtain ⟨z, hz, -, o, rfl⟩ := mem_withoutRec hy
        exact .inr ⟨z, hz, rfl, rfl⟩
    · exact hs.same heq (by simp) (by simp)
  case peers l hfit hmore => exact hs.same rfl rfl hmore
  case unpeer => exact absurd rfl hno
  case load l h hpeers => exact hs.same rfl rfl fun x hx => by rw [hpeers]; exact hx
  case compute =>
    refine hs.same rfl rfl fun x hx => ?_
    simpa [computeGrant, List.any_map, Function.comp_def] using hx
  case port p h => exact hs.same rfl h.straps fun _ => id
  case left | restart => exact boardBut_of_nil (by simp [Course.cleared])
  case released => exact boardBut_of_nil rfl
  case release | leaving => exact hk.elim
  all_goals exact hs.same (by simp) (by simp) (by simp)

theorem whole_noUnpeer : Whole (· ≠ .unpeer) where
  release _ _ := by intro k hk; cases k <;> first | exact hk.elim | nofun
  leaving _ := by intro k hk; cases k <;> first | exact hk.elim | nofun

theorem Reach.boardBut (h : Reach (· ≠ .unpeer) s t) (hs : BoardBut Q s) : BoardBut Q t :=
  h.keepsWhole whole_noUnpeer Move.boardBut hs

/-! ### A peer lost -/

theorem reacts_noUnpeer {c : CourseNo} : Admits (· ≠ .unpeer) (reactsOn c) := by
  intro k hk; cases k <;> first | exact hk.elim | nofun

theorem wares_noUnpeer : Admits (· ≠ .unpeer) wares := by
  intro k hk; cases k <;> first | exact hk.elim | nofun

theorem relinks_noUnpeer : Admits (· ≠ .unpeer) relinks := by
  intro k hk; cases k <;> first | exact hk.elim | nofun

/-- R103: the record of one course loses the station. -/
theorem BoardBut.loseMember (h : BoardBut Q s) (st : Station) (c : CourseNo) :
    BoardBut (fun d x => Q d x ∧ ¬(d = c ∧ x = st)) (loseMember st c s) := by
  have hnone (hno : ∀ r ∈ s.course.board, r.course = c → ∀ m ∈ r.members, m.station ≠ st) :
      BoardBut (fun d x => Q d x ∧ ¬(d = c ∧ x = st)) s :=
    { h with members := fun r hr m hm => (h.members r hr m hm).imp_right fun hp => hp.imp_right fun hq =>
        ⟨hq, fun hcx => hno r hr hcx.1 m hm hcx.2⟩ }
  unfold Machine.loseMember
  split
  next hrec =>
    refine hnone fun r hr hc => ?_
    rw [← hc, recOf_of_mem h.courses hr] at hrec
    cases hrec
  next r hrec =>
    have hdropped : BoardBut (fun d x => Q d x ∧ ¬(d = c ∧ x = st))
        (Machine.mapRec c (fun x => { x with members := dropMember st r.members }) s) := by
      refine h.mapRec (fun _ => rfl) (fun x hx hp => ?_) (fun x hx m hm => ?_) fun d x hne hq => ⟨hq, fun hcx => hne hcx.1⟩
      · obtain rfl : x = r := Option.some.inj (hx.symm.trans hrec)
        exact hp.filter _
      · obtain rfl : x = r := Option.some.inj (hx.symm.trans hrec)
        obtain ⟨hm, hne⟩ := mem_dropMember.mp hm
        exact .inr (.inr (.inr ⟨m, hm, rfl, fun hq => ⟨hq, fun hcx => hne hcx.2⟩⟩))
    split
    next habsent =>
      refine hnone fun x hx hc m hm hst => ?_
      obtain rfl : x = r := Option.some.inj ((hc ▸ recOf_of_mem h.courses hx).symm.trans hrec)
      simp only [CourseRec.member, Option.isNone_iff_eq_none, List.find?_eq_none, beq_iff_eq] at habsent
      exact habsent m hm hst
    next =>
      split
      · exact hdropped
      · have hreports {e : Event} {b : ReportBody} {u : State} : Reach (· ≠ .unpeer) u (evalReady c (makeReport b (raise e u))) :=
          Reach.evalReady (K := (· ≠ .unpeer)) reacts_noUnpeer (Reach.makeReport (K := (· ≠ .unpeer)) nofun b
            (Reach.raise (K := (· ≠ .unpeer)) nofun e .refl))
        exact hreports.boardBut hdropped

theorem BoardBut.loseMembersOf (h : BoardBut Q s) (st : Station) (l : List CourseNo) :
    BoardBut (fun d x => Q d x ∧ ¬(d ∈ l ∧ x = st)) (l.foldl (fun s c => Machine.loseMember st c s) s) := by
  induction l generalizing Q s with
  | nil => exact h.mono fun _ _ _ hq => ⟨hq, by simp⟩
  | cons c l ih =>
    refine (ih (h.loseMember st c)).mono fun r _ x hq => ⟨hq.1.1, fun hin => ?_⟩
    rcases List.mem_cons.mp hin.1 with hc | hl
    · exact hq.1.2 ⟨hc, hin.2⟩
    · exact hq.2 ⟨hl, hin.2⟩

/-- R103: no record keeps a member entry of the station for having held it. -/
theorem BoardBut.loseMembers (h : BoardBut Q s) (st : Station) : BoardBut (fun d x => Q d x ∧ x ≠ st) (loseMembers st s) := by
  have hon : BoardBut (fun d x => Q d x ∧ d ∈ s.boardCourses) s := h.mono fun r hr x hq => ⟨hq, List.mem_map_of_mem hr⟩
  exact (hon.loseMembersOf st s.boardCourses).mono fun r _ x hq => ⟨hq.1.1, fun hst => hq.2 ⟨hq.1.2, hst⟩⟩

theorem BoardBut.peerLost (h : BoardBut Q s) (st : Station) : BoardBut (fun d x => Q d x ∧ x ≠ st) (peerLost st s) :=
  (Reach.testMismatch nofun nofun (Reach.dropWash wares_noUnpeer st .refl)).boardBut (h.loseMembers st)

theorem BoardBut.peersLost (h : BoardBut Q s) (l : List Station) :
    BoardBut (fun d x => Q d x ∧ x ∉ l) (l.foldl (fun s st => Machine.peerLost st s) s) := by
  induction l generalizing Q s with
  | nil => exact h.mono fun _ _ _ hq => ⟨hq, by simp⟩
  | cons st l ih =>
    refine (ih (h.peerLost st)).mono fun r _ x hq => ⟨hq.1.1, fun hin => ?_⟩
    exact (List.mem_cons.mp hin).elim hq.1.2 hq.2

/-- The peer table loses the stations named at most. -/
theorem BoardSafe.unpeer (h : BoardSafe s) {l : List Peer} {gone : List Station}
    (hl : ∀ p ∈ s.load.peers, p.station ∈ gone ∨ l.any (·.station == p.station) = true) :
    BoardBut (fun _ x => x ∈ gone) { s with load := { s.load with peers := l } } where
  room := h.room
  courses := h.courses
  order := h.order
  members := fun r hr m hm => (h.members r hr m hm).imp_right fun hp => by
    obtain ⟨p, hp, hst⟩ := List.any_eq_true.mp hp
    have hst : p.station = m.station := by simpa using hst
    rw [← hst]
    exact (hl p hp).symm

theorem BoardSafe.losePeer (h : BoardSafe s) (st : Station) : BoardSafe (losePeer st s) := by
  unfold Machine.losePeer
  split
  · have hgone : BoardBut (fun _ x => x ∈ [st]) (removePeer st s) := by
      refine h.unpeer fun p hp => ?_
      by_cases hst : p.station = st
      · exact .inl (by simp [hst])
      · exact .inr (List.any_eq_true.mpr ⟨p, List.mem_filter.mpr ⟨hp, by simpa using hst⟩, by simp⟩)
    have hlost := (hgone.peerLost st).mono (Q' := fun _ _ => False) fun _ _ x hq => hq.2 (by simpa using hq.1)
    exact boardSafe_iff.mpr ((Reach.tellIfEmpty relinks_noUnpeer .refl).boardBut hlost)
  · exact h

theorem BoardSafe.ageTable (h : BoardSafe s) : BoardSafe (ageTable s) := by
  unfold Machine.ageTable
  dsimp only
  generalize hgone : ((s.load.peers.map Peer.aged).filter (3 ≤ ·.missed)).map (·.station) = gone
  have haged : BoardBut (fun _ x => x ∈ gone) { s with load := { s.load with
      peers := ((s.load.peers.map Peer.aged).filter (·.missed < 3)).map fun p => { p with heard := false } } } := by
    refine h.unpeer fun p hp => ?_
    by_cases hmissed : p.aged.missed < 3
    · refine .inr (List.any_eq_true.mpr ⟨{ p.aged with heard := false }, List.mem_map.mpr ⟨p.aged, ?_, rfl⟩, ?_⟩)
      · exact List.mem_filter.mpr ⟨List.mem_map_of_mem hp, by simpa using hmissed⟩
      · simp [aged_station]
    · refine .inl (hgone ▸ List.mem_map.mpr ⟨p.aged, List.mem_filter.mpr ⟨List.mem_map_of_mem hp, ?_⟩, aged_station p⟩)
      simpa using Nat.le_of_not_lt hmissed
  have hlost := (haged.peersLost gone).mono (Q' := fun _ _ => False) fun _ _ x hq => hq.2 hq.1
  split
  · exact boardSafe_iff.mpr hlost
  · exact boardSafe_iff.mpr ((Reach.tellIfEmpty relinks_noUnpeer .refl).boardBut hlost)

theorem Reach.boardSafe (h : Reach (· ≠ .unpeer) s t) (hs : BoardSafe s) : BoardSafe t :=
  boardSafe_iff.mpr (h.boardBut (boardSafe_iff.mp hs))

theorem BoardSafe.loadPeriod (h : BoardSafe s) : BoardSafe (loadPeriodEnd (loadPeriodFigures s)) := by
  have hcounted : Reach (· ≠ .unpeer) (Machine.ageTable s)
      (Machine.countListen { Machine.ageTable s with load := (Machine.ageTable s).load.endClash }) :=
    Reach.countListen nofun relinks_noUnpeer (Reach.setLoad nofun ⟨rfl, rfl, rfl, rfl⟩ rfl .refl)
  refine Reach.boardSafe (s := Machine.ageTable s) ?_ h.ageTable
  exact Reach.loadPeriodEnd nofun nofun (Reach.testCurtailed nofun nofun (hcounted.tail (k := .compute) nofun (.compute _)))

theorem allowed_noUnpeer {c : Instr} (hc : losesPeers c = false) : Admits (· ≠ .unpeer) (Allowed s c) := by
  intro k hk
  cases k
  case unpeer => exact absurd hk (by simp [Allowed, hc])
  all_goals nofun

theorem BoardSafe.heard (h : BoardSafe s) (n : Notice) : BoardSafe (bump .noticesHeard (recordNotice n s)) :=
  Reach.boardSafe (Reach.bump nofun _ (Reach.recordNotice nofun n .refl)) h

theorem BoardSafe.exec {c : Instr} {u : State} (hc : ∀ bytes, c ≠ .noticeDiscarded bytes) (he : exec c s = .next u)
    (hs : BoardSafe s) : BoardSafe u := by
  cases hloses : losesPeers c with
  | false => exact ((exec_reach hc he).mono (allowed_noUnpeer hloses)).boardSafe hs
  | true =>
    cases c
    case leaveHeard st seq =>
      rcases unlessReset_cases he with ⟨-, rfl⟩ | ⟨-, rfl⟩
      · exact hs
      · unfold hearing
        split
        · exact hs
        · exact (hs.heard _).losePeer st
    case peerAgedOut st =>
      rcases unlessReset_cases he with ⟨-, rfl⟩ | ⟨-, rfl⟩
      · exact hs
      · split
        · exact hs.losePeer st
        · exact hs
    case loadPeriodExpiry =>
      simp only [Machine.exec, execLoadPeriodExpiry] at he
      rcases unlessReset_cases he with ⟨-, rfl⟩ | ⟨-, rfl⟩
      · exact hs
      · exact hs.loadPeriod
    all_goals cases hloses

end Board

end Sys2Proof.Machine

namespace Sys2Proof.Proofs

open Sys2Proof.Machine

/-- Settles O11. -/
theorem boardKept : Obligations.BoardKept := fun s t hs h => by
  have hreach (s u : State) (hr : Reach (Allowed s .radioByteTimeout) s u) : BoardSafe s → BoardSafe u :=
    (hr.mono (allowed_noUnpeer rfl)).boardSafe
  refine keeps_of_step (fun l s hs => ?_) (fun c s u hc he => BoardSafe.exec hc he) (fun k s hs => ?_) (fun s hs => ?_) hs h
  · exact hreach s _ (.of_move (k := .queue) trivial (.queue l s)) hs
  · exact hreach s _ (Reach.bump (basics (k := .count) trivial) k .refl) hs
  · exact hreach s _ (idleStep_reach _) hs

end Sys2Proof.Proofs

/-! The relay list's form (R158, R159, R161), kept by every step beside the page queue's. Entry to LEAVING makes the relay inactive
before it empties it, so it is taken as one move. -/

namespace Sys2Proof.Machine

section Relay
variable {s t : State} {k : Kind}

theorem RelaySafe.of_parts (hs : RelaySafe s) (hlist : t.relay.list = s.relay.list) (hkey : t.relay.key = s.relay.key)
    (hexchange : t.relay.exchange = s.relay.exchange) (hactive : t.relayActive = false → s.relayActive = false) :
    RelaySafe t where
  room := by rw [hlist]; exact hs.room
  keys := by rw [hlist]; exact hs.keys
  pages := by rw [hlist]; exact hs.pages
  flight := by rw [hlist]; exact hs.flight
  idle := by rw [hexchange, hlist, hkey]; exact hs.idle
  inactive := by rw [hlist, hexchange]; exact fun h => hs.inactive (hactive h)
  priorities := by rw [hlist]; exact hs.priorities

theorem relaySafe_of_empty (hlist : t.relay.list = []) (hkey : t.relay.key = none) (hexchange : t.relay.exchange = .idle) :
    RelaySafe t := by
  constructor <;> simp [hlist, hkey, hexchange]

/-- The relay's activity rests on the straps and the link. -/
theorem relayActive_of_same (hstraps : t.port.straps = s.port.straps) (hlink : t.bus.link = s.bus.link) :
    t.relayActive = s.relayActive := by
  rw [State.relayActive, State.relayActive, State.isRadio, State.isRadio, hstraps, hlink]

/-- In a link state in which the heaters run, a relay is active wherever it may be. -/
theorem relayActive_of_heats (hstraps : t.port.straps = s.port.straps) (hheats : t.bus.link.heats = true)
    (h : t.relayActive = false) : s.relayActive = false := by
  have hradio : s.isRadio = false := by
    rw [State.isRadio, ← hstraps, ← State.isRadio]
    revert h hheats
    unfold State.relayActive
    cases t.bus.link <;> simp [LinkState.heats]
  simp [State.relayActive, hradio]

@[simp] theorem takeNotice_link (b : Body) (s : State) : (takeNotice b s).bus.link = s.bus.link :=
  congrArg Steady.link (takeNotice_steady b s)

theorem Move.relaySafe (hk : k.single) (hno : k ≠ .link .leaving) (hmove : Move k s t) (hpages : PagesSafe s)
    (hs : RelaySafe s) : RelaySafe t := by
  cases hmove
  case relay r hpairs h => exact h hpages hs
  case link l hto _ _ =>
    refine hs.of_parts (by simp) (by simp) (by simp) (relayActive_of_heats (by simp) ?_)
    simpa using hto.resolve_right fun hl => hno (by rw [hl])
  case bus b h => exact hs.of_parts rfl rfl rfl fun ha =>
    (relayActive_of_same (s := s) (t := { s with bus := b }) rfl h.link).symm.trans ha
  case port p h => exact hs.of_parts rfl rfl rfl fun ha =>
    (relayActive_of_same (s := s) (t := { s with port := p }) h.straps rfl).symm.trans ha
  case left | restart => exact relaySafe_of_empty (by simp) (by simp [Relay.idle]) (by simp [Relay.idle])
  case released => exact relaySafe_of_empty rfl rfl rfl
  case release | leaving => exact hk.elim
  all_goals
    refine hs.of_parts (by simp) (by simp) (by simp) fun ha => ?_
    exact (relayActive_of_same (s := s) (by simp) (by simp)).symm.trans ha

/-- The kinds a command has, but the change of link that entry to LEAVING contains. -/
def Relayed (k : Kind) : Prop := k ≠ .link .leaving ∧ Asked k

theorem relayed_of_allowed {c : Instr} (hs : PagesSafe s) : Admits Relayed (Allowed s c) := fun k hk => by
  refine ⟨?_, asked_of_allowed hs hk⟩
  rintro rfl
  exact hk rfl

theorem relayed_of_releases {c : CourseNo} : Admits Relayed (releases c) := fun k hk => by
  cases k <;> first | exact hk.elim | exact ⟨nofun, trivial⟩

theorem enterLeaving_relay (s : State) : (enterLeaving s).relay.list = [] ∧ (enterLeaving s).relay.key = none ∧
    (enterLeaving s).relay.exchange = .idle := ⟨rfl, rfl, rfl⟩

theorem Move.pagesAndRelay (hk : Relayed k) (hmove : Move k s t) (hs : PagesSafe s ∧ RelaySafe s) :
    PagesSafe t ∧ RelaySafe t := by
  have hsingle {k s t} (h1 : k.single) (hk : Relayed k) (hmove : Move k s t) (hs : PagesSafe s ∧ RelaySafe s) :
      PagesSafe t ∧ RelaySafe t := ⟨hmove.pagesSafe h1 hk.2 hs.1, hmove.relaySafe h1 hk.1 hs.1 hs.2⟩
  have hpages : PagesSafe t := whole_asked.keeps Move.pagesSafe hk.2 hmove hs.1
  by_cases h1 : k.single
  · exact hsingle h1 hk hmove hs
  cases hmove
  case release r st isLocal hstate hrec =>
    exact (releaseRec_reach st isLocal hrec hstate).keeps
      (fun hr => hsingle (single_of_releases hr) (relayed_of_releases hr)) hs
  case leaving hlink hconf =>
    obtain ⟨hlist, hkey, hexchange⟩ := enterLeaving_relay s
    exact ⟨hpages, relaySafe_of_empty hlist hkey hexchange⟩
  all_goals exact absurd trivial h1

end Relay

end Sys2Proof.Machine

namespace Sys2Proof.Proofs

open Sys2Proof.Machine

/-- Settles O17. -/
theorem relayKept : Obligations.RelayKept := fun _ _ hpages hs h =>
  (keeps_of_reach (P := fun s => PagesSafe s ∧ RelaySafe s)
    (fun _ _ _ hr hs => (hr.mono (relayed_of_allowed hs.1)).keeps Move.pagesAndRelay hs) ⟨hpages, hs⟩ h).2

end Sys2Proof.Proofs

/-! The ranges of the course records and their release orders (R85, R95, R101), kept by every step. -/

namespace Sys2Proof.Machine

/-- The RELEASED records of a board. -/
def countReleased (board : List CourseRec) : Nat := (board.filter (·.state == .released)).length

/-- What `RecordsSafe` asks of the board alone. -/
structure Ranked (board : List CourseRec) : Prop where
  fits : ∀ r ∈ board, r.Fits
  order : ∀ r ∈ board, ∀ k, r.releaseOrder = some k → k < countReleased board
  orders : (board.filterMap (·.releaseOrder)).Nodup

section Ranks
variable {board l1 l2 : List CourseRec} {r x : CourseRec}

theorem ranked_nil : Ranked [] := ⟨by simp, by simp, by simp⟩

theorem countReleased_append (a b : List CourseRec) : countReleased (a ++ b) = countReleased a + countReleased b := by
  simp [countReleased]

theorem countReleased_cons (r : CourseRec) (l : List CourseRec) :
    countReleased (r :: l) = (if r.state = .released then 1 else 0) + countReleased l := by
  unfold countReleased
  rw [List.filter_cons]
  split
  next h => simp [beq_iff_eq.mp h]; omega
  next h =>
    rw [if_neg (by simpa using h)]
    simp

theorem CourseRec.Fits.order_of_released (h : r.Fits) (hr : r.state = .released) : ∃ k, r.releaseOrder = some k :=
  Option.isSome_iff_exists.mp (h.released hr).2.2

theorem CourseRec.Fits.released_of_order (h : r.Fits) {k : Nat} (hk : r.releaseOrder = some k) : r.state = .released := by
  by_contra hne
  rw [(h.unreleased hne).2.2] at hk
  cases hk

/-- A board split at a record of it. -/
theorem split_at (hnodup : (board.map (·.course)).Nodup) (hr : r ∈ board) :
    ∃ l1 l2, board = l1 ++ r :: l2 ∧ board.filter (·.course != r.course) = l1 ++ l2 ∧
      ∀ f : CourseRec → CourseRec, (board.map fun x => if x.course = r.course then f x else x) = l1 ++ f r :: l2 := by
  obtain ⟨l1, l2, rfl⟩ := List.append_of_mem hr
  have hothers : ∀ x ∈ l1 ++ l2, x.course ≠ r.course := by
    rw [List.map_append, List.map_cons] at hnodup
    have hmid := (List.perm_middle.nodup_iff.mp hnodup)
    intro x hx heq
    refine (List.nodup_cons.mp hmid).1 ?_
    rw [← List.map_append, ← heq]
    exact List.mem_map_of_mem hx
  have hkeep (l : List CourseRec) (hl : ∀ x ∈ l, x.course ≠ r.course) : l.filter (·.course != r.course) = l :=
    List.filter_eq_self.mpr fun x hx => by simpa using hl x hx
  have hmap (f : CourseRec → CourseRec) (l : List CourseRec) (hl : ∀ x ∈ l, x.course ≠ r.course) :
      (l.map fun x => if x.course = r.course then f x else x) = l :=
    (List.map_congr_left fun x hx => if_neg (hl x hx)).trans (List.map_id' l)
  have h1 : ∀ x ∈ l1, x.course ≠ r.course := fun x hx => hothers x (List.mem_append_left _ hx)
  have h2 : ∀ x ∈ l2, x.course ≠ r.course := fun x hx => hothers x (List.mem_append_right _ hx)
  refine ⟨l1, l2, rfl, ?_, fun f => ?_⟩
  · rw [List.filter_append, List.filter_cons_of_neg (by simp), hkeep l1 h1, hkeep l2 h2]
  · rw [List.map_append, List.map_cons, hmap f l1 h1, hmap f l2 h2, if_pos rfl]

theorem orders_middle (l1 l2 : List CourseRec) (r : CourseRec) :
    ((l1 ++ r :: l2).filterMap (·.releaseOrder)).Perm (r.releaseOrder.toList ++ (l1 ++ l2).filterMap (·.releaseOrder)) := by
  refine (List.perm_middle.filterMap _).trans ?_
  rw [List.filterMap_cons]
  split
  next h => simp [h]
  next h => simp [h]

theorem countReleased_middle (l1 l2 : List CourseRec) (r : CourseRec) :
    countReleased (l1 ++ r :: l2) = (if r.state = .released then 1 else 0) + countReleased (l1 ++ l2) := by
  rw [countReleased_append, countReleased_cons, countReleased_append]
  omega

/-- A record changes in place, RELEASED or not as before and with its release order. -/
theorem Ranked.replace (h : Ranked (l1 ++ r :: l2)) (hfits : x.Fits) (hreleased : x.state = .released ↔ r.state = .released)
    (horder : x.releaseOrder = r.releaseOrder) : Ranked (l1 ++ x :: l2) where
  fits := fun y hy => by
    rcases List.mem_append.mp hy with hy | hy
    · exact h.fits y (List.mem_append_left _ hy)
    · rcases List.mem_cons.mp hy with rfl | hy
      · exact hfits
      · exact h.fits y (List.mem_append_right _ (List.mem_cons_of_mem _ hy))
  order := fun y hy k hk => by
    rw [countReleased_middle, if_congr hreleased rfl rfl, ← countReleased_middle]
    rcases List.mem_append.mp hy with hy | hy
    · exact h.order y (List.mem_append_left _ hy) k hk
    · rcases List.mem_cons.mp hy with rfl | hy
      · exact h.order r (List.mem_append_right _ List.mem_cons_self) k (horder ▸ hk)
      · exact h.order y (List.mem_append_right _ (List.mem_cons_of_mem _ hy)) k hk
  orders := by
    rw [(orders_middle l1 l2 x).nodup_iff, horder, ← (orders_middle l1 l2 r).nodup_iff]
    exact h.orders

/-- R101: a record is RELEASED with the next release order. -/
theorem Ranked.release (h : Ranked (l1 ++ r :: l2)) (hstate : r.state ≠ .released) {clock : Nat} (hclock : clock ≤ 86399) :
    Ranked (l1 ++ r.releasedAt clock (countReleased (l1 ++ r :: l2)) :: l2) := by
  have hr := h.fits r (List.mem_append_right _ List.mem_cons_self)
  have hnone : r.releaseOrder = none := (hr.unreleased hstate).2.2
  have hcount : countReleased (l1 ++ r :: l2) = countReleased (l1 ++ l2) := by
    rw [countReleased_middle, if_neg hstate, Nat.zero_add]
  rw [hcount]
  have hcount' : countReleased (l1 ++ r.releasedAt clock (countReleased (l1 ++ l2)) :: l2) = countReleased (l1 ++ l2) + 1 := by
    rw [countReleased_middle, if_pos (show (r.releasedAt clock (countReleased (l1 ++ l2))).state = .released from rfl), Nat.add_comm]
  have hbelow : ∀ y ∈ l1 ++ l2, ∀ k, y.releaseOrder = some k → k < countReleased (l1 ++ l2) := by
    intro y hy k hk
    rw [← hcount]
    refine h.order y ?_ k hk
    rcases List.mem_append.mp hy with hy | hy
    · exact List.mem_append_left _ hy
    · exact List.mem_append_right _ (List.mem_cons_of_mem _ hy)
  have hsplit {y : CourseRec} (hy : y ∈ l1 ++ r.releasedAt clock (countReleased (l1 ++ l2)) :: l2) :
      y = r.releasedAt clock (countReleased (l1 ++ l2)) ∨ y ∈ l1 ++ l2 := by
    simp only [List.mem_append, List.mem_cons] at hy ⊢
    tauto
  refine ⟨fun y hy => ?_, fun y hy k hk => ?_, ?_⟩
  · rcases hsplit hy with rfl | hy
    · exact { course := hr.course, released := fun _ => ⟨rfl, rfl, rfl⟩, unreleased := fun hne => absurd rfl hne, held := nofun,
              hold := Nat.zero_le _, origin := ⟨nofun, fun _ => rfl, fun _ => rfl⟩, plates := hr.plates, delay := hr.delay,
              repeats := Nat.zero_le _, time := fun k hk => by cases hk; exact hclock, age := Nat.zero_le _, members := hr.members }
    · refine h.fits y ?_
      simp only [List.mem_append, List.mem_cons] at hy ⊢
      tauto
  · rw [hcount']
    rcases hsplit hy with rfl | hy
    · cases hk
      exact Nat.lt_succ_self _
    · exact (hbelow y hy k hk).trans (Nat.lt_succ_self _)
  · rw [(orders_middle _ _ _).nodup_iff]
    have horders := (orders_middle l1 l2 r).nodup_iff.mp h.orders
    rw [hnone] at horders
    refine List.nodup_cons.mpr ⟨fun hin => ?_, horders⟩
    obtain ⟨y, hy, hk⟩ := List.mem_filterMap.mp hin
    exact absurd (hbelow y hy _ hk) (Nat.lt_irrefl _)

/-- A new record goes behind those that stand. -/
theorem Ranked.append (h : Ranked board) (hfits : r.Fits) (hstate : r.state ≠ .released) : Ranked (board ++ [r]) where
  fits := fun y hy => (List.mem_append.mp hy).elim (h.fits y) fun hy => List.mem_singleton.mp hy ▸ hfits
  order := fun y hy k hk => by
    rw [countReleased_append]
    rcases List.mem_append.mp hy with hy | hy
    · exact (h.order y hy k hk).trans_le (Nat.le_add_right _ _)
    · rw [List.mem_singleton.mp hy, (hfits.unreleased hstate).2.2] at hk
      cases hk
  orders := by
    rw [List.filterMap_append]
    simpa [(hfits.unreleased hstate).2.2] using h.orders

/-- R85: a release order after that of a record removed falls by 1. -/
def closeOrder (n m : Nat) : Nat := if n < m then m - 1 else m

/-- A record of the board that is left as another is removed. -/
def CourseRec.closed (r x : CourseRec) : CourseRec :=
  match r.releaseOrder, x.releaseOrder with
  | some n, some m => if n < m then { x with releaseOrder := some (m - 1) } else x
  | _, _ => x

theorem closed_order (r x : CourseRec) : (r.closed x).releaseOrder =
    match r.releaseOrder with | some n => x.releaseOrder.map (closeOrder n) | none => x.releaseOrder := by
  unfold CourseRec.closed closeOrder
  cases hn : r.releaseOrder <;> cases hm : x.releaseOrder <;> simp [hm]
  split <;> simp [hm]

theorem closed_eq (r x : CourseRec) : r.closed x = { x with releaseOrder := (r.closed x).releaseOrder } := by
  unfold CourseRec.closed
  split
  · split <;> rfl
  · rfl

theorem closed_fits (h : x.Fits) : (r.closed x).Fits := by
  have hsome : (r.closed x).releaseOrder.isSome = x.releaseOrder.isSome := by
    rw [closed_order]
    split <;> simp
  rw [closed_eq] at *
  refine { h with released := fun hr => ⟨(h.released hr).1, (h.released hr).2.1, hsome.trans (h.released hr).2.2⟩,
                  unreleased := fun hr => ⟨(h.unreleased hr).1, (h.unreleased hr).2.1, ?_⟩ }
  rw [(h.unreleased hr).2.2] at hsome
  simpa using hsome

theorem closeOrder_inj {n a b : Nat} (ha : a ≠ n) (hb : b ≠ n) (h : closeOrder n a = closeOrder n b) : a = b := by
  unfold closeOrder at h
  split at h <;> split at h <;> omega

/-- R85: a record removed, the release orders after it close up. -/
theorem Ranked.without (h : Ranked board) (hnodup : (board.map (·.course)).Nodup) (hr : r ∈ board) :
    Ranked (withoutRec r board) := by
  obtain ⟨l1, l2, rfl, hfilter, -⟩ := split_at hnodup hr
  have hwithout : withoutRec r (l1 ++ r :: l2) = (l1 ++ l2).map r.closed := by
    rw [withoutRec, hfilter]
    rfl
  have hmem {y : CourseRec} (hy : y ∈ l1 ++ l2) : y ∈ l1 ++ r :: l2 := by
    simp only [List.mem_append, List.mem_cons] at hy ⊢
    tauto
  have hstate (y : CourseRec) : (r.closed y).state = y.state := by rw [closed_eq]
  have hcount : countReleased ((l1 ++ l2).map r.closed) = countReleased (l1 ++ l2) := by
    simp only [countReleased, List.filter_map, Function.comp_def, hstate, List.length_map]
  have hrfits := h.fits r hr
  have horders := (orders_middle l1 l2 r).nodup_iff.mp h.orders
  rw [hwithout]
  refine ⟨fun y hy => ?_, fun y hy k hk => ?_, ?_⟩
  · obtain ⟨z, hz, rfl⟩ := List.mem_map.mp hy
    exact closed_fits (h.fits z (hmem hz))
  · obtain ⟨z, hz, rfl⟩ := List.mem_map.mp hy
    rw [hcount]
    rw [closed_order] at hk
    cases hn : r.releaseOrder with
    | none =>
      rw [hn] at hk
      have hbound := h.order z (hmem hz) k hk
      have hrs : r.state ≠ .released := fun hs => by
        obtain ⟨m, hm⟩ := hrfits.order_of_released hs
        rw [hn] at hm
        cases hm
      rwa [countReleased_middle, if_neg hrs, Nat.zero_add] at hbound
    | some n =>
      rw [hn] at hk horders
      obtain ⟨m, hm, rfl⟩ := Option.map_eq_some_iff.mp hk
      have hbound := h.order z (hmem hz) m hm
      have hboundr := h.order r hr n hn
      rw [countReleased_middle, if_pos (hrfits.released_of_order hn)] at hbound hboundr
      have hne : m ≠ n := by
        rintro rfl
        exact (List.nodup_cons.mp horders).1 (List.mem_filterMap.mpr ⟨z, hz, hm⟩)
      unfold closeOrder
      split <;> omega
  · cases hn : r.releaseOrder with
    | none =>
      rw [hn] at horders
      have hsame : ((l1 ++ l2).map r.closed).filterMap (·.releaseOrder) = (l1 ++ l2).filterMap (·.releaseOrder) := by
        rw [List.filterMap_map]
        refine List.filterMap_congr fun y _ => ?_
        simp only [Function.comp_apply, closed_order, hn]
      rw [hsame]
      exact horders
    | some n =>
      rw [hn] at horders
      obtain ⟨hnotin, horders⟩ := List.nodup_cons.mp horders
      have hsame : ((l1 ++ l2).map r.closed).filterMap (·.releaseOrder) =
          ((l1 ++ l2).filterMap (·.releaseOrder)).map (closeOrder n) := by
        rw [List.filterMap_map, List.map_filterMap]
        refine List.filterMap_congr fun y _ => ?_
        simp only [Function.comp_apply, closed_order, hn]
      rw [hsame]
      have hne {a : Nat} (ha : a ∈ (l1 ++ l2).filterMap (·.releaseOrder)) : a ≠ n := fun heq => hnotin (by rw [← heq]; exact ha)
      exact List.Nodup.map_on (fun a ha b hb heq => closeOrder_inj (hne ha) (hne hb) heq) horders

end Ranks

/-! ### The records of a state -/

section Records
variable {s t : State} {k : Kind}

theorem recordsSafe_iff : RecordsSafe s ↔ Ranked s.course.board ∧ s.course.lateQuanta ≤ 255 ∧
    (∀ c : CourseNo, s.prog.plates[c] ≤ 4000) ∧
    (s.own = 0 → s.bus.link = .monitor ∧ s.bus.queue = [] ∧ ∀ z : ZoneNo, s.prog.runs[z].state = .idle) := by
  constructor
  · exact fun h => ⟨⟨fun r hr => h.fits hr, h.order, h.orders⟩, h.quanta, h.counts, h.monitor⟩
  · rintro ⟨hranked, hquanta, hcounts, hmonitor⟩
    have hfits := hranked.fits
    exact ⟨fun r hr => (hfits r hr).course, fun r hr => (hfits r hr).released, fun r hr => (hfits r hr).unreleased,
      fun r hr => (hfits r hr).held, fun r hr => (hfits r hr).hold, fun r hr => (hfits r hr).origin,
      fun r hr => (hfits r hr).plates, fun r hr => (hfits r hr).delay, fun r hr => (hfits r hr).repeats,
      fun r hr => (hfits r hr).time, fun r hr => (hfits r hr).age, hranked.order, hranked.orders,
      fun r hr => (hfits r hr).members, hquanta, hcounts, hmonitor⟩

/-- The kinds that a command has in a state of safe tables and records. -/
def Recorded : Kind → Prop
  | .add d => d ≠ 0
  | .left _ own => own ≠ 0
  | _ => True

theorem recorded_of_allowed {c : Instr} (htables : TablesSafe s) (hs : RecordsSafe s) : Admits Recorded (Allowed s c) := by
  intro k hk
  cases k
  case add d => exact hk htables
  case left configured own => exact hk.2 hs
  all_goals trivial

theorem whole_recorded : Whole Recorded where
  release _ _ := by intro k hk; cases k <;> first | exact hk.elim | trivial
  leaving _ := by intro k hk; cases k <;> first | exact hk.elim | trivial

/-- No two records of one course, and the clock in its range: what the ranks rest on. -/
def Placed (s : State) : Prop := (s.course.board.map (·.course)).Nodup ∧ s.course.clock ≤ 86399

theorem Move.ranked (hk : k.single) (hrecorded : Recorded k) (hmove : Move k s t) (hplaced : Placed s) (hs : RecordsSafe s) :
    Ranked t.course.board := by
  obtain ⟨hranked, -⟩ := recordsSafe_iff.mp hs
  obtain ⟨hnodup, hclock⟩ := hplaced
  cases hmove
  case record c f hcourse h =>
    by_cases hc : ∃ r ∈ s.course.board, r.course = c
    · obtain ⟨r, hr, rfl⟩ := hc
      obtain ⟨l1, l2, hsplit, -, hmap⟩ := split_at hnodup hr
      have hstep := h r (recOf_of_mem hnodup hr)
      show Ranked (s.course.board.map _)
      rw [hmap f]
      exact (hsplit ▸ hranked : Ranked (l1 ++ r :: l2)).replace (hstep.fits hs (hs.fits hr)) hstep.released hstep.releaseOrder
    · have hsame : (mapRec c f s).course.board = s.course.board :=
        (List.map_congr_left fun x hx => if_neg fun heq => hc ⟨x, hx, heq⟩).trans (List.map_id' _)
      rw [hsame]
      exact hranked
  case enterReleased r hstate hrec =>
    obtain ⟨l1, l2, hsplit, -, hmap⟩ := split_at hnodup (recOf_some hrec).1
    show Ranked (s.course.board.map _)
    rw [hmap fun r => r.releasedAt s.course.clock s.releasedCount]
    have hcount : s.releasedCount = countReleased (l1 ++ r :: l2) := by rw [← hsplit]; rfl
    rw [hcount]
    exact (hsplit ▸ hranked : Ranked (l1 ++ r :: l2)).release hstate hclock
  case add r hnew hnone =>
    obtain ⟨c, plates, auto, delay, rfl, hplates, hdelay⟩ := hnew
    have hfits : ({ CourseRec.new c with plates := plates, auto := auto, clearDelay := delay } : CourseRec).Fits :=
      { course := hrecorded, released := nofun, unreleased := fun _ => ⟨rfl, rfl, rfl⟩, held := nofun, hold := Nat.zero_le _,
        origin := ⟨nofun, fun _ => rfl, fun _ => rfl⟩, plates := hplates, delay := hdelay, repeats := Nat.zero_le _, time := nofun,
        age := Nat.zero_le _, members := nofun }
    rcases addRec_cases ({ CourseRec.new c with plates := plates, auto := auto, clearDelay := delay } : CourseRec) s with
      ⟨-, heq⟩ | ⟨x, hx, heq⟩ | heq <;> rw [heq]
    · exact hranked.append hfits nofun
    · exact (hranked.without hnodup hx).append hfits nofun
    · exact hranked
  case remove c =>
    rcases removeRec_cases c s with ⟨x, hx, heq⟩ | heq <;> rw [heq]
    · exact hranked.without hnodup (recOf_some hx).1
    · exact hranked
  case left | restart => simpa [Course.cleared] using ranked_nil
  case released => exact ranked_nil
  case release | leaving => exact hk.elim
  all_goals simpa using hranked

theorem Move.quantaFit (hk : k.single) (hmove : Move k s t) (hs : s.course.lateQuanta ≤ 255) : t.course.lateQuanta ≤ 255 := by
  cases hmove
  case configure p hconf =>
    show lateQuantaOf p ≤ 255
    exact clamp_le (by omega) _
  case left | restart => simpa [Course.cleared] using hs
  case released => exact Nat.zero_le _
  case release | leaving => exact hk.elim
  all_goals simpa using hs

theorem Move.platesFit (hk : k.single) (hmove : Move k s t) (hs : ∀ c : CourseNo, s.prog.plates[c] ≤ 4000) (c : CourseNo) :
    t.prog.plates[c] ≤ 4000 := by
  have hof {t : State} (h : t.prog.plates = s.prog.plates) : t.prog.plates[c] ≤ 4000 := by
    rw [h]
    exact hs c
  cases hmove
  case plates d n h =>
    show (s.prog.plates.set d.val n d.isLt)[c.val] ≤ 4000
    rw [Vector.getElem_set]
    split
    · exact h
    · exact hs c
  case left | restart => simp
  case released straps draws missed =>
    exact (Sys2Proof.Proofs.resetMeetsAll straps s.oe).2.2.2.1.counts c
  case release | leaving => exact hk.elim
  case run | done => exact hof (by simp)
  all_goals exact hof (by simp)

/-- R60: a station of number 0 stays in MONITOR with an empty queue and no run. -/
def Watching (s : State) : Prop :=
  s.own = 0 → s.bus.link = .monitor ∧ s.bus.queue = [] ∧ ∀ z : ZoneNo, s.prog.runs[z].state = .idle

theorem Watching.same (hs : Watching s) (hstraps : t.port.straps = s.port.straps) (hlink : t.bus.link = s.bus.link)
    (hqueue : s.bus.queue = [] → t.bus.queue = []) (hruns : t.prog.runs = s.prog.runs) : Watching t := fun hown => by
  obtain ⟨hmonitor, hempty, hidle⟩ := hs ((own_eq_of_straps hstraps) ▸ hown)
  exact ⟨hlink.trans hmonitor, hqueue hempty, hruns ▸ hidle⟩

theorem Watching.absurd (hs : Watching s) (hstraps : t.port.straps = s.port.straps) (hnot : s.own = 0 → s.bus.link ≠ .monitor) :
    Watching t := fun hown =>
  have hown := own_eq_of_straps hstraps ▸ hown
  (hnot hown (hs hown).1).elim

theorem Move.watching (hk : k.single) (hrecorded : Recorded k) (hmove : Move k s t) (hs : Watching s) : Watching t := by
  cases hmove
  case take b hlink => exact hs.absurd (by simp) fun _ => hlink.2
  case bus b h => exact hs.same rfl h.link h.queue rfl
  case run z r h =>
    intro hown
    obtain ⟨hmonitor, hempty, hidle⟩ := hs hown
    refine ⟨hmonitor, hempty, fun y => ?_⟩
    rw [setRun_runs]
    split
    · exact (h.resolve_left fun hne => hne (hidle z)).resolve_right fun hne => hne hmonitor
    · exact hidle y
  case done z hlive =>
    intro hown
    obtain ⟨-, -, hidle⟩ := hs hown
    rw [hidle z] at hlive
    cases hlive
  case link l hto hfrom hconf => exact hs.absurd (by simp) fun _ => hfrom
  case left =>
    intro hown
    exact absurd (by simpa [State.own] using hown) hrecorded
  case restart hlink hconf =>
    refine hs.absurd (by simp [Port.restarted]) fun _ hmonitor => ?_
    rw [hmonitor] at hlink
    cases hlink
  case released straps draws missed => exact (Sys2Proof.Proofs.resetMeetsAll straps s.oe).2.2.2.1.monitor
  case port p h => exact hs.same h.straps rfl id rfl
  case release | leaving => exact hk.elim
  all_goals exact hs.same (by simp) (by simp) (by simp) (by simp)

theorem boardBut_unpeer {Q : CourseNo → Station → Prop} (hs : BoardBut Q s) (l : List Peer) :
    BoardBut (fun _ _ => True) { s with load := { s.load with peers := l } } :=
  { room := hs.room, courses := hs.courses, order := hs.order, members := fun _ _ _ _ => .inr (.inr trivial) }

/-- The board's form with any member entries, the clock and the records, kept together. -/
def RecordsKeptIn (s : State) : Prop := BoardBut (fun _ _ => True) s ∧ s.course.clock ≤ 86399 ∧ RecordsSafe s

theorem Move.keptRecords (hk : k.single) (hrecorded : Recorded k) (hmove : Move k s t) (hs : RecordsKeptIn s) : RecordsKeptIn t := by
  obtain ⟨hboard, hclock, hrecords⟩ := hs
  obtain ⟨-, hquanta, hcounts, hwatching⟩ := recordsSafe_iff.mp hrecords
  refine ⟨?_, hmove.clockFits hk hclock, recordsSafe_iff.mpr ⟨hmove.ranked hk hrecorded ⟨hboard.courses, hclock⟩ hrecords,
    hmove.quantaFit hk hquanta, hmove.platesFit hk hcounts, hmove.watching hk hrecorded hwatching⟩⟩
  by_cases hno : k = .unpeer
  · subst hno
    cases hmove
    exact boardBut_unpeer hboard _
  · exact hmove.boardBut hk hno hboard

end Records

end Sys2Proof.Machine

namespace Sys2Proof.Proofs

open Sys2Proof.Machine

/-- Settles O12. -/
theorem recordsKept : Obligations.RecordsKept := fun s t hboard htables hs h => by
  have hall : RecordsKeptIn t ∧ TablesSafe t := by
    refine keeps_of_reach (P := fun s => RecordsKeptIn s ∧ TablesSafe s) (fun c s u hr hs => ⟨?_, ?_⟩)
      ⟨⟨(boardSafe_iff.mp hboard).mono fun _ _ _ hf => hf.elim, htables.clock, hs⟩, htables⟩ h
    · exact (hr.mono (recorded_of_allowed hs.2 hs.1.2.2)).keepsWhole whole_recorded Move.keptRecords hs.1
    · exact (hr.mono fun _ _ => trivial).keepsWhole whole_true (fun hk _ => Move.tablesSafe hk) hs.2
  exact hall.1.2.2

end Sys2Proof.Proofs

/-! The heater outputs (R15, R16, R20) and the conveyor (R114), whose conditions every step keeps. -/

namespace Sys2Proof.Machine

section Zones
variable {s t : State} {k : Kind} {c : Instr}

theorem clearBlocks_off (s : State) (z : ZoneNo) : (clearBlocks s).heat.zones[z].on = false := by
  have hleft : (mapZones (fun _ zn => zn.leaves s.heat.step) (clearRuns s)).heat.zones[z].on = false := by
    rw [mapZones_zone]
    rfl
  have hgranted := applyGrant_stays 0 { mapZones (fun _ zn => zn.leaves s.heat.step) (clearRuns s) with
    load := (mapZones (fun _ zn => zn.leaves s.heat.step) (clearRuns s)).load.cleared
    course := (mapZones (fun _ zn => zn.leaves s.heat.step) (clearRuns s)).course.cleared
    ware := (mapZones (fun _ zn => zn.leaves s.heat.step) (clearRuns s)).ware.cleared } z
  exact eq_false_of_ne_true fun hon => Bool.false_ne_true (hleft.symm.trans (hgranted.on hon))

theorem enterLeft_off (s : State) (z : ZoneNo) : (enterLeft s).heat.zones[z].on = false := by
  rw [enterLeft_heat]
  exact clearBlocks_off _ z

theorem restartBlocks_off (s : State) (z : ZoneNo) : (restartBlocks s).heat.zones[z].on = false := by
  rw [restartBlocks_zone]
  exact clearBlocks_off _ z

theorem outputsOff_off (s : State) (z : ZoneNo) : (outputsOff s).heat.zones[z].on = false := by
  rw [outputsOff, mapZones_zone]

theorem relink_off {l : LinkState} (hl : l.heats = false) (s : State) (z : ZoneNo) :
    (relink l s).heat.zones[z].on = false := by
  rw [relink_heat, hl]
  exact eq_false_of_ne_true fun hon => by
    have := (regrant_stays (outputsOff (setLink l s)) z).on hon
    rw [outputsOff_off] at this
    cases this

theorem setOe_off (s : State) (z : ZoneNo) : (setOe false s).heat.zones[z].on = false := by
  unfold setOe
  dsimp only
  rw [evalConveyor_heat]
  exact outputsOff_off _ z

/-- A zone with every output it rests on, as R16 asks at each moment. -/
def Zone.MayHeat (s : State) (z : ZoneNo) : Prop :=
  s.heat.step ∈ s.heat.zones[z].plan ∧ s.prog.runs[z].state.active = true ∧ s.heat.zones[z].stale = false ∧
    s.heat.zones[z].isOver = false ∧ s.oe = true ∧ s.bus.link.heats = true

/-- R16 without regard to reset, in which no command acts. -/
def Heats (s : State) : Prop := ∀ z : ZoneNo, s.heat.zones[z].on = true → Zone.MayHeat s z

theorem heatSafe_iff : HeatSafe s ↔ (s.inReset = false → Heats s) := by
  unfold HeatSafe State.heaterOut
  constructor
  · exact fun h hr z hon => h z (by rw [hr, hon]; rfl)
  · intro h z hon
    obtain ⟨hr, hon⟩ := Bool.and_eq_true_iff.mp hon
    exact h (by simpa using hr) z hon

/-- Outputs that were on where they are, in zones that kept what they had. -/
theorem Heats.stays (hs : Heats s) (hstep : t.heat.step = s.heat.step)
    (hz : ∀ z : ZoneNo, s.heat.zones[z].Stays s.heat.step t.heat.zones[z])
    (hrun : ∀ z : ZoneNo, t.heat.zones[z].on = true → s.prog.runs[z].state.active = true → t.prog.runs[z].state.active = true)
    (hoe : t.oe = s.oe) (hlink : t.bus.link = s.bus.link) : Heats t := fun z hon => by
  obtain ⟨hplan, hactive, hfresh, hcool, hup, hheats⟩ := hs z ((hz z).on hon)
  exact ⟨hstep ▸ (hz z).plan hon hplan, hrun z hon hactive, (hz z).alike.stale.trans hfresh, (hz z).alike.isOver.trans hcool,
    hoe.trans hup, hlink ▸ hheats⟩

/-- The same zones, runs, OE level and link. -/
theorem Heats.same (hs : Heats s) (hheat : t.heat = s.heat) (hruns : t.prog.runs = s.prog.runs) (hoe : t.oe = s.oe)
    (hlink : t.bus.link = s.bus.link) : Heats t :=
  hs.stays (by rw [hheat]) (fun z => by rw [hheat]; exact .refl _ _) (fun z _ h => by rw [hruns]; exact h) hoe hlink

theorem Heats.of_off (h : ∀ z : ZoneNo, t.heat.zones[z].on = false) : Heats t := fun z hon => by
  rw [h z] at hon
  cases hon

/-- A run set leaves the window where it was active and no longer is. -/
theorem Heats.setRun (hs : Heats s) (z : ZoneNo) (r : Run) : Heats (setRun z r s) := by
  refine hs.stays (by simp) (fun y => setRun_stays z y r s) (fun y hon hactive => ?_) (by simp) (by simp)
  rw [setRun_runs]
  split
  next heq =>
    subst heq
    by_contra hnot
    rw [setRun_zone, if_pos ⟨rfl, hactive, by simpa using hnot⟩] at hon
    cases hon
  · exact hactive

/-- A zone changed with no loss of what its output rests on. -/
theorem Heats.mapZone (hs : Heats s) {z : ZoneNo} {zn : Zone} (h : ZoneStep s.heat.zones[z] zn) :
    Heats (mapZone z (fun _ => zn) s) := fun y hon => by
  unfold Zone.MayHeat
  rw [mapZone_zone] at hon ⊢
  split at hon
  next heq =>
    subst heq
    rw [if_pos rfl]
    obtain ⟨hwas, hplan, hfresh, hcool⟩ := h.on hon
    obtain ⟨hin, hactive, hfresh', hcool', hup, hheats⟩ := hs z hwas
    exact ⟨hplan ▸ hin, hactive, hfresh hfresh', hcool hcool', hup, hheats⟩
  next hne =>
    rw [if_neg hne]
    exact hs y hon

theorem Heats.lowerGrant (hs : Heats s) (m : Nat) : Heats (lowerGrant m s) :=
  hs.stays (by simp) (lowerGrant_stays m s) (fun _ _ h => by simpa using h) (by simp) (by simp)

theorem Heats.applyRamp (hs : Heats s) : Heats (applyRamp s) :=
  hs.stays (by simp) (applyGrant_stays _ s) (fun _ _ h => by simpa using h) (by simp) (by simp)

theorem Heats.relink (hs : Heats s) (l : LinkState) : Heats (relink l s) := fun z hon => by
  cases hl : l.heats with
  | false =>
    rw [relink_off hl] at hon
    cases hon
  | true =>
    obtain ⟨hplan, hactive, hfresh, hcool, hup, -⟩ := hs z ((relink_stays l s z).on hon)
    have hstays := relink_stays l s z
    refine ⟨?_, by simpa using hactive, hstays.alike.stale.trans hfresh, hstays.alike.isOver.trans hcool, by simpa using hup,
      by simpa using hl⟩
    rw [relink_heat_step]
    exact hstays.plan hon hplan

theorem Heats.setOe (hs : Heats s) (high : Bool) : Heats (setOe high s) := by
  cases high with
  | false => exact .of_off (setOe_off s)
  | true =>
    intro z hon
    have hstays := setOe_stays true s z
    obtain ⟨hplan, hactive, hfresh, hcool, -, hheats⟩ := hs z (hstays.on hon)
    refine ⟨?_, by simpa using hactive, hstays.alike.stale.trans hfresh, hstays.alike.isOver.trans hcool, ?_, by simpa using hheats⟩
    · rw [setOe_heat_step]
      exact hstays.plan hon hplan
    · simp [Machine.setOe]

/-- R16: the outputs set for the step that has begun. -/
theorem heats_setOutputs (s : State) : Heats (setOutputs s) := fun z hon => by
  have hout : s.outputAt z = true := by
    rw [setOutputs, mapZones_zone] at hon
    exact hon
  simp only [State.outputAt, State.outputsAllowed, Bool.and_eq_true, Bool.not_eq_true', List.contains_iff_mem] at hout
  obtain ⟨⟨⟨⟨hplan, hactive⟩, hfresh⟩, hcool⟩, hup, hheats⟩ := hout
  have halike := setOutputs_alike s z
  unfold Zone.MayHeat
  rw [setOutputs, mapZones_zone]
  exact ⟨hplan, hactive, hfresh, hcool, hup, hheats⟩

/-- The kinds that leave the step in progress and the plans made for it. -/
def InStep : Kind → Prop
  | .step | .reset => False
  | _ => True

theorem whole_inStep : Whole InStep where
  release _ _ := by intro k hk; cases k <;> first | exact hk.elim | trivial
  leaving _ := by intro k hk; cases k <;> first | exact hk.elim | trivial

/-- OE moving in reset, where the outputs stand off whatever the zones hold. -/
theorem Move.inReset (hk : InStep k) (hsingle : k.single) (hmove : Move k s t) : t.inReset = s.inReset := by
  cases hmove
  case asserted | released => exact hk.elim
  case release | leaving => exact hsingle.elim
  all_goals simp

theorem Move.heatSafe (hsingle : k.single) (hk : InStep k) (hmove : Move k s t) (hs : HeatSafe s) : HeatSafe t := by
  have hreset := hmove.inReset hk hsingle
  rw [heatSafe_iff] at hs ⊢
  intro hr
  rw [hreset] at hr
  have hs := hs hr
  cases hmove
  case run z r h => exact hs.setRun z r
  case done z hlive => exact hs.setRun z _
  case sample z zn h | settings z zn h _ => exact hs.mapZone h
  case off => exact .of_off (outputsOff_off s)
  case grant m => exact hs.lowerGrant m
  case ramp => exact hs.applyRamp
  case link l _ _ _ => exact hs.relink l
  case left => exact .of_off (enterLeft_off s)
  case restart => exact .of_off (restartBlocks_off s)
  case oe high => exact hs.setOe high
  case oeInReset h => exact absurd (hr.symm.trans h) nofun
  case bus b h => exact hs.same rfl rfl rfl h.link
  case nextStep | window | outputs | asserted | released => exact hk.elim
  case release | leaving => exact hsingle.elim
  all_goals exact hs.same (by simp) (by simp) (by simp) (by simp)

/-! ### The conveyor -/

/-- What R114 asks of a RUNNING conveyor. -/
def State.Runs (s : State) : Prop :=
  s.wareActive = true ∧ s.ware.enable = true ∧ s.oe = true ∧ s.bus.link.sends = true ∧
    s.heat.zones[s.ware.rinseZone].freshAtLeast s.ware.sanMin = true ∧
    s.heat.zones[s.ware.washZone].freshAtLeast s.ware.washMin = true

theorem Zone.freshAtLeast_mono {z : Zone} {a b : Nat} (hab : a ≤ b) (h : z.freshAtLeast b = true) : z.freshAtLeast a = true := by
  unfold Zone.freshAtLeast at h ⊢
  cases htemp : z.temp with
  | none => simp [htemp] at h
  | some n =>
    simp only [htemp, Bool.and_eq_true, decide_eq_true_eq] at h ⊢
    exact ⟨h.1, by omega⟩

theorem runs_of_target (h : s.conveyorTarget = .running) : s.Runs := by
  unfold State.conveyorTarget at h
  split at h
  · cases h
  next hon =>
  split at h
  next hmay =>
    simp only [State.mayRun, State.rinseOk, State.washOk, Bool.and_eq_true] at hmay
    obtain ⟨⟨⟨hup, hsends⟩, hrinse⟩, hwash⟩ := hmay
    simp only [Bool.or_eq_true, Bool.not_eq_true', not_or, Bool.not_eq_false] at hon
    refine ⟨hon.1, hon.2, hup, hsends, Zone.freshAtLeast_mono ?_ hrinse, hwash⟩
    unfold Ware.rinseThreshold
    split <;> omega
  · cases h

/-- What `Runs` rests on. -/
theorem State.Runs.same (hs : s.Runs) (hactive : t.wareActive = s.wareActive) (henable : t.ware.enable = s.ware.enable)
    (hsame : SameWareSettings s.ware t.ware) (hoe : t.oe = s.oe) (hlink : t.bus.link = s.bus.link)
    (hfresh : ∀ (z : ZoneNo) (n : Nat), t.heat.zones[z].freshAtLeast n = s.heat.zones[z].freshAtLeast n) : t.Runs := by
  obtain ⟨ha, he, ho, hl, hr, hw⟩ := hs
  have hzone {x y : ZoneNo} {m n : Nat} (hxy : x = y) (hmn : m = n) :
      t.heat.zones[x].freshAtLeast m = s.heat.zones[y].freshAtLeast n := by
    subst hxy hmn
    exact hfresh x m
  exact ⟨hactive.trans ha, henable.trans he, hoe.trans ho, hlink ▸ hl, (hzone hsame.rinseZone hsame.sanMin).trans hr,
    (hzone hsame.washZone hsame.washMin).trans hw⟩

theorem wareActive_of_same (hstraps : t.port.straps = s.port.straps) (hconf : t.port.configured = s.port.configured)
    (hlink : t.bus.link = s.bus.link) : t.wareActive = s.wareActive := by
  simp [State.wareActive, State.isConveyor, hstraps, hconf, hlink]

theorem driveConveyor_conveyor (s : State) : (driveConveyor s).ware.conveyor = s.conveyorTarget := by
  unfold driveConveyor
  dsimp only
  split <;> simp [mapWare, Ware.move]

theorem driveConveyor_runs (h : (driveConveyor s).ware.conveyor = .running) : (driveConveyor s).Runs := by
  rw [driveConveyor_conveyor] at h
  refine (runs_of_target h).same (wareActive_of_same ?_ ?_ ?_) ?_ ⟨?_, ?_, ?_, ?_⟩ ?_ ?_ fun z n => ?_
  all_goals simp

theorem conveyorSafe_drive (s : State) : ConveyorSafe (driveConveyor s) := fun _ => driveConveyor_runs

/-- R115: the conveyor evaluated again. -/
theorem conveyorSafe_eval (s : State) : ConveyorSafe (evalConveyor s) := by
  unfold evalConveyor
  split
  next hfault => exact fun _ hrun => by rw [hfault] at hrun; cases hrun
  · exact conveyorSafe_drive s

theorem ConveyorSafe.of_not_running (h : t.ware.conveyor ≠ .running) : ConveyorSafe t := fun _ hrun => absurd hrun h

theorem ConveyorSafe.same (hs : ConveyorSafe s) (hreset : t.inReset = s.inReset) (hconveyor : t.ware.conveyor = s.ware.conveyor)
    (henable : t.ware.enable = s.ware.enable) (hsame : SameWareSettings s.ware t.ware)
    (hstraps : t.port.straps = s.port.straps) (hconf : t.port.configured = s.port.configured) (hoe : t.oe = s.oe)
    (hlink : t.bus.link = s.bus.link)
    (hfresh : ∀ (z : ZoneNo) (n : Nat), t.heat.zones[z].freshAtLeast n = s.heat.zones[z].freshAtLeast n) : ConveyorSafe t :=
  fun hr hrun => (show s.Runs from hs (hreset ▸ hr) (hconveyor ▸ hrun)).same (wareActive_of_same hstraps hconf hlink) henable hsame
    hoe hlink hfresh

/-- The kinds that move neither the samples, nor the enable flag, nor the settings. -/
def Unsampled : Kind → Prop
  | .sample _ | .enable | .configure => False
  | _ => True

theorem whole_unsampled : Whole Unsampled where
  release _ _ := by intro k hk; cases k <;> first | exact hk.elim | trivial
  leaving _ := by intro k hk; cases k <;> first | exact hk.elim | trivial

theorem freshAtLeast_congr {a b : Zone} (htemp : b.temp = a.temp) (hage : b.age = a.age) (n : Nat) :
    b.freshAtLeast n = a.freshAtLeast n := by
  simp [Zone.freshAtLeast, Zone.stale, htemp, hage]

theorem Move.conveyorSafe (hsingle : k.single) (hk : Unsampled k) (hmove : Move k s t) (hs : ConveyorSafe s) : ConveyorSafe t := by
  cases hmove
  case drive => exact conveyorSafe_drive s
  case fault c h =>
    unfold faultConveyor
    split
    · exact hs
    · exact .of_not_running (by simp [mapWare, Ware.move])
  case ware w h henable => exact hs.same rfl h.conveyor henable h.settings rfl rfl rfl rfl fun _ _ => rfl
  case bus b h => exact hs.same rfl rfl rfl ⟨rfl, rfl, rfl, rfl⟩ rfl rfl rfl h.link fun _ _ => rfl
  case port p h => exact hs.same rfl rfl rfl ⟨rfl, rfl, rfl, rfl⟩ h.straps h.configured rfl rfl fun _ _ => rfl
  case run | done =>
    exact hs.same (by simp) (by simp) (by simp) ⟨by simp, by simp, by simp, by simp⟩ (by simp) (by simp) (by simp) (by simp)
      fun z n => (setRun_stays _ _ _ _).alike.freshAtLeast n
  case settings z zn h hsample =>
    refine hs.same (by simp) (by simp) (by simp) ⟨by simp, by simp, by simp, by simp⟩ (by simp) (by simp) (by simp) (by simp)
      fun y n => ?_
    rw [mapZone_zone]
    split
    next heq => exact heq ▸ freshAtLeast_congr hsample.1 hsample.2 n
    · rfl
  case window =>
    exact hs.same (by simp) (by simp) (by simp) ⟨by simp, by simp, by simp, by simp⟩ (by simp) (by simp) (by simp) (by simp)
      fun z n => (windowStart_alike s z).freshAtLeast n
  case outputs =>
    exact hs.same (by simp) (by simp) (by simp) ⟨by simp, by simp, by simp, by simp⟩ (by simp) (by simp) (by simp) (by simp)
      fun z n => (setOutputs_alike s z).freshAtLeast n
  case off =>
    exact hs.same (by simp) (by simp) (by simp) ⟨by simp, by simp, by simp, by simp⟩ (by simp) (by simp) (by simp) (by simp)
      fun z n => (outputsOff_stays s z).alike.freshAtLeast n
  case grant m =>
    exact hs.same (by simp) (by simp) (by simp) ⟨by simp, by simp, by simp, by simp⟩ (by simp) (by simp) (by simp) (by simp)
      fun z n => (lowerGrant_stays m s z).alike.freshAtLeast n
  case ramp =>
    exact hs.same (by simp) (by simp) (by simp) ⟨by simp, by simp, by simp, by simp⟩ (by simp) (by simp) (by simp) (by simp)
      fun z n => (applyGrant_stays _ s z).alike.freshAtLeast n
  case link l _ _ _ => exact conveyorSafe_eval _
  case oe high => exact conveyorSafe_eval _
  case left => exact .of_not_running (by simp [Ware.cleared])
  case restart => exact .of_not_running (by simp [Ware.cleared])
  case oeInReset h => exact fun hr => absurd (h.symm.trans hr) nofun
  case asserted => exact fun hr => nomatch hr
  case released => exact .of_not_running nofun
  case sample | enable | configure => exact hk.elim
  case release | leaving => exact hsingle.elim
  all_goals
    exact hs.same (by simp) (by simp) (by simp) ⟨by simp, by simp, by simp, by simp⟩ (by simp) (by simp) (by simp) (by simp)
      fun z n => by simp

end Zones

end Sys2Proof.Machine

/-! The commands that age or sample zones, set the outputs or write ware settings, and with them the heaters and the conveyor over every
step (R16, R114). -/

namespace Sys2Proof.Machine

section Commands
variable {s t u : State} {c : Instr}

/-- A condition that the writing of a frame's answer keeps, and the command's own work brings about. -/
theorem keeps_of_write {P : State → Prop} {ok before : Bool} {act : State → State × Result}
    (hport : ∀ st d r s, P s → P (answerFrame st d r s)) (hs : P s) (hact : P (act s).1)
    (h : unlessReset s (writeFrame ok before act) = .next u) : P u := by
  rcases unlessReset_cases h with ⟨-, rfl⟩ | ⟨-, rfl⟩
  · exact hs
  · rcases writeFrame_cases ok before act s with ⟨-, heq⟩ | ⟨-, -, -, heq⟩ | ⟨-, -, heq⟩ <;> rw [heq]
    · exact hport _ _ _ _ hs
    · exact hport _ _ _ _ hs
    · exact hport _ _ _ _ hact

theorem keeps_of_unlessReset {P : State → Prop} {f : State → State} (hs : P s) (hact : P (f s))
    (h : unlessReset s f = .next u) : P u := by
  rcases unlessReset_cases h with ⟨-, rfl⟩ | ⟨-, rfl⟩
  · exact hs
  · exact hact

/-! ### The outputs -/

theorem HeatSafe.reach {K : Kind → Prop} (hK : Admits InStep K) (h : Reach K s t) (hs : HeatSafe s) : HeatSafe t :=
  (h.mono hK).keepsWhole whole_inStep Move.heatSafe hs

theorem inStep_of_allowed (hstep : c ≠ .stepBoundary ∧ c ≠ .windowStart) (hreset : c ≠ .resetAsserted)
    (hreleased : ∀ straps, c ≠ .resetReleased straps) : Admits InStep (Allowed s c) := by
  intro k hk
  cases k
  case step => exact hk.elim hstep.1 hstep.2
  case reset =>
    rcases hk with heq | ⟨straps, heq⟩
    · exact hreset heq
    · exact hreleased straps heq
  all_goals trivial

theorem heatSafe_stepBoundary (s : State) : HeatSafe (stepBoundary s) := by
  have hchain (u : State) : HeatSafe (zonesChanged (setOutputs u)) :=
    HeatSafe.reach (K := InStep) (fun _ hk => hk)
      (Reach.zonesChanged (fun k hk => by cases k <;> first | exact hk.elim | trivial) trivial trivial .refl)
      (heatSafe_iff.mpr fun _ => heats_setOutputs u)
  exact hchain _

theorem HeatSafe.exec (hc : ∀ bytes, c ≠ .noticeDiscarded bytes) (h : exec c s = .next u) (hs : HeatSafe s) : HeatSafe u := by
  cases c
  case stepBoundary => exact keeps_of_unlessReset hs (heatSafe_stepBoundary s) h
  case windowStart =>
    refine keeps_of_unlessReset hs ?_ h
    split
    · exact heatSafe_stepBoundary s
    · exact hs
  case resetAsserted =>
    cases h
    exact heatSafe_iff.mpr fun hr => nomatch hr
  case resetReleased straps =>
    cases h
    exact (Sys2Proof.Proofs.resetMeetsAll straps s.oe).2.2.2.2.2.1
  all_goals
    refine HeatSafe.reach ?_ (exec_reach hc h) hs
    exact inStep_of_allowed ⟨nofun, nofun⟩ nofun nofun

/-! ### The conveyor -/

theorem ConveyorSafe.reach {K : Kind → Prop} (hK : Admits Unsampled K) (h : Reach K s t) (hs : ConveyorSafe s) : ConveyorSafe t :=
  (h.mono hK).keepsWhole whole_unsampled Move.conveyorSafe hs

theorem ConveyorSafe.answer (st : Byte) (d : List Byte) (r : Result) (s : State) (hs : ConveyorSafe s) :
    ConveyorSafe (answerFrame st d r s) :=
  ConveyorSafe.reach (K := Unsampled) (fun _ hk => hk) (Reach.answerFrame trivial st d r .refl) hs

theorem unsampled_of_allowed (hsample : setsSamples c = false) (hware : ∀ p, c ≠ .wareSet p) (hconf : ∀ p, c ≠ .configure p) :
    Admits Unsampled (Allowed s c) := by
  intro k hk
  cases k
  case sample => exact absurd (hk.symm.trans hsample) nofun
  case enable =>
    obtain ⟨p, heq⟩ := hk
    exact hware p heq
  case configure =>
    obtain ⟨p, heq⟩ := hk
    exact hconf p heq
  all_goals trivial

theorem conveyorSafe_setWare (enable : Bool) (n : Nat) (s : State) : ConveyorSafe (setWare enable n s) := by
  have hchain (v : State) : ConveyorSafe (watchBacklog (fun _ => evalLevel (evalConveyor v)) s) :=
    ConveyorSafe.reach (K := Unsampled) (fun _ hk => hk)
      (Reach.watchBacklog (fun k hk => by cases k <;> first | exact hk.elim | trivial)
        (Reach.evalLevel (fun k hk => by cases k <;> first | exact hk.elim | trivial) .refl))
      (conveyorSafe_eval v)
  exact hchain _

theorem conveyorSafe_takeSamples (xs : List (ZoneNo × Int × Option Int)) (s : State) : ConveyorSafe (takeSamples xs s) := by
  unfold takeSamples
  exact conveyorSafe_eval _

theorem conveyorSafe_zonesChanged (s : State) : ConveyorSafe (zonesChanged s) := by
  unfold zonesChanged
  exact conveyorSafe_eval _

theorem conveyorSafe_stepBoundary (s : State) : ConveyorSafe (stepBoundary s) := by
  unfold stepBoundary
  exact conveyorSafe_zonesChanged _

theorem ConveyorSafe.configure (hs : ConveyorSafe s) (p : List Byte) : ConveyorSafe (configure p s).1 := by
  unfold Machine.configure
  split
  · exact hs
  · exact conveyorSafe_eval _

theorem ConveyorSafe.exec (hc : ∀ bytes, c ≠ .noticeDiscarded bytes) (h : exec c s = .next u) (hs : ConveyorSafe s) :
    ConveyorSafe u := by
  cases c
  case configure p => exact keeps_of_write ConveyorSafe.answer hs (hs.configure p) h
  case wareSet p =>
    refine keeps_of_write ConveyorSafe.answer hs ?_ h
    split
    · exact hs
    · exact conveyorSafe_setWare _ _ s
  case sample p =>
    refine keeps_of_write ConveyorSafe.answer hs ?_ h
    split
    · dsimp only
      exact conveyorSafe_takeSamples _ s
    · exact hs
  case stepBoundary => exact keeps_of_unlessReset hs (conveyorSafe_stepBoundary s) h
  case windowStart =>
    refine keeps_of_unlessReset hs ?_ h
    split
    · exact conveyorSafe_stepBoundary s
    · exact hs
  case sampleStale z =>
    refine keeps_of_unlessReset hs ?_ h
    split
    · exact conveyorSafe_zonesChanged _
    · exact hs
  all_goals
    refine ConveyorSafe.reach ?_ (exec_reach hc h) hs
    exact unsampled_of_allowed rfl nofun nofun

end Commands

end Sys2Proof.Machine

namespace Sys2Proof.Proofs

open Sys2Proof.Machine

/-- Settles O13. -/
theorem conveyorKept : Obligations.ConveyorKept := by
  have hquiet (s u : State) (hr : Reach (Allowed s .radioByteTimeout) s u) :
      (ConveyorSafe s → ConveyorSafe u) ∧ (HeatSafe s → HeatSafe u) := by
    constructor
    · refine ConveyorSafe.reach ?_ hr
      exact unsampled_of_allowed rfl nofun nofun
    · refine HeatSafe.reach ?_ hr
      exact inStep_of_allowed ⟨nofun, nofun⟩ nofun nofun
  have hqueue (l : List Instr) (s : State) := hquiet s _ (.of_move (k := .queue) trivial (.queue l s))
  have hbump (k : CounterName) (s : State) := hquiet s _ (Reach.bump (basics (k := .count) trivial) k .refl)
  have hidle (s : State) := hquiet s _ (idleStep_reach _)
  exact ⟨fun s t => keeps_of_step (fun l s => (hqueue l s).1) (fun _ _ _ hc h => ConveyorSafe.exec hc h)
      (fun k s => (hbump k s).1) (fun s => (hidle s).1),
    fun s t => keeps_of_step (fun l s => (hqueue l s).2) (fun _ _ _ hc h => HeatSafe.exec hc h)
      (fun k s => (hbump k s).2) (fun s => (hidle s).2)⟩

end Sys2Proof.Proofs

/-! The applied grant within the demand and the link state's bound (R54, R55), kept by every step. -/

namespace Sys2Proof.Machine

section Grants
variable {s t u : State} {k : Kind} {c : Instr}

/-- What `GrantSafe` asks besides the demand. -/
structure GrantFits (s : State) : Prop where
  joined : s.bus.link = .joined → s.load.applied ≤ s.load.usable
  solo : s.bus.link = .listen ∨ s.bus.link = .alone → s.load.applied ≤ s.load.solo
  other : s.bus.link.heats = false → s.load.applied = 0
  settings : s.load.solo ≤ s.load.usable
  expiry : s.load.expiryGrant ≤ s.load.usable
  unconfigured : s.port.configured = false →
    (s.bus.link = .off ∨ s.bus.link = .monitor) ∧ s.load.expiryGrant = 0 ∧ s.bus.queue = []

theorem grantSafe_iff : GrantSafe s ↔ GrantFits s ∧ s.load.applied ≤ s.declaredQ :=
  ⟨fun h => ⟨⟨h.joined, h.solo, h.other, h.settings, h.expiry, h.unconfigured⟩, h.demand⟩,
    fun ⟨h, hdemand⟩ => ⟨hdemand, h.joined, h.solo, h.other, h.settings, h.expiry, h.unconfigured⟩⟩

/-! ### The grant a link state gives -/

/-- R48: the grant of a link state lies within the demand and that state's bound. -/
structure Bounded (s : State) (g : Nat) : Prop where
  joined : s.bus.link = .joined → g ≤ s.load.usable
  solo : s.bus.link = .listen ∨ s.bus.link = .alone → g ≤ s.load.solo
  other : s.bus.link.heats = false → g = 0

theorem Bounded.mono {g g' : Nat} (h : Bounded s g) (hle : g' ≤ g) : Bounded s g' where
  joined hl := hle.trans (h.joined hl)
  solo hl := hle.trans (h.solo hl)
  other hl := Nat.le_zero.mp (h.other hl ▸ hle)

theorem stateGrant_of_not_heats (hl : s.bus.link.heats = false) : s.stateGrant = 0 := by
  unfold State.stateGrant
  cases hlink : s.bus.link <;> rw [hlink] at hl <;> first | rfl | cases hl

theorem stateGrant_bounded (hs : s.load.expiryGrant ≤ s.load.usable) : Bounded s s.stateGrant := by
  refine ⟨fun hl => ?_, fun hl => ?_, stateGrant_of_not_heats⟩
  · rw [State.stateGrant, hl]
    exact hs
  · rcases hl with hl | hl <;> rw [State.stateGrant, hl]
    · exact Nat.min_le_right _ _
    · dsimp only
      split <;> exact Nat.min_le_right _ _

theorem stateGrant_le_usable (hsolo : s.load.solo ≤ s.load.usable) (hexpiry : s.load.expiryGrant ≤ s.load.usable) :
    s.stateGrant ≤ s.load.usable := by
  have h := stateGrant_bounded hexpiry
  cases hlink : s.bus.link
  case joined => exact h.joined hlink
  case listen => exact (h.solo (.inl hlink)).trans hsolo
  case alone => exact (h.solo (.inr hlink)).trans hsolo
  all_goals exact (h.other (by rw [hlink]; rfl)).trans_le (Nat.zero_le _)

/-- The own grant of the live set lies within the demand and the usable limit. -/
theorem grantIn_own (s : State) : grantIn s.liveTable s.own ≤ s.declaredQ ∧ grantIn s.liveTable s.own ≤ s.load.usable := by
  rcases grantIn_liveTable (s := s) s.own with h0 | ⟨r, hr, hst, hle, husable⟩
  · rw [h0]
    exact ⟨Nat.zero_le _, Nat.zero_le _⟩
  · refine ⟨hle.trans ?_, husable⟩
    simp only [State.liveRows, List.mem_append, List.mem_cons, List.mem_map, List.mem_filter, decide_eq_true_eq] at hr
    rcases hr with ⟨x, ⟨-, hlt⟩, rfl⟩ | rfl | ⟨x, ⟨-, hlt⟩, rfl⟩
    · exact absurd hst (ne_of_lt hlt)
    · exact max_le s.declaredF_le_declaredQ le_rfl
    · exact absurd hst (ne_of_gt hlt)

theorem GrantFits.bounded (hs : GrantFits s) : Bounded s s.load.applied := ⟨hs.joined, hs.solo, hs.other⟩

theorem GrantFits.of_bounded (h : Bounded t t.load.applied) (hsettings : t.load.solo ≤ t.load.usable)
    (hexpiry : t.load.expiryGrant ≤ t.load.usable)
    (hconf : t.port.configured = false → (t.bus.link = .off ∨ t.bus.link = .monitor) ∧ t.load.expiryGrant = 0 ∧ t.bus.queue = []) :
    GrantFits t := ⟨h.joined, h.solo, h.other, hsettings, hexpiry, hconf⟩

/-! ### Moves -/

/-- The same limits, the grant no higher, the link and the configuration the same, an empty queue staying so. -/
theorem GrantFits.same (hs : GrantFits s) (husable : t.load.usable = s.load.usable) (hsolo : t.load.solo = s.load.solo)
    (happlied : t.load.applied ≤ s.load.applied) (hexpiry : t.load.expiryGrant = s.load.expiryGrant)
    (hlink : t.bus.link = s.bus.link) (hconf : t.port.configured = s.port.configured)
    (hqueue : s.bus.queue = [] → t.bus.queue = []) : GrantFits t := by
  have hbounded := hs.bounded.mono happlied
  refine .of_bounded ⟨fun hl => ?_, fun hl => ?_, fun hl => ?_⟩ ?_ ?_ fun hno => ?_
  · exact husable ▸ hbounded.joined (hlink ▸ hl)
  · exact hsolo ▸ hbounded.solo (hlink ▸ hl)
  · exact hbounded.other (hlink ▸ hl)
  · rw [hsolo, husable]
    exact hs.settings
  · rw [hexpiry, husable]
    exact hs.expiry
  · obtain ⟨hoff, hzero, hempty⟩ := hs.unconfigured (hconf ▸ hno)
    exact ⟨hlink ▸ hoff, hexpiry.trans hzero, hqueue hempty⟩

/-- A configured station whose grant is 0. -/
theorem GrantFits.of_zero (happlied : t.load.applied = 0) (hsettings : t.load.solo ≤ t.load.usable)
    (hexpiry : t.load.expiryGrant ≤ t.load.usable) (hconf : t.port.configured = true) : GrantFits t :=
  .of_bounded ⟨fun _ => by omega, fun _ => by omega, fun _ => happlied⟩ hsettings hexpiry
    fun hno => absurd (hconf.symm.trans hno) nofun

/-- Kinds but the ramp, entry to LEFT at a configured station. -/
def Unramped : Kind → Prop
  | .ramp => False
  | .left configured _ => configured = true
  | _ => True

theorem whole_unramped : Whole Unramped where
  release _ _ := by intro k hk; cases k <;> first | exact hk.elim | trivial
  leaving _ := by intro k hk; cases k <;> first | exact hk.elim | trivial

theorem relink_load (l : LinkState) (s : State) : (relink l s).load =
    { s.load with grant := (setLink l s).stateGrant, applied := min s.load.applied (setLink l s).stateGrant } := by
  unfold relink
  split
  · simp [setLink]
  next hl =>
    have hcold : (setLink l s).bus.link.heats = false := by simpa [setLink] using hl
    rw [evalConveyor_load, regrant_load, stateGrant_of_not_heats hcold, stateGrant_of_not_heats (by simpa using hcold)]
    simp [setLink]

theorem relink_grantFits {l : LinkState} (hs : GrantFits s) (hconf : s.port.configured = true) : GrantFits (relink l s) := by
  have hload := relink_load l s
  have hgrant : Bounded (relink l s) (setLink l s).stateGrant := by
    have h := stateGrant_bounded (s := setLink l s) hs.expiry
    refine ⟨fun hl => ?_, fun hl => ?_, fun hl => ?_⟩
    · rw [hload]
      exact h.joined (by simpa [setLink] using hl)
    · rw [hload]
      exact h.solo (by simpa [setLink] using hl)
    · exact h.other (by simpa [setLink] using hl)
  refine .of_bounded (hgrant.mono ?_) ?_ ?_ fun hno => absurd ?_ (by simp [hconf] : ¬(relink l s).port.configured = false)
  · rw [hload]
    exact Nat.min_le_right _ _
  · rw [hload]
    exact hs.settings
  · rw [hload]
    exact hs.expiry
  · exact hno

theorem computeGrant_expiry (hs : GrantFits s) : (computeGrant s).load.expiryGrant ≤ s.load.usable := by
  show (if s.bus.link = .joined then grantIn (if s.sharesLive then s.liveTable else []) s.own else s.stateGrant) ≤ _
  split
  next hl =>
    rw [if_pos (by simp [State.sharesLive, hl])]
    exact (grantIn_own s).2
  · exact stateGrant_le_usable hs.settings hs.expiry

theorem Move.grantFits (hsingle : k.single) (hk : Unramped k) (hmove : Move k s t) (hs : GrantFits s) : GrantFits t := by
  cases hmove
  case take b hlink =>
    refine .of_bounded ?_ (by simpa using hs.settings) (by simpa using hs.expiry) fun hno => ?_
    · exact ⟨by simpa using hs.joined, by simpa using hs.solo, by simpa using hs.other⟩
    · exact absurd (hs.unconfigured (by simpa using hno)).1 (by simp [hlink.1, hlink.2])
  case bus b h => exact hs.same rfl rfl le_rfl rfl h.link rfl h.queue
  case load l h _ => exact hs.same h.usable h.solo h.applied.le h.expiry rfl rfl id
  case port p h => exact hs.same rfl rfl le_rfl rfl rfl h.configured id
  case compute =>
    refine .of_bounded ⟨hs.joined, hs.solo, hs.other⟩ hs.settings (computeGrant_expiry hs) fun hno => ?_
    obtain ⟨hoff, hzero, hempty⟩ := hs.unconfigured hno
    refine ⟨hoff, ?_, hempty⟩
    have hlink : s.bus.link ≠ .joined := by rcases hoff with h | h <;> rw [h] <;> nofun
    show (if s.bus.link = .joined then _ else s.stateGrant) = 0
    rw [if_neg hlink]
    exact (stateGrant_bounded hs.expiry).other (by rcases hoff with h | h <;> rw [h] <;> rfl)
  case link l _ _ hconf => exact relink_grantFits hs (hconf fun hno => (hs.unconfigured hno).1)
  case left =>
    exact .of_zero (by simp) (by simpa [Load.cleared, Load.usable] using hs.settings) (by simp [Load.cleared]) (by simpa using (show s.port.configured = true from hk))
  case restart hlink hconf =>
    exact .of_zero (by simp) (by simpa [Load.cleared, Load.usable] using hs.settings) (by simp [Load.cleared]) (by simpa [Port.restarted] using hconf)
  case configure p hconf =>
    obtain ⟨hoff, hzero, hempty⟩ := hs.unconfigured hconf
    have happlied : s.load.applied = 0 := hs.other (by rcases hoff with h | h <;> rw [h] <;> rfl)
    refine .of_zero happlied ?_ (hzero.trans_le (Nat.zero_le _)) rfl
    exact clamp_le (Nat.zero_le _) _
  case released straps draws missed =>
    obtain ⟨hreset, -⟩ := grantSafe_iff.mp (Sys2Proof.Proofs.resetMeetsAll straps s.oe).2.1
    exact hreset.same rfl rfl le_rfl rfl rfl rfl id
  case grant m => exact hs.same (by simp [Load.usable]) (by simp) (by simp) (by simp) (by simp) (by simp) (by simp)
  case ramp => exact hk.elim
  case release | leaving => exact hsingle.elim
  all_goals exact hs.same (by simp [Load.usable]) (by simp) (by simp) (by simp) (by simp) (by simp) (by simp)

theorem GrantFits.reach {K : Kind → Prop} (hK : Admits Unramped K) (h : Reach K s t) (hs : GrantFits s) : GrantFits t :=
  (h.mono hK).keepsWhole whole_unramped Move.grantFits hs

/-! ### The demand -/

theorem declaredQ_of_same (hzones : ∀ z : ZoneNo, s.heat.zones[z].Alike t.heat.zones[z]) (hruns : t.prog.runs = s.prog.runs) :
    t.declaredQ = s.declaredQ := by
  have hdemand : t.demand = s.demand := by
    funext z
    unfold State.demand
    rw [(hzones z).demand, hruns]
  unfold State.declaredQ
  rw [hdemand]

/-- The applied grant falls or stands under the same demand. -/
theorem demand_of_same (hzones : ∀ z : ZoneNo, s.heat.zones[z].Alike t.heat.zones[z]) (hruns : t.prog.runs = s.prog.runs)
    (happlied : t.load.applied ≤ s.load.applied) (hs : s.load.applied ≤ s.declaredQ) : t.load.applied ≤ t.declaredQ := by
  rw [declaredQ_of_same hzones hruns]
  exact happlied.trans hs

theorem demand_followDemand (s : State) : (followDemand s).load.applied ≤ (followDemand s).declaredQ := by
  have hsame : (followDemand s).declaredQ = s.declaredQ :=
    declaredQ_of_same (fun z => (lowerGrant_stays _ s z).alike) (by simp)
  rw [hsame, followDemand_load]
  exact Nat.min_le_right _ _

theorem followDemand_reach : Reach Unramped s (followDemand s) := Reach.followDemand trivial .refl

/-- R55: the applied grant follows the demand. -/
theorem GrantFits.followed (hs : GrantFits s) : GrantSafe (followDemand s) :=
  grantSafe_iff.mpr ⟨hs.reach (fun _ hk => hk) followDemand_reach, demand_followDemand s⟩

theorem demand_releaseRec (r : CourseRec) (st : Station) (isLocal : Bool) (s : State) :
    (releaseRec r st isLocal s).load.applied ≤ (releaseRec r st isLocal s).declaredQ := by
  unfold releaseRec
  exact demand_followDemand _

@[simp] theorem withdrawPages_bus (s : State) : (withdrawPages s).bus = s.bus :=
  foldl_keeps (fun s => s.bus) _ (fun _ _ => makeReport_bus _ _) s.page.pages _

@[simp] theorem withdrawPages_load (s : State) : (withdrawPages s).load = s.load :=
  foldl_keeps (fun s => s.load) _ (fun _ _ => makeReport_load _ _) s.page.pages _

theorem changeLink_not_sends {l : LinkState} (hl : l.sends = false) (s : State) : changeLink l s = relink l s := by
  simp [changeLink_eq, hl]

theorem enterLeaving_link (s : State) : (enterLeaving s).bus.link = .leaving := by
  simp [enterLeaving, changeLink_not_sends (l := .leaving) rfl]

theorem stateGrant_setLink_leaving (s : State) : (setLink .leaving s).stateGrant = 0 := rfl

theorem enterLeaving_applied (s : State) : (enterLeaving s).load.applied = 0 := by
  simp [enterLeaving, changeLink_not_sends (l := .leaving) rfl, relink_load, stateGrant_setLink_leaving]

/-- The applied grant within the demand (R55). -/
def Demanded (s : State) : Prop := s.load.applied ≤ s.declaredQ

/-- The kinds that leave the demand, or let the grant follow it; entry to LEAVING does so by its grant of 0. -/
def Followed : Kind → Prop
  | .run _ | .done _ | .sample _ | .settings _ | .ramp | .leaving => False
  | _ => True

theorem Move.demanded (hk : Followed k) (hmove : Move k s t) (hs : Demanded s) : Demanded t := by
  cases hmove
  case release r st isLocal _ _ => exact demand_releaseRec r st isLocal s
  case left | restart => simp [Demanded]
  case grant m => exact demand_of_same (s := s) (fun z => (lowerGrant_stays m s z).alike) (by simp) (by simp) hs
  case window => exact demand_of_same (s := s) (windowStart_alike s) (by simp) (by simp) hs
  case outputs => exact demand_of_same (s := s) (setOutputs_alike s) (by simp) (by simp) hs
  case off => exact demand_of_same (s := s) (fun z => (outputsOff_stays s z).alike) (by simp) (by simp) hs
  case load l h _ => exact demand_of_same (s := s) (fun _ => .refl _) rfl h.applied.le hs
  case link l _ _ _ =>
    refine demand_of_same (s := s) (fun z => (relink_stays l s z).alike) (by simp) ?_ hs
    unfold relink
    split <;> simp [setLink]
  case oe high => exact demand_of_same (s := s) (fun z => (setOe_stays high s z).alike) (by simp) (by simp) hs
  case released straps draws missed => exact Nat.zero_le _
  case run | done | sample | settings | ramp | leaving => exact hk.elim
  all_goals exact demand_of_same (s := s) (fun z => by simpa using Zone.Alike.refl _) (by simp) (by simp) hs

theorem Demanded.reach {K : Kind → Prop} (hK : Admits Followed K) (h : Reach K s t) (hs : Demanded s) : Demanded t :=
  (h.mono hK).keeps Move.demanded hs

theorem Demanded.answer (st : Byte) (d : List Byte) (r : Result) (s : State) (hs : Demanded s) : Demanded (answerFrame st d r s) :=
  hs.reach (K := Followed) (fun _ hk => hk) (Reach.answerFrame trivial st d r .refl)

/-! ### The commands that move runs or samples -/

theorem demanded_followDemand (s : State) : Demanded (followDemand s) := demand_followDemand s

theorem demanded_fire (c : CourseNo) (s : State) : Demanded (fire c s) := by
  unfold fire
  exact demanded_followDemand _

theorem Demanded.fireScheduled (hs : Demanded s) (c : CourseNo) : Demanded (fireScheduled c s) := by
  unfold Machine.fireScheduled
  split
  · exact hs
  split
  · exact demanded_fire c s
  · exact hs.reach (K := Followed) (fun _ hk => hk) (Reach.bump trivial _ .refl)

theorem Demanded.setClock (hs : Demanded s) (n : Nat) : Demanded (setClock n s) :=
  foldl_inv (fun u (e : SchedEntry) => Machine.fireScheduled e.course u) (fun _ e hu => hu.fireScheduled e.course) _ _ hs

theorem demanded_takeStandingHeard (x : CourseSaid) (s : State) : Demanded (takeStandingHeard x s) := by
  unfold takeStandingHeard
  exact demanded_followDemand _

theorem followed_of_reactsOn {d : CourseNo} : Admits Followed (reactsOn d) := by
  intro k hk
  cases k <;> first | trivial | exact hk

theorem Demanded.takeCourse (hs : Demanded s) (x : CourseSaid) : Demanded (takeCourse x s) := by
  unfold Machine.takeCourse
  split
  · exact hs.reach (K := Followed) (fun _ hk => hk) (Reach.releaseCourse trivial _ _ .refl)
  split
  · split
    · exact hs.reach (K := Followed) (fun _ hk => hk) (Reach.reRelease followed_of_reactsOn .refl)
    · exact demanded_takeStandingHeard x s
  · split
    · exact hs
    split
    · exact demanded_takeStandingHeard x _
    · exact hs.reach (K := Followed) (fun _ hk => hk) (Reach.bump trivial _ .refl)

theorem Demanded.courseNotice (hs : Demanded s) (st : Station) (d m : Byte) (fire : Bool) (plates warm : Option Half) :
    Demanded (takeCourseNotice st d m fire plates warm s) := by
  unfold takeCourseNotice
  split
  · exact hs.takeCourse _
  · exact hs

theorem Demanded.heard (hs : Demanded s) (n : Notice) : Demanded (bump .noticesHeard (recordNotice n s)) :=
  hs.reach (K := Followed) (fun _ hk => hk) (Reach.bump trivial _ (Reach.recordNotice trivial n .refl))

theorem Demanded.assignFrame (hs : Demanded s) (p : List Byte) : Demanded (assignFrame p s).1 := by
  unfold Machine.assignFrame
  dsimp only
  split
  next d n _ _ =>
    split
    next body _ =>
      split
      · exact hs
      split
      · exact hs
      split
      · exact hs
      · unfold assign
        exact demanded_followDemand _
    · exact hs
  · exact hs

theorem demanded_abort (zs : List ZoneNo) (s : State) : Demanded (abort zs s) := by
  unfold abort
  exact demanded_followDemand _

theorem demanded_setZones (x : ZoneSettings) (zs : List ZoneNo) (s : State) : Demanded (setZones x zs s) := by
  unfold setZones
  exact demanded_followDemand _

theorem demanded_runTick (z : ZoneNo) (s : State) : Demanded (runTick z s) := by
  unfold runTick
  exact demanded_followDemand _

theorem demanded_eval (h : Demanded s) : Demanded (evalConveyor s) :=
  h.reach (K := Followed) (fun _ hk => hk) (Reach.evalConveyor trivial .refl)

theorem demanded_takeSamples (xs : List (ZoneNo × Int × Option Int)) (s : State) : Demanded (takeSamples xs s) := by
  unfold takeSamples
  exact demanded_eval (demanded_followDemand _)

theorem demanded_zonesChanged (s : State) : Demanded (zonesChanged s) := by
  unfold zonesChanged
  exact demanded_eval (demanded_followDemand _)

theorem demanded_stepBoundary (s : State) : Demanded (stepBoundary s) := by
  unfold stepBoundary
  exact demanded_zonesChanged _

theorem demanded_serviceTick (s : State) : Demanded (serviceTick s) := by
  have hchain (u : State) : Demanded (pageTick (wareTick (followDemand u))) :=
    (demanded_followDemand u).reach (K := Followed) (fun _ hk => hk)
      (Reach.pageTick (fun k hk => by cases k <;> first | exact hk.elim | trivial)
        (Reach.wareTick (fun k hk => by cases k <;> first | exact hk.elim | trivial) .refl))
  exact hchain _

/-- A command that sets runs leaves the applied grant within the demand. -/
theorem Demanded.setsRuns (hc : setsRuns c = true) (h : exec c s = .next u) (hs : Demanded s) : Demanded u := by
  cases c
  case assign p => exact keeps_of_write Demanded.answer hs (hs.assignFrame p) h
  case fire p =>
    refine keeps_of_write Demanded.answer hs ?_ h
    split
    · exact hs
    split
    · exact hs
    split
    · exact hs
    · exact demanded_fire _ s
  case abort p =>
    refine keeps_of_write Demanded.answer hs ?_ h
    split
    · exact hs
    · exact demanded_abort _ s
  case setClock p =>
    refine keeps_of_write Demanded.answer hs ?_ h
    split
    · exact hs
    · exact hs.setClock _
  case zoneSet p =>
    refine keeps_of_write Demanded.answer hs ?_ h
    dsimp only
    split
    · exact hs
    split
    · exact hs
    · dsimp only
      exact demanded_setZones _ _ s
  case sample p =>
    refine keeps_of_write Demanded.answer hs ?_ h
    split
    · dsimp only
      exact demanded_takeSamples _ s
    · exact hs
  case stepBoundary => exact keeps_of_unlessReset hs (demanded_stepBoundary s) h
  case windowStart =>
    refine keeps_of_unlessReset hs ?_ h
    split
    · exact demanded_stepBoundary s
    · exact hs
  case sampleStale z =>
    refine keeps_of_unlessReset hs ?_ h
    split
    · exact demanded_zonesChanged _
    · exact hs
  case timedStageEnd z | zoneLate z | holdOver z =>
    refine keeps_of_unlessReset hs ?_ h
    split
    · exact demanded_runTick z s
    · exact hs
  case courseHeard =>
    refine keeps_of_unlessReset hs ?_ h
    unfold hearing
    split
    · exact hs
    · exact (hs.heard _).courseNotice _ _ _ _ _ _
  case serviceClockTick => exact keeps_of_unlessReset hs (demanded_serviceTick s) h
  case scheduleEntryFires i =>
    simp only [exec, execScheduleEntryFires] at h
    refine keeps_of_unlessReset hs ?_ h
    split
    next e _ =>
      split
      · exact Demanded.fireScheduled (s := { s with course := { s.course with schedule := s.course.schedule.eraseIdx i.val } }) hs e.course
      · exact hs
    · exact hs
  all_goals cases hc

/-! ### The load period -/

/-- R54: the grant computed lies within the demand and the link state's bound. -/
def Granted (s : State) : Prop := s.load.grant ≤ s.declaredQ ∧ Bounded s s.load.grant

theorem granted_computeGrant (hs : GrantFits s) : Granted (computeGrant s) := by
  have hgrant : (computeGrant s).load.grant =
      if s.bus.link = .joined then grantIn (if s.sharesLive then s.liveTable else []) s.own else s.stateGrant := rfl
  by_cases hl : s.bus.link = .joined
  · rw [if_pos hl, if_pos (by simp [State.sharesLive, hl])] at hgrant
    unfold Granted
    rw [hgrant]
    refine ⟨(grantIn_own s).1, ⟨fun _ => (grantIn_own s).2, fun h => ?_, fun h => ?_⟩⟩
    · rcases h with h | h <;> cases hl.symm.trans h
    · have hcold : s.bus.link.heats = false := h
      rw [hl] at hcold
      cases hcold
  · rw [if_neg hl] at hgrant
    unfold Granted
    rw [hgrant]
    obtain ⟨hjoined, hsolo, hother⟩ := stateGrant_bounded hs.expiry
    refine ⟨?_, hjoined, hsolo, hother⟩
    show s.stateGrant ≤ s.declaredQ
    have hfloor := s.declaredF_le_declaredQ
    unfold State.stateGrant
    split
    · exact (Nat.min_le_left _ _).trans hfloor
    · split
      · exact (Nat.min_le_left _ _).trans hfloor
      · exact Nat.min_le_left _ _
    · exact absurd ‹_› hl
    all_goals exact Nat.zero_le _

theorem Granted.testCurtailed (hs : Granted s) : Granted (testCurtailed s) := by
  unfold Machine.testCurtailed
  dsimp only
  obtain ⟨hq, hjoined, hsolo, hother⟩ := hs
  split
  · refine ⟨?_, ⟨?_, ?_, ?_⟩⟩
    · rw [declaredQ_of_same (s := s) (fun z => by simpa using Zone.Alike.refl _) (by simp)]
      simpa using hq
    · simpa [Load.usable] using hjoined
    · simpa using hsolo
    · simpa using hother
  · exact ⟨hq, ⟨hjoined, hsolo, hother⟩⟩

/-- R54: the ramp takes the applied grant to the grant at most. -/
theorem Granted.applyRamp (hs : Granted s) (hfits : GrantFits s) : GrantSafe (applyRamp s) := by
  have hle : s.load.ramped ≤ s.load.grant := by
    unfold Load.ramped
    split
    · exact le_rfl
    · exact Nat.min_le_left _ _
  obtain ⟨hjoined, hsolo, hother⟩ := hs.2.mono hle
  refine grantSafe_iff.mpr ⟨.of_bounded ⟨?_, ?_, ?_⟩ ?_ ?_ ?_, ?_⟩
  · simpa [Load.usable] using hjoined
  · simpa using hsolo
  · simpa using hother
  · simpa [Load.usable] using hfits.settings
  · simpa [Load.usable] using hfits.expiry
  · simpa using hfits.unconfigured
  · have hq : (Machine.applyRamp s).declaredQ = s.declaredQ :=
      declaredQ_of_same (fun z => (applyGrant_stays _ s z).alike) (by simp)
    rw [hq, applyRamp_load]
    exact hle.trans hs.1

theorem unramped_of_losses : Admits Unramped losses := by
  intro k hk
  cases k <;> first | trivial | (rcases hk with hk | hk <;> exact hk.elim)

theorem grantSafe_loadPeriod (hs : GrantFits s) : GrantSafe (loadPeriodEnd (loadPeriodFigures s)) := by
  have haged : GrantFits (countListen { ageTable s with load := (ageTable s).load.endClash }) :=
    hs.reach unramped_of_losses (Reach.periodAged (fun _ hk => hk) .refl)
  have hcomputed : GrantFits (computeGrant (countListen { ageTable s with load := (ageTable s).load.endClash })) :=
    haged.reach (K := Unramped) (fun _ hk => hk) (.of_move (k := .compute) trivial (.compute _))
  have hfigures : GrantFits (loadPeriodFigures s) :=
    hcomputed.reach (K := Unramped) (fun _ hk => hk) (Reach.testCurtailed trivial trivial .refl)
  have hramped : GrantSafe (applyRamp (loadPeriodFigures s)) := (granted_computeGrant haged).testCurtailed.applyRamp hfigures
  unfold loadPeriodEnd
  dsimp only
  split
  · obtain ⟨hfits, hdemand⟩ := grantSafe_iff.mp hramped
    exact grantSafe_iff.mpr ⟨hfits.reach (K := Unramped) (fun _ hk => hk) (Reach.hand trivial _ .refl),
      Demanded.reach (K := Followed) (fun _ hk => hk) (Reach.hand trivial _ .refl) hdemand⟩
  · exact hramped

/-! ### Every command -/

theorem unramped_of_allowed (hc : c ≠ .loadPeriodExpiry) (hs : GrantFits s) : Admits Unramped (Allowed s c) := by
  intro k hk
  cases k
  case ramp => exact hc hk
  case left configured own => exact hk.1 fun hno => (hs.unconfigured hno).2.2
  all_goals trivial

theorem followed_of_allowed (hruns : setsRuns c = false) (hc : c ≠ .loadPeriodExpiry) (hleave : ∀ p, c ≠ .withdraw p) :
    Admits Followed (Allowed s c) := by
  intro k hk
  cases k
  case run => exact absurd (hk.symm.trans hruns) nofun
  case done => exact hk
  case sample =>
    have hsome : setsSamples c = true := hk
    cases c <;> first | exact Bool.noConfusion (show false = true from hsome) | exact Bool.noConfusion (show true = false from hruns)
  case settings =>
    obtain ⟨p, rfl⟩ := hk
    cases hruns
  case ramp => exact hc hk
  case leaving =>
    obtain ⟨p, heq⟩ := hk
    exact hleave p heq
  all_goals trivial

theorem GrantSafe.exec (hc : ∀ bytes, c ≠ .noticeDiscarded bytes) (h : exec c s = .next u) (hs : GrantSafe s) : GrantSafe u := by
  obtain ⟨hfits, hdemand⟩ := grantSafe_iff.mp hs
  by_cases hload : c = .loadPeriodExpiry
  · subst hload
    simp only [Machine.exec, execLoadPeriodExpiry] at h
    exact keeps_of_unlessReset hs (grantSafe_loadPeriod hfits) h
  have hfits' : GrantFits u := hfits.reach (unramped_of_allowed hload hfits) (exec_reach hc h)
  refine grantSafe_iff.mpr ⟨hfits', ?_⟩
  cases hruns : setsRuns c with
  | true => exact Demanded.setsRuns hruns h hdemand
  | false =>
    by_cases hleave : ∃ p, c = .withdraw p
    · obtain ⟨p, rfl⟩ := hleave
      refine keeps_of_write Demanded.answer hdemand ?_ h
      split
      · exact (enterLeaving_applied s).trans_le (Nat.zero_le _)
      · exact hdemand
    · exact Demanded.reach (followed_of_allowed hruns hload fun p hp => hleave ⟨p, hp⟩) (exec_reach hc h) hdemand

end Grants

end Sys2Proof.Machine

namespace Sys2Proof.Proofs

open Sys2Proof.Machine

/-- Settles O10. -/
theorem appliedGrantKept : Obligations.AppliedGrantKept := fun s t hs h => by
  have hquiet (s u : State) (hr : Reach (Allowed s .radioByteTimeout) s u) (hs : GrantSafe s) : GrantSafe u := by
    obtain ⟨hfits, hdemand⟩ := grantSafe_iff.mp hs
    refine grantSafe_iff.mpr ⟨hfits.reach ?_ hr, Demanded.reach ?_ hr hdemand⟩
    · exact unramped_of_allowed nofun hfits
    · exact followed_of_allowed rfl nofun nofun
  refine keeps_of_step (fun l s => ?_) (fun c s u hc he => GrantSafe.exec hc he) (fun k s => ?_) (fun s => ?_) hs h
  · exact hquiet s _ (.of_move (k := .queue) trivial (.queue l s))
  · exact hquiet s _ (Reach.bump (basics (k := .count) trivial) k .refl)
  · exact hquiet s _ (idleStep_reach _)

end Sys2Proof.Proofs

/-! A notice handed (R66–R69, R71): O20. -/

namespace Sys2Proof.Machine

section Queue
variable {q l1 l2 : List TxEntry} {v e : TxEntry} {b : Body} {cls : TxClass}

theorem withoutId_middle (hids : ((l1 ++ v :: l2).map (·.id)).Nodup) : withoutId v.id (l1 ++ v :: l2) = l1 ++ l2 := by
  have hids' := (List.perm_middle.map TxEntry.id).nodup_iff.mp hids
  rw [List.map_cons, List.nodup_cons] at hids'
  have hkeep (l : List TxEntry) (hl : ∀ e ∈ l, e ∈ l1 ++ l2) : withoutId v.id l = l :=
    List.filter_eq_self.mpr fun e he => by
      have hne : e.id ≠ v.id := fun heq => hids'.1 (heq ▸ List.mem_map_of_mem (hl e he))
      simpa using hne
  have hsplit : withoutId v.id (l1 ++ v :: l2) = withoutId v.id l1 ++ withoutId v.id l2 := by
    simp [withoutId, List.filter_append]
  rw [hsplit, hkeep l1 fun e he => List.mem_append_left _ he, hkeep l2 fun e he => List.mem_append_right _ he]

theorem waitingOf_eq_nil_iff : waitingOf cls q = [] ↔ ∀ e ∈ q, e.waiting = true → e.body.txClass ≠ cls := by
  simp [waitingOf, List.filter_eq_nil_iff]

/-- The latest waiting notice of its class. -/
theorem getLast_waitingOf (hv : v.waiting = true) (hcls : v.body.txClass = cls)
    (hlater : ∀ e ∈ l2, e.waiting = true → e.body.txClass ≠ cls) : (waitingOf cls (l1 ++ v :: l2)).getLast? = some v := by
  have hrest : waitingOf cls l2 = [] := waitingOf_eq_nil_iff.mpr hlater
  have hsplit : waitingOf cls (l1 ++ v :: l2) = waitingOf cls l1 ++ [v] := by
    unfold waitingOf at hrest ⊢
    rw [List.filter_append, List.filter_cons, hrest]
    simp [hv, hcls]
  rw [hsplit]
  exact List.getLast?_concat

/-- R67: the waiting notice of a key is the one that a notice of that key supersedes. -/
theorem supersededBy_middle (hkeys : (((l1 ++ v :: l2).filter (·.waiting)).filterMap (·.body.key)).Nodup)
    (hv : v.waiting = true) (hsome : b.key.isSome = true) (hkey : v.body.key = b.key) :
    supersededBy b (l1 ++ v :: l2) = some v := by
  obtain ⟨k, hk⟩ := Option.isSome_iff_exists.mp hsome
  cases hfind : supersededBy b (l1 ++ v :: l2) with
  | none =>
    refine absurd ?_ (key_not_mem_of_supersededBy_none hfind hk)
    exact List.mem_filterMap.mpr ⟨v, List.mem_filter.mpr ⟨by simp, hv⟩, hkey.trans hk⟩
  | some e =>
    obtain ⟨hmem, hwaiting, hekey⟩ := supersededBy_some hfind
    have hnot := (keys_middle l1 l2 v).nodup_iff.mp hkeys
    rw [if_pos hv, hkey, hk] at hnot
    have hcases : e = v ∨ e ∈ l1 ++ l2 := by
      simp only [List.mem_append, List.mem_cons] at hmem ⊢
      tauto
    rcases hcases with rfl | hother
    · rfl
    · refine absurd ?_ (List.nodup_cons.mp hnot).1
      exact List.mem_filterMap.mpr ⟨e, List.mem_filter.mpr ⟨hother, hwaiting⟩, hekey.trans hk⟩

theorem supersededBy_eq_none (h : ∀ e ∈ q, e.waiting = true → b.key.isSome = true → e.body.key ≠ b.key) :
    supersededBy b q = none :=
  List.find?_eq_none.mpr fun e he hmatch => by
    simp only [Bool.and_eq_true, beq_iff_eq] at hmatch
    exact h e he hmatch.1.1 hmatch.2 hmatch.1.2

/-- R69: the notice displaced is the latest waiting of class C, or failing that, for class A, of class B. -/
theorem displacedBy_middle (hv : v.waiting = true)
    (h : (b.txClass ≠ .c ∧ v.body.txClass = .c ∧ ∀ e ∈ l2, e.waiting = true → e.body.txClass ≠ .c) ∨
      (b.txClass = .a ∧ v.body.txClass = .b ∧ (∀ e ∈ l1 ++ v :: l2, e.waiting = true → e.body.txClass ≠ .c) ∧
        ∀ e ∈ l2, e.waiting = true → e.body.txClass ≠ .b)) : displacedBy b (l1 ++ v :: l2) = some v := by
  unfold displacedBy
  rcases h with ⟨hb, hcls, hlater⟩ | ⟨hb, hcls, hnone, hlater⟩
  · have hlast := getLast_waitingOf (l1 := l1) hv hcls hlater
    cases hbc : b.txClass
    · simp [hlast]
    · exact hlast
    · exact absurd hbc hb
  · have hlast := getLast_waitingOf (l1 := l1) hv hcls hlater
    rw [hb]
    simp [waitingOf_eq_nil_iff.mpr hnone, hlast]

theorem displacedBy_eq_none (h : b.txClass = .c ∨ (b.txClass = .b ∧ ∀ e ∈ q, e.waiting = true → e.body.txClass ≠ .c) ∨
    ∀ e ∈ q, e.waiting = true → e.body.txClass = .a) : displacedBy b q = none := by
  unfold displacedBy
  rcases h with hb | ⟨hb, hnone⟩ | hall
  · rw [hb]
  · rw [hb]
    simp [waitingOf_eq_nil_iff.mpr hnone]
  · have hnone (cls : TxClass) (hcls : cls ≠ .a) : waitingOf cls q = [] :=
      waitingOf_eq_nil_iff.mpr fun e he hw heq => hcls (heq.symm.trans (hall e he hw))
    rw [hnone .c nofun, hnone .b nofun]
    cases b.txClass <;> rfl

/-- A queue with a waiting notice has a head. -/
theorem headOf_ne_none (he : e ∈ q) (hw : e.waiting = true) : headOf q ≠ none := by
  intro hnone
  have hempty := List.head?_eq_none_iff.mp hnone
  simp only [List.append_eq_nil_iff, waitingOf_eq_nil_iff] at hempty
  obtain ⟨⟨ha, hb⟩, hc⟩ := hempty
  cases hcls : e.body.txClass
  · exact ha e he hw hcls
  · exact hb e he hw hcls
  · exact hc e he hw hcls

end Queue

theorem State.counter_bump (k : CounterName) (s : State) : (bump k s).counter k = (s.counter k).bump := by
  simp [State.counter, bump, bumpIf]

/-- R71: a notice appended wakes an access machine that is EMPTY, and no other. -/
theorem wake_access {b : Bus} {h : TxEntry} (hhead : headOf b.queue = some h) :
    (b.access ≠ .empty → b.wake.access = b.access ∧ b.wake.gapUs = b.gapUs) ∧
    (b.access = .empty → b.lineBusy = true → b.wake.access = .deferred) ∧
    (b.access = .empty → b.lineBusy = false → b.wake.access = .gap ∧
      ∃ k, k < 8 ∧ b.wake.gapUs = h.body.txClass.gapUs + 16 * k) := by
  refine ⟨fun hne => by simp [Bus.wake, hne], fun hempty hbusy => ?_, fun hempty hidle => ?_⟩
  · simp [Bus.wake, hempty, Bus.seek, hhead, hbusy]
  · simp only [Bus.wake, hempty, Bus.seek, hhead, hidle, if_true]
    exact ⟨rfl, Config.draw b.draws % 8, Nat.mod_lt _ (by decide), rfl⟩

theorem wake_frame (b : Bus) :
    b.wake = { b with access := b.wake.access, gapUs := b.wake.gapUs, draws := b.wake.draws } := by
  unfold Bus.wake
  split
  · rcases seek_cases b with ⟨-, heq⟩ | ⟨h, -, ⟨-, heq⟩ | ⟨-, heq⟩⟩ <;> rw [heq]
  · rfl

section Handing
variable {s : State} {b : Body}

theorem hand_of_sends (hsends : s.bus.link.sends = true) : hand b s = takeNotice b s := if_pos hsends

theorem takeNotice_superseding {old : TxEntry} (h : supersededBy b s.bus.queue = some old) :
    takeNotice b s = { s with bus := s.bus.took (s.bus.queue.map fun e =>
      if e.id = old.id then { s.newEntry b with attempts := old.attempts, waitMs := old.waitMs } else e) } := by
  unfold takeNotice
  rw [h]

theorem takeNotice_appended (h : supersededBy b s.bus.queue = none) (hroom : s.bus.queue.length < 12) :
    takeNotice b s = { s with bus := (s.bus.took (s.bus.queue ++ [s.newEntry b])).wake } := by
  unfold takeNotice
  rw [h]
  exact if_pos hroom

theorem takeNotice_displacing (h : supersededBy b s.bus.queue = none) (hfull : ¬s.bus.queue.length < 12) {v : TxEntry}
    (hv : displacedBy b s.bus.queue = some v) : takeNotice b s =
      pageNotSent v.id (bump .txqDrop { s with bus := s.bus.took (withoutId v.id s.bus.queue ++ [s.newEntry b]) }) := by
  unfold takeNotice
  rw [h]
  dsimp only
  rw [if_neg hfull, hv]

theorem takeNotice_refused (h : supersededBy b s.bus.queue = none) (hfull : ¬s.bus.queue.length < 12)
    (hv : displacedBy b s.bus.queue = none) : takeNotice b s = bump .txqDrop s := by
  unfold takeNotice
  rw [h]
  dsimp only
  rw [if_neg hfull, hv]

/-- R69: whatever becomes of a notice at a full queue, TXQ_DROP rises. -/
theorem takeNotice_full_counter (h : supersededBy b s.bus.queue = none) (hfull : ¬s.bus.queue.length < 12) :
    (takeNotice b s).counter .txqDrop = (s.counter .txqDrop).bump := by
  cases hv : displacedBy b s.bus.queue with
  | none =>
    rw [takeNotice_refused h hfull hv]
    exact State.counter_bump _ _
  | some v =>
    rw [takeNotice_displacing h hfull hv]
    exact State.counter_bump _ _

end Handing

end Sys2Proof.Machine

namespace Sys2Proof.Proofs

open Sys2Proof.Machine

/-- Settles O20. -/
theorem handingNotice : Obligations.HandingNotice := by
  intro b s hsafe q new t
  refine ⟨fun hlink => if_neg (by simp [hlink]), fun hsends => ?_⟩
  have ht : t = takeNotice b s := hand_of_sends hsends
  refine ⟨fun l1 old l2 hq hw hsome hkey => ?_, fun hkeys => ?_⟩
  · have hq' : s.bus.queue = l1 ++ old :: l2 := hq
    rw [ht, takeNotice_superseding (hq' ▸ supersededBy_middle (hq' ▸ hsafe.keys) hw hsome hkey), hq',
      map_id_eq (hq' ▸ hsafe.ids)]
    rfl
  have hnone : supersededBy b s.bus.queue = none := supersededBy_eq_none hkeys
  refine ⟨fun hroom => ?_, fun hfull => ?_⟩
  · rw [ht, takeNotice_appended hnone hroom]
    have hsome : headOf (q ++ [new]) ≠ none := headOf_ne_none (e := new) (by simp) rfl
    obtain ⟨h, hhead⟩ := Option.ne_none_iff_exists'.mp hsome
    have hwake := wake_access (b := s.bus.took (q ++ [new])) hhead
    have hframe := wake_frame (s.bus.took (q ++ [new]))
    have hqueue := wake_queue (s.bus.took (q ++ [new]))
    refine ⟨hqueue, ?_, ?_, hwake.1, hwake.2.1, fun hempty hidle => ⟨(hwake.2.2 hempty hidle).1, fun h' hh' => ?_⟩⟩
    · rw [hframe]
      rfl
    · rw [hframe]
      rfl
    · obtain rfl : h = h' := Option.some.inj (hhead.symm.trans hh')
      exact (hwake.2.2 hempty hidle).2
  · have hnot : ¬s.bus.queue.length < 12 := by
      show ¬q.length < 12
      omega
    refine ⟨ht ▸ takeNotice_full_counter hnone hnot, fun l1 v l2 hq hw hv => ?_, fun hv => ?_⟩
    · have hq' : s.bus.queue = l1 ++ v :: l2 := hq
      have hdisplaced : displacedBy b s.bus.queue = some v := by
        rw [hq']
        exact displacedBy_middle hw (by rwa [hq] at hv)
      rw [ht, takeNotice_displacing hnone hnot hdisplaced, hq', withoutId_middle (hq' ▸ hsafe.ids)]
      rfl
    · rw [ht, takeNotice_refused hnone hnot (displacedBy_eq_none hv)]
      rfl

end Sys2Proof.Proofs

/-! CONFIGURE and the clock: O23, O24. -/

namespace Sys2Proof.Machine

section Frames
variable {s : State}

/-- A write command out of reset, of the right length, that the station may take. -/
theorem unlessReset_writeFrame (hreset : s.inReset = false) {ok before : Bool} (hok : ok = true)
    (hmay : before = true ∨ s.port.configured = true) (act : State → State × Result) :
    unlessReset s (writeFrame ok before act) = .next (answerFrame s.statusByte [] (act s).2 (act s).1) := by
  rw [unlessReset_of_not_inReset hreset]
  rcases hmay with rfl | hconf
  · simp [writeFrame, hok]
  · simp [writeFrame, hok, hconf]

/-- A command that the block refuses. -/
theorem exec_refused (hreset : s.inReset = false) {ok before : Bool} (hok : ok = true)
    (hmay : before = true ∨ s.port.configured = true) {act : State → State × Result} {r : Result} (hact : act s = (s, r)) :
    unlessReset s (writeFrame ok before act) = .next (s.refusedWith r) := by
  rw [unlessReset_writeFrame hreset hok hmay, hact]
  rfl

/-- A command that the block takes. -/
theorem exec_taken (hreset : s.inReset = false) {ok before : Bool} (hok : ok = true)
    (hmay : before = true ∨ s.port.configured = true) {act : State → State × Result} {t : State} (hact : act s = (t, .ok)) :
    unlessReset s (writeFrame ok before act) = .next (answerFrame s.statusByte [] .ok t) := by
  rw [unlessReset_writeFrame hreset hok hmay, hact]

end Frames

/-! ### CONFIGURE (R172) -/

section Configure
variable {s : State}

/-- R114: a conveyor that is OFF and not enabled stays as it is. -/
theorem evalConveyor_of_off (hoff : s.ware.conveyor = .off) (henable : s.ware.enable = false) : evalConveyor s = s := by
  have htarget : s.conveyorTarget = .off := by simp [State.conveyorTarget, henable]
  have hmove : s.ware.move .off = s.ware := by
    unfold Ware.move
    rw [if_neg nofun, if_neg (by rw [hoff]; nofun), ← hoff]
  unfold evalConveyor driveConveyor
  rw [if_neg (by rw [hoff]; nofun)]
  dsimp only
  rw [htarget, if_neg (by rw [hoff]; nofun)]
  show { s with ware := s.ware.move .off } = s
  rw [hmove]

theorem lowerGrant_of_le {m : Nat} (h : s.load.applied ≤ m) : lowerGrant m s = s := if_neg (Nat.not_lt.mpr h)

/-- R61: CONFIGURE in OFF leaves the outputs, the applied grant and the conveyor as they are. -/
theorem changeLink_listen_of_off (hoff : s.bus.link = .off) (happlied : s.load.applied = 0) (hconveyor : s.ware.conveyor = .off)
    (henable : s.ware.enable = false) : changeLink .listen s =
      { s with bus := { s.bus with link := .listen }, load := { s.load with grant := min s.declaredF s.load.solo } } := by
  have hregrant : regrant (setLink .listen s) =
      { s with bus := { s.bus with link := .listen }, load := { s.load with grant := min s.declaredF s.load.solo } } := by
    unfold regrant
    have hstand : (setGrant (setLink .listen s).stateGrant (setLink .listen s)).load.applied ≤ (setLink .listen s).stateGrant :=
      happlied.trans_le (Nat.zero_le _)
    rw [lowerGrant_of_le hstand]
    rfl
  have hrelink : relink .listen s =
      { s with bus := { s.bus with link := .listen }, load := { s.load with grant := min s.declaredF s.load.solo } } := by
    unfold relink
    rw [if_pos (show LinkState.listen.heats = true from rfl), hregrant]
    exact evalConveyor_of_off hconveyor henable
  rw [changeLink_eq, hrelink]
  simp [hoff]

end Configure

/-! ### SET CLOCK (R81, R84) -/

section Clock
variable {s t : State}

theorem lastResult_of_kept (h : t.kept = s.kept) : t.port.lastResult = s.port.lastResult := congrArg Kept.lastResult h
theorem dataOut_of_kept (h : t.kept = s.kept) : t.port.dataOut = s.port.dataOut := congrArg Kept.dataOut h

theorem isUp_of_kept (h : t.kept = s.kept) (hup : s.isUp) : t.isUp :=
  ⟨(congrArg Kept.inReset h).trans hup.1, (congrArg (fun k => k.settings.configured) h).trans hup.2⟩

/-- A state as a frame's answer leaves it, with the last result and data out put back. -/
theorem unanswered_eq (hresult : t.port.lastResult = s.port.lastResult) (hdata : t.port.dataOut = s.port.dataOut) (st : Byte)
    (d : List Byte) (r : Result) :
    ({ answerFrame st d r t with port := { (answerFrame st d r t).port with
      lastResult := s.port.lastResult, dataOut := s.port.dataOut } } : State) = t := by
  rw [← hresult, ← hdata]
  rfl

theorem courseAt_u8 : ∀ c : CourseNo, c ≠ 0 → courseAt [u8 c] 0 = some c := by decide

/-- FIRE of a course with its own byte. -/
theorem exec_fire (hup : s.isUp) {c : CourseNo} (hc : c ≠ 0) : exec (.fire [u8 c]) s =
    if s.bus.link.bars || s.isReleased c then .next (s.refusedWith .refusedState)
    else if s.canHaveRec c then .next (answerFrame s.statusByte [] .ok (fire c s))
    else .next (s.refusedWith .boardFull) := by
  refine (unlessReset_writeFrame hup.1 rfl (.inr hup.2) _).trans ?_
  rw [courseAt_u8 c hc]
  dsimp only
  split
  · rfl
  · cases s.canHaveRec c <;> rfl

/-- R84: a schedule entry fires as the FIRE of its course. -/
theorem afterFire_eq (hup : s.isUp) {e : SchedEntry} (hc : e.course ≠ 0) : s.afterFire e = fireScheduled e.course s := by
  unfold State.afterFire fireScheduled
  rw [exec_fire hup hc]
  by_cases hbars : (s.bus.link.bars || s.isReleased e.course) = true
  · rw [if_pos hbars, if_pos hbars]
    rfl
  rw [if_neg hbars, if_neg hbars]
  cases s.canHaveRec e.course with
  | true =>
    exact unanswered_eq (lastResult_of_kept (fire_kept _ _)) (dataOut_of_kept (fire_kept _ _)) s.statusByte [] .ok
  | false => rfl

theorem foldl_afterFire {l : List SchedEntry} (hup : s.isUp) (hc : ∀ e ∈ l, e.course ≠ 0) :
    l.foldl State.afterFire s = l.foldl (fun s e => fireScheduled e.course s) s := by
  induction l generalizing s with
  | nil => rfl
  | cons e l ih =>
    obtain ⟨he, hl⟩ := List.forall_mem_cons.mp hc
    rw [List.foldl_cons, List.foldl_cons, afterFire_eq hup he]
    exact ih (isUp_of_kept (fireScheduled_kept _ _) hup) hl

theorem foldl_fireScheduled_steady (l : List SchedEntry) (s : State) :
    (l.foldl (fun s e => fireScheduled e.course s) s).steady = s.steady :=
  foldl_keeps (fun s => s.steady) _ (fun _ _ => fireScheduled_steady _ _) l s

/-- R84: in MONITOR, LEAVING and LEFT every entry is spent. -/
theorem foldl_fireScheduled_of_bars (hbars : s.bus.link.bars = true) (l : List SchedEntry) :
    l.foldl (fun s e => fireScheduled e.course s) s = s := by
  induction l with
  | nil => rfl
  | cons e l ih =>
    have hspent : fireScheduled e.course s = s := if_pos (by simp [hbars])
    rw [List.foldl_cons, hspent, ih]

end Clock

end Sys2Proof.Machine

namespace Sys2Proof.Proofs

open Sys2Proof.Machine

/-- Settles O23. -/
theorem configure : Obligations.Configure := by
  intro p s hreset hlen
  have hok : (p.length == 20) = true := by simp [hlen]
  refine ⟨fun hconf => ?_, fun hconf hgrant hracks => ?_⟩
  · exact exec_refused hreset hok (.inl rfl) (if_pos hconf)
  · obtain ⟨-, hconveyor, henable⟩ := hracks.configured hconf
    obtain ⟨hlink, -, -⟩ := hgrant.unconfigured hconf
    have happlied : s.load.applied = 0 := hgrant.other (by rcases hlink with h | h <;> rw [h] <;> rfl)
    refine exec_taken hreset hok (.inl rfl) ?_
    have hact : Machine.configure p s = (evalConveyor (leaveOff (s.configuredBy p)), .ok) := if_neg (by simp [hconf])
    rw [hact]
    unfold leaveOff
    rcases hlink with hoff | hmonitor
    · have hopen := changeLink_listen_of_off
        (s := { s.configuredBy p with bus := { (s.configuredBy p).bus with lineBusy := true } }) hoff happlied hconveyor henable
      rw [if_pos (show (s.configuredBy p).bus.link = .off from hoff), hopen, evalConveyor_of_off]
      · simp only [hoff, if_true]
        rfl
      · exact hconveyor
      · exact henable
    · have hstand := evalConveyor_of_off (s := s.configuredBy p) hconveyor henable
      rw [if_neg (by rw [configuredBy_bus, hmonitor]; nofun), hstand]
      have hne : s.bus.link ≠ .off := by rw [hmonitor]; nofun
      simp only [hne, if_false]
      rfl

/-- Settles O24. -/
theorem setClock : Obligations.SetClock := by
  intro p s hup hlen crossed rest moved
  have hok : (p.length == 3) = true := by simp [hlen]
  refine ⟨fun hlate => exec_refused hup.1 hok (.inr hup.2) (if_pos hlate), fun htime htables => ?_⟩
  have hmoved : moved.isUp := hup
  have hcourses : ∀ e ∈ s.course.schedule.filter crossed, e.course ≠ 0 := fun e he =>
    (htables.entries e (List.mem_filter.mp he).1).1
  have hfold := foldl_afterFire hmoved hcourses
  have hexec : exec (.setClock p) s = .next (answerFrame s.statusByte [] .ok
      ((s.course.schedule.filter crossed).foldl State.afterFire moved)) := by
    rw [hfold]
    exact exec_taken hup.1 hok (.inr hup.2) (if_neg (by omega))
  have hkept := setClock_kept (tripleAt p 0) s
  have hsteady := foldl_fireScheduled_steady (s.course.schedule.filter crossed) moved
  refine ⟨hexec, _, hexec, rfl, rfl, ?_, ?_, ?_, fun hback => ?_, fun hnone => ?_⟩
  · rw [hfold]
    exact congrArg Steady.clock hsteady
  · rw [hfold]
    exact congrArg Steady.schedule hsteady
  · rw [hfold]
    show (Machine.setClock (tripleAt p 0) s).settings = s.settings
    exact settings_of_kept hkept
  · refine List.filter_eq_self.mpr fun e _ => ?_
    have hnot : crossed e = false := by
      simp only [crossed, Bool.and_eq_false_iff, decide_eq_false_iff_not]
      omega
    simp [hnot]
  · rw [hfold]
    rcases hnone with hall | hbars
    · have hempty : s.course.schedule.filter crossed = [] :=
        List.filter_eq_nil_iff.mpr fun e he => by simpa using List.all_eq_true.mp hall e he
      rw [hempty]
      rfl
    · rw [foldl_fireScheduled_of_bars (s := moved) hbars]

end Sys2Proof.Proofs

/-! WITHDRAW and RESTART (R64, R78): O25, O26. -/

namespace Sys2Proof.Machine

section Leaving
variable {s : State}

/-- Where no event is taken the conveyor's evaluation moves its state and its margin flag alone. -/
theorem evalConveyor_quiet (h : s.bus.link.takesEvents = false) :
    evalConveyor s = { s with ware := (evalConveyor s).ware } ∧
      (evalConveyor s).ware = { s.ware with
        conveyor := (evalConveyor s).ware.conveyor, margin := (evalConveyor s).ware.margin } := by
  have hdrive : driveConveyor s = { s with ware := s.ware.move s.conveyorTarget } := by
    unfold driveConveyor
    dsimp only
    split
    · exact raise_of_not_takes h
    · rfl
  unfold evalConveyor
  split
  · exact ⟨rfl, rfl⟩
  · rw [hdrive]
    exact ⟨rfl, rfl⟩

/-- R114: at a station that may not send the conveyor does not run. -/
theorem evalConveyor_not_running (h : s.bus.link.sends = false) : (evalConveyor s).ware.conveyor ≠ .running := by
  intro hrun
  have hlink : (evalConveyor s).bus.link.sends = true := by
    unfold evalConveyor at hrun ⊢
    split at hrun
    next hfault =>
      rw [hfault] at hrun
      cases hrun
    next hfault =>
      rw [if_neg hfault]
      exact (driveConveyor_runs hrun).2.2.2.1
  rw [evalConveyor_bus, h] at hlink
  cases hlink

/-- R63, R78: what a move to LEAVING does besides the link, the outputs and the grant. -/
theorem relink_leaving_quiet (s : State) : (relink .leaving s).port = s.port ∧ (relink .leaving s).route = s.route ∧
    (relink .leaving s).ware = { s.ware with
      conveyor := (relink .leaving s).ware.conveyor, margin := (relink .leaving s).ware.margin } ∧
    (relink .leaving s).ware.conveyor ≠ .running := by
  have hquiet := evalConveyor_quiet (s := regrant (outputsOff (setLink .leaving s))) (by simp [setLink, LinkState.takesEvents])
  have hstop := evalConveyor_not_running (s := regrant (outputsOff (setLink .leaving s))) (by simp [setLink, LinkState.sends])
  have hrelink : relink .leaving s = evalConveyor (regrant (outputsOff (setLink .leaving s))) := rfl
  rw [hrelink]
  refine ⟨?_, ?_, ?_, hstop⟩
  · rw [hquiet.1]
    simp [setLink]
  · rw [hquiet.1]
    simp [setLink]
  · have hware := hquiet.2
    have hsame : (regrant (outputsOff (setLink .leaving s))).ware = s.ware := by simp [setLink]
    rwa [hsame] at hware

/-! ### The pages withdrawn (R154) -/

@[simp] theorem withdrawPages_heat (s : State) : (withdrawPages s).heat = s.heat :=
  foldl_keeps (fun s => s.heat) _ (fun _ _ => makeReport_heat _ _) s.page.pages _
@[simp] theorem withdrawPages_prog (s : State) : (withdrawPages s).prog = s.prog :=
  foldl_keeps (fun s => s.prog) _ (fun _ _ => makeReport_prog _ _) s.page.pages _
@[simp] theorem withdrawPages_course (s : State) : (withdrawPages s).course = s.course :=
  foldl_keeps (fun s => s.course) _ (fun _ _ => makeReport_course _ _) s.page.pages _
@[simp] theorem withdrawPages_ware (s : State) : (withdrawPages s).ware = s.ware :=
  foldl_keeps (fun s => s.ware) _ (fun _ _ => makeReport_ware _ _) s.page.pages _
@[simp] theorem withdrawPages_route (s : State) : (withdrawPages s).route = s.route :=
  foldl_keeps (fun s => s.route) _ (fun _ _ => makeReport_route _ _) s.page.pages _
@[simp] theorem withdrawPages_page (s : State) : (withdrawPages s).page = { s.page with pages := [] } :=
  foldl_keeps (fun s => s.page) _ (fun _ _ => makeReport_page _ _) s.page.pages _
@[simp] theorem withdrawPages_port_counters (s : State) : (withdrawPages s).port.counters = s.port.counters :=
  foldl_keeps (fun s => s.port.counters) (fun s (p : Page) => makeReport (.withdrawn p.number p.attempt p.group p.code p.course p.state) s)
    (fun _ _ => rfl) s.page.pages _

/-- R154: the WITHDRAWN report of a page. -/
def Page.withdrawn (p : Page) : ReportBody := .withdrawn p.number p.attempt p.group p.code p.course p.state

theorem foldl_makeReport_mailbox (pages : List Page) (s : State) :
    (pages.foldl (fun s p => makeReport p.withdrawn s) s).port.mailbox =
      pages.foldl (fun m p => m.put s.course.clock p.withdrawn) s.port.mailbox := by
  induction pages generalizing s with
  | nil => rfl
  | cons p pages ih => exact ih (makeReport p.withdrawn s)

theorem withdrawPages_mailbox (s : State) : (withdrawPages s).port.mailbox =
    s.page.pages.foldl (fun m p => m.put s.course.clock p.withdrawn) s.port.mailbox :=
  foldl_makeReport_mailbox s.page.pages { s with page := { s.page with pages := [] } }

/-! ### Entry to LEAVING -/

/-- R78: the station with every waiting notice gone and LEAVE queued. -/
def State.queuedLeave (s : State) : State :=
  { s with bus := (s.bus.clearWaiting.took (s.bus.clearWaiting.queue ++ [s.newEntry .leave])).wake }

theorem takeNotice_leave (hsafe : TxSafe s) : takeNotice .leave { s with bus := s.bus.clearWaiting } = s.queuedLeave := by
  have hnone : supersededBy .leave s.bus.clearWaiting.queue = none := supersededBy_eq_none fun _ _ _ hsome => by cases hsome
  have hroom : s.bus.clearWaiting.queue.length < 12 := Nat.lt_of_le_of_lt hsafe.line (by decide)
  exact takeNotice_appended (s := { s with bus := s.bus.clearWaiting }) hnone hroom

theorem enterLeaving_eq (hsafe : TxSafe s) :
    enterLeaving s = emptyRelay (withdrawPages (emptyRoute (relink .leaving s.queuedLeave))) := by
  unfold enterLeaving
  dsimp only
  rw [takeNotice_leave hsafe, changeLink_not_sends rfl]

theorem queuedLeave_queue (s : State) : s.queuedLeave.bus.queue = s.bus.queue.filter (·.onLine) ++ [s.newEntry .leave] :=
  wake_queue _

theorem queuedLeave_seq (s : State) : s.queuedLeave.bus.seq = s.bus.seq + 1 := by
  unfold State.queuedLeave
  dsimp only
  rw [wake_frame]
  rfl

theorem enterLeaving_queue (hsafe : TxSafe s) : (enterLeaving s).bus.queue.map (fun e => (e.notice, e.onLine)) =
    (s.bus.queue.filter (·.onLine)).map (fun e => (e.notice, true)) ++
      [({ sender := s.own, seq := s.bus.seq, body := .leave }, false)] := by
  have hqueue : (enterLeaving s).bus.queue = s.bus.queue.filter (·.onLine) ++ [s.newEntry .leave] := by
    rw [enterLeaving_eq hsafe]
    simp [queuedLeave_queue]
  rw [hqueue, List.map_append]
  congr 1
  refine List.map_congr_left fun e he => ?_
  rw [(List.mem_filter.mp he).2]

theorem enterLeaving_seq (hsafe : TxSafe s) : (enterLeaving s).bus.seq = s.bus.seq + 1 := by
  rw [enterLeaving_eq hsafe]
  simp [queuedLeave_seq]

theorem enterLeaving_load (hsafe : TxSafe s) : (enterLeaving s).load = { s.load with grant := 0, applied := 0 } := by
  rw [enterLeaving_eq hsafe]
  simp only [emptyRelay_load, withdrawPages_load, emptyRoute_load]
  rw [relink_load, stateGrant_setLink_leaving, Nat.min_zero]
  rfl

theorem enterLeaving_zone (hsafe : TxSafe s) (z : ZoneNo) :
    (enterLeaving s).heat.zones[z].on = false ∧ s.heat.zones[z].Alike (enterLeaving s).heat.zones[z] := by
  have hheat : (enterLeaving s).heat = (relink .leaving s.queuedLeave).heat := by
    rw [enterLeaving_eq hsafe]
    simp
  rw [hheat]
  exact ⟨relink_off rfl _ z, (relink_stays .leaving s.queuedLeave z).alike⟩

theorem enterLeaving_route (hsafe : TxSafe s) : (enterLeaving s).route = { s.route with events := [], evaluation := none } := by
  rw [enterLeaving_eq hsafe]
  simp only [emptyRelay_route, withdrawPages_route]
  unfold emptyRoute
  rw [(relink_leaving_quiet s.queuedLeave).2.1]
  rfl

theorem enterLeaving_page (hsafe : TxSafe s) : (enterLeaving s).page = { s.page with pages := [] } := by
  rw [enterLeaving_eq hsafe]
  simp [State.queuedLeave]

theorem enterLeaving_mailbox (hsafe : TxSafe s) : (enterLeaving s).port.mailbox =
    s.page.pages.foldl (fun m p => m.put s.course.clock p.withdrawn) s.port.mailbox := by
  rw [enterLeaving_eq hsafe]
  simp only [emptyRelay_port]
  rw [withdrawPages_mailbox]
  have hport : (emptyRoute (relink .leaving s.queuedLeave)).port = s.port := (relink_leaving_quiet s.queuedLeave).1
  rw [hport]
  simp [State.queuedLeave]

theorem enterLeaving_counters (hsafe : TxSafe s) : (enterLeaving s).port.counters = s.port.counters := by
  rw [enterLeaving_eq hsafe]
  simp only [emptyRelay_port, withdrawPages_port_counters, emptyRoute_port]
  rw [(relink_leaving_quiet s.queuedLeave).1]
  rfl

theorem enterLeaving_prog (hsafe : TxSafe s) : (enterLeaving s).prog = s.prog := by
  rw [enterLeaving_eq hsafe]
  simp [State.queuedLeave]

theorem enterLeaving_course (hsafe : TxSafe s) : (enterLeaving s).course = s.course := by
  rw [enterLeaving_eq hsafe]
  simp [State.queuedLeave]

theorem enterLeaving_ware (hsafe : TxSafe s) : (enterLeaving s).ware =
    { s.ware with conveyor := (enterLeaving s).ware.conveyor, margin := (enterLeaving s).ware.margin } ∧
      (enterLeaving s).ware.conveyor ≠ .running := by
  obtain ⟨-, -, hware, hstop⟩ := relink_leaving_quiet s.queuedLeave
  rw [enterLeaving_eq hsafe]
  simp only [emptyRelay_ware, withdrawPages_ware, emptyRoute_ware]
  exact ⟨hware, hstop⟩

end Leaving

/-! ### What RESTART and entry to LEFT leave of the window (R18, R21) -/

section Cleared
variable {s : State}

theorem leaves_leaves (zn : Zone) (step : Nat) : (zn.leaves step).leaves step = zn.leaves step := by
  simp [Zone.leaves, List.filter_filter]

theorem toList_eq_zoneNos {α : Type} (v : Vector α 8) : v.toList = zoneNos.map fun z => v[z] := by
  refine List.ext_getElem (by simp [zoneNos]) fun i hi _ => ?_
  have hlt : i < 8 := by simpa using hi
  interval_cases i <;> simp [zoneNos]

/-- The runs cleared take zones out of the window at most, which they then leave in any case. -/
theorem clearRuns_leaves (s : State) (z : ZoneNo) :
    (clearRuns s).heat.zones[z].leaves s.heat.step = s.heat.zones[z].leaves s.heat.step := by
  have hset (u : State) (y : ZoneNo) :
      (setRun y Run.idle u).heat.zones[z].leaves (setRun y Run.idle u).heat.step = u.heat.zones[z].leaves u.heat.step := by
    rw [setRun_heat_step, setRun_zone]
    split
    · exact leaves_leaves _ _
    · rfl
  have hfold := foldl_keeps (fun u => u.heat.zones[z].leaves u.heat.step) (fun s z => setRun z Run.idle s) hset zoneNos s
  have hstep := clearRuns_heat_step s
  unfold clearRuns at hstep ⊢
  dsimp only at hfold hstep
  rw [hstep] at hfold
  exact hfold

theorem setRun_windowGrant (z : ZoneNo) (r : Run) (s : State) : (setRun z r s).heat.windowGrant = s.heat.windowGrant := by
  unfold setRun
  dsimp only
  split <;> rfl

theorem setRun_draw (z : ZoneNo) (r : Run) (s : State) : (setRun z r s).heat.draw = s.heat.draw := by
  unfold setRun
  dsimp only
  split <;> rfl

theorem clearRuns_windowGrant (s : State) : (clearRuns s).heat.windowGrant = s.heat.windowGrant := by
  unfold clearRuns
  exact foldl_keeps (fun s => s.heat.windowGrant) (fun s z => setRun z Run.idle s) (fun _ _ => setRun_windowGrant _ _ _) zoneNos s

theorem clearRuns_draw (s : State) : (clearRuns s).heat.draw = s.heat.draw := by
  unfold clearRuns
  exact foldl_keeps (fun s => s.heat.draw) (fun s z => setRun z Run.idle s) (fun _ _ => setRun_draw _ _ _) zoneNos s

theorem allotments_zero (s : State) : s.allotments 0 = zoneNos.map fun _ => 0 := by
  simp [State.allotments, allotments, Function.comp_def]

theorem getD_zeros (l : List ZoneNo) (i : Nat) : (l.map fun _ => 0).getD i 0 = 0 := by
  cases h : l[i]? <;> simp [List.getD, h]

/-- R18: a re-allotment under 0 leaves the plan steps begun. -/
theorem replan_zero (zn : Zone) (step : Nat) :
    zn.replan step 0 = { zn with allot := 0, plan := zn.plan.filter (· ≤ step) } := by
  have hsteps : zn.steps 0 = 0 := by simp [Zone.steps]
  simp [Zone.replan, hsteps]

theorem reallot_zero_zone (s : State) (z : ZoneNo) : (reallot 0 s).heat.zones[z] =
    { s.heat.zones[z] with allot := 0, plan := s.heat.zones[z].plan.filter (· ≤ s.heat.step) } := by
  rw [reallot_zone, allotments_zero, getD_zeros, replan_zero]

theorem reallot_draw (g : Nat) (s : State) : (reallot g s).heat.draw =
    (zoneNos.map fun z => (reallot g s).heat.zones[z].plan.length * (reallot g s).heat.zones[z].rating).sum / 20 := by
  show drawOf (reallot g s).heat.zones.toList = _
  rw [drawOf, toList_eq_zoneNos, List.map_map]
  rfl

/-- The state with every zone out of the window and the blocks cleared, before the grant of 0 is handed. -/
def State.unplanned (s : State) : State :=
  let s1 := mapZones (fun _ zn => zn.leaves s.heat.step) (clearRuns s)
  { s1 with load := s1.load.cleared, course := s1.course.cleared, ware := s1.ware.cleared }

theorem clearBlocks_eq (s : State) : clearBlocks s = applyGrant 0 s.unplanned := rfl

theorem unplanned_zone (s : State) (z : ZoneNo) : s.unplanned.heat.zones[z] = s.heat.zones[z].leaves s.heat.step := by
  unfold State.unplanned
  dsimp only
  rw [mapZones_zone, clearRuns_leaves]

theorem unplanned_step (s : State) : s.unplanned.heat.step = s.heat.step := by
  simp [State.unplanned]
theorem unplanned_windowGrant (s : State) : s.unplanned.heat.windowGrant = s.heat.windowGrant := by
  simp [State.unplanned, mapZones, clearRuns_windowGrant]
theorem unplanned_draw (s : State) : s.unplanned.heat.draw = s.heat.draw := by
  simp [State.unplanned, mapZones, clearRuns_draw]

theorem clearBlocks_zone (s : State) (z : ZoneNo) : (clearBlocks s).heat.zones[z] =
    { s.heat.zones[z].leaves s.heat.step with
      allot := if s.heat.windowGrant = 0 then s.heat.zones[z].allot else 0 } := by
  rw [clearBlocks_eq]
  rcases applyGrant_cases 0 s.unplanned with ⟨hle, heq⟩ | ⟨hlt, heq⟩ <;> rw [unplanned_windowGrant] at * <;> rw [heq]
  · rw [if_pos (Nat.le_zero.mp hle)]
    exact unplanned_zone s z
  · rw [if_neg hlt.ne', reallot_zero_zone]
    show { s.unplanned.heat.zones[z] with
      allot := 0, plan := s.unplanned.heat.zones[z].plan.filter (· ≤ s.unplanned.heat.step) } = _
    rw [unplanned_zone, unplanned_step]
    have hplan := congrArg Zone.plan (leaves_leaves s.heat.zones[z] s.heat.step)
    have hfilter : (s.heat.zones[z].leaves s.heat.step).plan.filter (· ≤ s.heat.step) = (s.heat.zones[z].leaves s.heat.step).plan :=
      hplan
    rw [hfilter]

theorem clearBlocks_windowGrant (s : State) : (clearBlocks s).heat.windowGrant = 0 := by
  rw [clearBlocks_eq]
  rcases applyGrant_cases 0 s.unplanned with ⟨hle, heq⟩ | ⟨-, heq⟩ <;> rw [heq]
  · exact Nat.le_zero.mp hle
  · rfl

theorem clearBlocks_draw (s : State) : (clearBlocks s).heat.draw = if s.heat.windowGrant = 0 then s.heat.draw
    else (zoneNos.map fun z => (clearBlocks s).heat.zones[z].plan.length * s.heat.zones[z].rating).sum / 20 := by
  have hrating (z : ZoneNo) : (clearBlocks s).heat.zones[z].rating = s.heat.zones[z].rating := by
    rw [clearBlocks_zone]
    rfl
  simp only [← hrating]
  rw [clearBlocks_eq]
  rcases applyGrant_cases 0 s.unplanned with ⟨hle, heq⟩ | ⟨hlt, heq⟩ <;> rw [unplanned_windowGrant] at * <;> rw [heq]
  · rw [if_pos (Nat.le_zero.mp hle)]
    exact unplanned_draw s
  · rw [if_neg hlt.ne']
    exact reallot_draw 0 _

/-! ### RESTART, field by field -/

theorem restartBlocks_cleared_zone (s : State) (z : ZoneNo) : (restartBlocks s).heat.zones[z] =
    { s.heat.zones[z].leaves s.heat.step with
      age := 6, isOver := s.heat.zones[z].overTest, allot := if s.heat.windowGrant = 0 then s.heat.zones[z].allot else 0 } := by
  rw [restartBlocks_zone, clearBlocks_zone]
  rfl

theorem restartBlocks_windowGrant (s : State) : (restartBlocks s).heat.windowGrant = 0 := by
  simp [restartBlocks, restartZones, mapZones, clearBlocks_windowGrant]

theorem restartBlocks_draw (s : State) : (restartBlocks s).heat.draw = if s.heat.windowGrant = 0 then s.heat.draw
    else (zoneNos.map fun z => (restartBlocks s).heat.zones[z].plan.length * s.heat.zones[z].rating).sum / 20 := by
  have hplan (z : ZoneNo) : (restartBlocks s).heat.zones[z].plan =
      (clearBlocks { s with bus := s.bus.restarted }).heat.zones[z].plan := by rw [restartBlocks_zone]
  have hdraw : (restartBlocks s).heat.draw = (clearBlocks { s with bus := s.bus.restarted }).heat.draw := by
    simp [restartBlocks, restartZones, mapZones]
  simp only [hplan]
  rw [hdraw, clearBlocks_draw]

theorem restarted_bus (b : Bus) : b.restarted = { b with
    link := .listen, lineBusy := b.lineBusy || decide (b.link = .left),
    access := if b.access = .sending then .sending else .empty,
    queue := (b.queue.filter (·.onLine)).map fun e => { e with orphan := true }, repeats := b.restarted.repeats } := by
  cases hl : b.link <;> simp [Bus.restarted, Bus.clearWaiting, hl]

end Cleared

end Sys2Proof.Machine

namespace Sys2Proof.Proofs

open Sys2Proof.Machine

/-- Settles O25. -/
theorem withdraw : Obligations.Withdraw := by
  intro s hup
  refine ⟨fun hlink => exec_refused hup.1 rfl (.inr hup.2) (if_neg (by simp [hlink])), fun hlink hsafe => ?_⟩
  obtain ⟨hware, hstop⟩ := enterLeaving_ware hsafe
  have hzone := enterLeaving_zone hsafe
  have hroute := enterLeaving_route hsafe
  exact ⟨_, exec_taken hup.1 rfl (.inr hup.2) (if_pos hlink), rfl, rfl, enterLeaving_link s, enterLeaving_seq hsafe,
    enterLeaving_queue hsafe, enterLeaving_load hsafe,
    fun z => ⟨(hzone z).1, (hzone z).2.temp, (hzone z).2.age⟩,
    congrArg Route.events hroute, congrArg Route.evaluation hroute, enterLeaving_page hsafe, rfl, rfl,
    enterLeaving_mailbox hsafe, enterLeaving_counters hsafe, enterLeaving_prog hsafe, enterLeaving_course hsafe,
    settings_of_kept (t := enterLeaving s) (enterLeaving_kept s), hware, hstop⟩

/-- Settles O26. -/
theorem restart : Obligations.Restart := by
  intro s hup taken
  have hrestarts : s.bus.link.restarts = true ↔ taken := by
    show _ ↔ s.bus.link = .listen ∨ s.bus.link = .joined ∨ s.bus.link = .alone ∨ s.bus.link = .left
    cases s.bus.link <;> simp [LinkState.restarts]
  refine ⟨fun hnot => exec_refused hup.1 rfl (.inr hup.2) (if_neg (mt hrestarts.mp hnot)), fun htaken => ?_⟩
  have hexec := exec_taken hup.1 (ok := ([] : List Byte).length == 0) (before := false) rfl (.inr hup.2)
    (act := fun s => if s.bus.link.restarts then (restartBlocks s, .ok) else (s, .refusedState)) (if_pos (hrestarts.mpr htaken))
  have hsettings := settings_of_kept (restartBlocks_kept s)
  have hoe := restartBlocks_oe s
  have hport := restartBlocks_port s
  have hbus := (restartBlocks_bus s).trans (restarted_bus s.bus)
  have hrepeats (st : Station) : (restartBlocks s).bus.repeats[st] = none := by
    rw [restartBlocks_bus]
    simp [Bus.restarted]
  have hrepeats' : (restartBlocks s).bus.repeats = s.bus.restarted.repeats := by rw [restartBlocks_bus]
  have hruns := restartBlocks_prog_runs s
  have hplates (c : CourseNo) : (restartBlocks s).prog.plates[c] = 0 := by
    rw [restartBlocks_prog_plates]
    simp
  have hstep := restartBlocks_heat_step s
  have hwindow := restartBlocks_windowGrant s
  have hdraw := restartBlocks_draw s
  have hzone := restartBlocks_cleared_zone s
  have hload := restartBlocks_load s
  have hcourse := restartBlocks_course s
  have hware := restartBlocks_ware s
  have hroute := restartBlocks_route s
  have hpage := restartBlocks_page s
  have hrelay := restartBlocks_relay s
  generalize restartBlocks s = t at *
  refine ⟨_, hexec, hsettings, hoe, ?_, ?_, hrepeats, hruns, hplates, hstep, hwindow, hdraw, fun z => ?_, ?_, hcourse, hware,
    hroute, hpage, congrArg Relay.list hrelay, congrArg Relay.exchange hrelay, congrArg Relay.key hrelay,
    congrArg Relay.timerOn hrelay⟩
  · simp only [answerFrame]
    rw [hport]
    rfl
  · simp only [answerFrame]
    rw [hrepeats', hbus]
  · simp only [answerFrame]
    rw [hzone z]
    exact ⟨rfl, rfl, rfl, rfl, rfl, rfl, rfl⟩
  · simp only [answerFrame]
    rw [hload]
    rfl

end Sys2Proof.Proofs

/-! The read commands (R166–R168, R186): O27. -/

namespace Sys2Proof.Machine

section Reads
variable {s : State}

/-- R166: a read frame without parameters. -/
theorem exec_read (hreset : s.inReset = false) (code : Byte) (p data : List Byte) :
    unlessReset s (readFrame code 0 p .ok data id) = .next (answerFrame s.statusByte (data.take p.length) .ok s) := by
  rw [unlessReset_of_not_inReset hreset, readFrame, if_pos (Nat.zero_le _)]
  rfl

/-- R166: a read frame of one parameter, whose data begin with the byte after it. -/
theorem exec_readOne (hreset : s.inReset = false) (code : Byte) {p : List Byte} (hp : p ≠ []) (r : Result) (data : List Byte)
    (side : State → State) : unlessReset s (readFrame code 1 p r data side) =
      .next (answerFrame s.statusByte ((Config.openOut code p 0 :: data).take p.length) r (side s)) := by
  rw [unlessReset_of_not_inReset hreset, readFrame, if_pos (Nat.succ_le_of_lt (List.length_pos_iff.mpr hp))]
  rfl

/-- R167: a read refused gives no data past its parameter. -/
theorem exec_readOne_refused (hreset : s.inReset = false) (code : Byte) {p : List Byte} (hp : p ≠ []) (r : Result) :
    unlessReset s (readFrame code 1 p r [] id) = .next (answerFrame s.statusByte [Config.openOut code p 0] r s) := by
  rw [exec_readOne hreset code hp]
  cases p with
  | nil => exact absurd rfl hp
  | cons b p => simp

theorem entryAt_of_eq {p : List Byte} {i : Nat} {n : Fin 16} (h : byteAt p i = n.val) : entryAt p i = some n := by
  have hle : byteAt p i ≤ 15 := by omega
  rw [entryAt, if_pos hle, h]
  simp

theorem entryAt_eq_none {p : List Byte} {i : Nat} (h : 15 < byteAt p i) : entryAt p i = none := if_neg (by omega)

theorem indexAt_of_eq {p : List Byte} {i : Nat} {n : Fin 32} (h : byteAt p i = n.val) : indexAt p i = some n := by
  have hle : byteAt p i ≤ 31 := by omega
  rw [indexAt, if_pos hle, h]
  simp

theorem indexAt_eq_none {p : List Byte} {i : Nat} (h : 31 < byteAt p i) : indexAt p i = none := if_neg (by omega)

theorem exec_programRead (hreset : s.inReset = false) {p : List Byte} (hp : p ≠ []) {n : Fin 16} (hn : byteAt p 0 = n.val) :
    exec (.programRead p) s = .next (answerFrame s.statusByte
      ((Config.openOut 8 p 0 :: programData s.prog.table[n]).take p.length) .ok s) := by
  simp only [exec, execProgramRead]
  rw [entryAt_of_eq hn]
  exact exec_readOne hreset 8 hp _ _ id

theorem exec_programRead_refused (hreset : s.inReset = false) {p : List Byte} (hp : p ≠ []) (hn : 15 < byteAt p 0) :
    exec (.programRead p) s = .next (answerFrame s.statusByte [Config.openOut 8 p 0] .invalid s) := by
  simp only [exec, execProgramRead]
  rw [entryAt_eq_none hn]
  exact exec_readOne_refused hreset 8 hp _

theorem exec_ruleRead (hreset : s.inReset = false) {p : List Byte} (hp : p ≠ []) {i : Fin 32} (hi : byteAt p 0 = i.val) :
    exec (.ruleRead p) s = .next (answerFrame s.statusByte
      ((Config.openOut 23 p 0 :: ruleData s.route.rules[i]).take p.length) .ok s) := by
  simp only [exec, execRuleRead]
  rw [indexAt_of_eq hi]
  exact exec_readOne hreset 23 hp _ _ id

theorem exec_ruleRead_refused (hreset : s.inReset = false) {p : List Byte} (hp : p ≠ []) (hi : 31 < byteAt p 0) :
    exec (.ruleRead p) s = .next (answerFrame s.statusByte [Config.openOut 23 p 0] .invalid s) := by
  simp only [exec, execRuleRead]
  rw [indexAt_eq_none hi]
  exact exec_readOne_refused hreset 23 hp _

/-- R186: the counters after READ COUNTERS. -/
def State.countersRead (s : State) (p : List Byte) : Vector Counter 14 :=
  if flagAt p 0 then Vector.replicate 14 { value := 0, carry := false } else s.port.counters

theorem countersRead_get (p : List Byte) (s : State) (i : Fin 14) :
    (s.countersRead p)[i] = if byteAt p 0 = 0 then s.port.counters[i] else { value := 0, carry := false } := by
  unfold State.countersRead flagAt
  by_cases h : byteAt p 0 = 0 <;> simp [h]

theorem exec_readCounters (hreset : s.inReset = false) {p : List Byte} (hp : p ≠ []) :
    exec (.readCounters p) s = .next (answerFrame s.statusByte
      ((Config.openOut 34 p 0 :: countersData s.port.counters).take p.length) .ok
      { s with port := { s.port with counters := s.countersRead p } }) := by
  have hside : (if flagAt p 0 then zeroCounters s else s) = { s with port := { s.port with counters := s.countersRead p } } := by
    unfold State.countersRead
    split <;> rfl
  rw [← hside]
  exact exec_readOne hreset 34 hp _ _ fun s => if flagAt p 0 then zeroCounters s else s

theorem exec_unknown (hreset : s.inReset = false) {code : Byte} {p : List Byte}
    (hcode : (Instr.unknown code p).wellFormed = true) :
    exec (.unknown code p) s = .next (answerFrame s.statusByte ((List.range p.length).map (Config.openOut code p)) .unknown s) := by
  refine (unlessReset_of_not_inReset hreset _).trans ?_
  rw [if_pos (show (code.toNat == 0 || 36 < code.toNat) = true from hcode)]
  rfl

end Reads

end Sys2Proof.Machine

namespace Sys2Proof.Proofs

open Sys2Proof.Machine

/-- Settles O27. -/
theorem reads : Obligations.Reads := by
  intro p s hreset
  refine ⟨exec_read hreset 2 p s.statusData, exec_read hreset 17 p s.boardData, exec_read hreset 28 p s.peerData, fun hp => ?_,
    fun code hcode => exec_unknown hreset hcode⟩
  exact ⟨exec_readOne hreset 5 hp _ _ id, fun n hn => exec_programRead hreset hp hn, exec_programRead_refused hreset hp,
    fun i hi => exec_ruleRead hreset hp hi, exec_ruleRead_refused hreset hp,
    _, exec_readCounters hreset hp, rfl, countersRead_get p s⟩

end Sys2Proof.Proofs

/-! PROGRAM WRITE (R22, R23): O34. -/

namespace Sys2Proof.Machine

section Stages

/-- The kind, setpoint and parameter at the head of a list of stage bytes (R190). -/
def rawStage (l : List Byte) : Byte × Half × Half :=
  (l.getD 0 0, join16 (l.getD 1 0) (l.getD 2 0), join16 (l.getD 3 0) (l.getD 4 0))

/-- Five bytes a stage. -/
theorem stagesFrom_eq (m : Nat) : ∀ l : List Byte, l.length = 5 * m →
    stagesFrom l = (List.range m).map fun k => rawStage (l.drop (5 * k)) := by
  induction m with
  | zero =>
    intro l hl
    rw [List.eq_nil_of_length_eq_zero hl]
    rfl
  | succ m ih =>
    intro l hl
    match l, hl with
    | k :: s1 :: s0 :: p1 :: p0 :: rest, hl =>
      have hrest : rest.length = 5 * m := by
        simp only [List.length_cons] at hl
        omega
      rw [stagesFrom, ih rest hrest, List.range_succ_eq_map, List.map_cons, List.map_map]
      refine congrArg₂ List.cons rfl (List.map_congr_left fun i _ => ?_)
      have hdrop : 5 * (i + 1) = 5 * i + 5 := by omega
      simp [hdrop]

/-- A stage of one of the four kinds, clamped (R23). -/
def stageMade (kind : StageKind) (x : Byte × Half × Half) : Stage :=
  { kind := kind
    setpoint := clampTemp x.2.1.toInt
    param :=
      match kind with
      | .timed => clamp 1 7200 x.2.2.toNat
      | .probe => clampTemp x.2.2.toInt
      | .heat | .hold => 0 }

/-- The kind of a code, one of 0 to 3. -/
def kindOf (n : Nat) : StageKind := (StageKind.ofCode n).getD .hold

theorem ofCode_of_le {n : Nat} (h : n ≤ 3) : StageKind.ofCode n = some (kindOf n) := by
  interval_cases n <;> rfl

theorem ofCode_of_gt {n : Nat} (h : ¬n ≤ 3) : StageKind.ofCode n = none := by
  match n, h with
  | n + 4, _ => rfl

theorem kindOf_code {n : Nat} (h : n ≤ 3) : (kindOf n).code = n := by
  interval_cases n <;> rfl

theorem kindOf_eq_hold {n : Nat} (h : n ≤ 3) : kindOf n = .hold ↔ n = 3 := by
  interval_cases n <;> simp [kindOf, StageKind.ofCode]

/-- A stage as it is written, of a kind code 0 to 3. -/
def writtenStage (x : Byte × Half × Half) : Stage := stageMade (kindOf x.1.toNat) x

theorem stageOf_eq (x : Byte × Half × Half) : stageOf x = if x.1.toNat ≤ 3 then some (writtenStage x) else none := by
  unfold stageOf
  split
  next h =>
    rw [ofCode_of_le h]
    rfl
  next h =>
    rw [ofCode_of_gt h]
    rfl

theorem mapM_stageOf_of_le {l : List (Byte × Half × Half)} (h : ∀ x ∈ l, x.1.toNat ≤ 3) :
    l.mapM stageOf = some (l.map writtenStage) := by
  induction l with
  | nil => rfl
  | cons x l ih =>
    obtain ⟨hx, hl⟩ := List.forall_mem_cons.mp h
    simp [List.mapM_cons, stageOf_eq, hx, ih hl]

theorem mapM_stageOf_of_gt {l : List (Byte × Half × Half)} {x : Byte × Half × Half} (hx : x ∈ l) (h : ¬x.1.toNat ≤ 3) :
    l.mapM stageOf = none := by
  induction l with
  | nil => cases hx
  | cons y l ih =>
    rcases List.mem_cons.mp hx with rfl | hx
    · simp [List.mapM_cons, stageOf_eq, h]
    · simp [List.mapM_cons, ih hx]

/-- R22: the last stage is HOLD and no other is. -/
theorem validStages_iff (l : List Stage) :
    validStages l = true ↔ l ≠ [] ∧ ∀ k (h : k < l.length), (l[k].kind = .hold ↔ k + 1 = l.length) := by
  induction l with
  | nil => simp [validStages]
  | cons st rest ih =>
    cases rest with
    | nil => simp [validStages]
    | cons st' rest =>
      rw [validStages, Bool.and_eq_true, ih, bne_iff_ne]
      · constructor
        · rintro ⟨hne, -, hrest⟩
          refine ⟨by simp, fun k hk => ?_⟩
          cases k with
          | zero => simpa using hne
          | succ k => simpa using hrest k (by simpa using hk)
        · rintro ⟨-, hall⟩
          have hfirst : st.kind = .hold ↔ 0 + 1 = (st :: st' :: rest).length := hall 0 (by simp)
          refine ⟨fun hhold => by simpa using hfirst.mp hhold, by simp, fun k hk => ?_⟩
          have hnext : (st' :: rest)[k].kind = .hold ↔ k + 1 + 1 = (st :: st' :: rest).length := hall (k + 1) (by simpa using hk)
          simpa using hnext
      · simp

end Stages

section Writing
variable {p : List Byte} {s : State}

/-- The bytes of a PROGRAM WRITE from a stage on. -/
def stageBytes (p : List Byte) (k : Nat) : List Byte := p.drop (7 + 5 * k)

/-- R23: the stages that a PROGRAM WRITE carries are good. -/
def GoodStages (p : List Byte) : Prop :=
  byteAt p 1 ≤ 8 ∧ (∀ k < byteAt p 1, byteAt (stageBytes p k) 0 ≤ 3) ∧
    ∀ k < byteAt p 1, (byteAt (stageBytes p k) 0 = 3 ↔ k + 1 = byteAt p 1)

/-- The stages as they are written. -/
def writtenStages (p : List Byte) : List Stage :=
  (List.range (byteAt p 1)).map fun k => writtenStage (rawStage (stageBytes p k))

theorem length_writtenStages (p : List Byte) : (writtenStages p).length = byteAt p 1 := by simp [writtenStages]

theorem stagesFrom_written (hlen : p.length = 7 + 5 * byteAt p 1) :
    stagesFrom (p.drop 7) = (List.range (byteAt p 1)).map fun k => rawStage (stageBytes p k) := by
  rw [stagesFrom_eq (byteAt p 1) (p.drop 7) (by simp [hlen])]
  simp [stageBytes, Nat.add_comm]

theorem rawStage_kind (l : List Byte) : (rawStage l).1.toNat = byteAt l 0 := rfl

theorem validStages_written (hkinds : ∀ k < byteAt p 1, byteAt (stageBytes p k) 0 ≤ 3) (hpos : byteAt p 1 ≠ 0) :
    validStages (writtenStages p) = true ↔ ∀ k < byteAt p 1, (byteAt (stageBytes p k) 0 = 3 ↔ k + 1 = byteAt p 1) := by
  have hne : writtenStages p ≠ [] := fun h => hpos (by rw [← length_writtenStages, h]; rfl)
  have hkind (k : Nat) (hk : k < byteAt p 1) (hk' : k < (writtenStages p).length) :
      (writtenStages p)[k].kind = .hold ↔ byteAt (stageBytes p k) 0 = 3 := by
    have hget : (writtenStages p)[k].kind = kindOf (byteAt (stageBytes p k) 0) := by
      simp [writtenStages, writtenStage, stageMade, rawStage_kind]
    rw [hget, kindOf_eq_hold (hkinds k hk)]
  have hlast (k : Nat) : k + 1 = (writtenStages p).length ↔ k + 1 = byteAt p 1 := by rw [length_writtenStages]
  rw [validStages_iff]
  constructor
  · intro h k hk
    have hk' := (length_writtenStages p).symm ▸ hk
    exact (hkind k hk hk').symm.trans ((h.2 k hk').trans (hlast k))
  · refine fun h => ⟨hne, fun k hk' => ?_⟩
    have hk := length_writtenStages p ▸ hk'
    exact (hkind k hk hk').trans ((h k hk).trans (hlast k).symm)

/-- The program as it is written, clamped. -/
def writtenProgram (p : List Byte) : Program :=
  { stages := writtenStages p, heatLimit := clamp 30 3600 (wordAt p 2), holdLimit := clamp 60 3600 (wordAt p 4),
    plate := flagAt p 6 }

/-- R23: the program that a good PROGRAM WRITE carries. -/
theorem programOf_of_good (hlen : p.length = 7 + 5 * byteAt p 1) (hpos : byteAt p 1 ≠ 0) (hgood : GoodStages p) :
    programOf p = some (writtenProgram p) := by
  obtain ⟨hmost, hkinds, hhold⟩ := hgood
  have hmap : (stagesFrom (p.drop 7)).mapM stageOf = some (writtenStages p) := by
    rw [stagesFrom_written hlen, mapM_stageOf_of_le, List.map_map]
    · rfl
    · intro x hx
      obtain ⟨k, hk, rfl⟩ := List.mem_map.mp hx
      exact hkinds k (List.mem_range.mp hk)
  unfold programOf
  rw [hmap]
  refine if_pos ?_
  rw [Bool.and_eq_true, decide_eq_true_eq, length_writtenStages]
  exact ⟨hmost, (validStages_written hkinds hpos).mpr hhold⟩

theorem programOf_of_bad (hlen : p.length = 7 + 5 * byteAt p 1) (hpos : byteAt p 1 ≠ 0) (hbad : ¬GoodStages p) :
    programOf p = none := by
  unfold programOf
  rw [stagesFrom_written hlen]
  by_cases hkinds : ∀ k < byteAt p 1, byteAt (stageBytes p k) 0 ≤ 3
  · rw [mapM_stageOf_of_le, List.map_map]
    · refine if_neg fun hall => ?_
      rw [Bool.and_eq_true, decide_eq_true_eq] at hall
      have hall : (writtenStages p).length ≤ 8 ∧ validStages (writtenStages p) = true := hall
      rw [length_writtenStages] at hall
      exact hbad ⟨hall.1, hkinds, (validStages_written hkinds hpos).mp hall.2⟩
    · intro x hx
      obtain ⟨k, hk, rfl⟩ := List.mem_map.mp hx
      exact hkinds k (List.mem_range.mp hk)
  · push Not at hkinds
    obtain ⟨k, hk, hgt⟩ := hkinds
    rw [mapM_stageOf_of_gt (List.mem_map_of_mem (List.mem_range.mpr hk)) (by rw [rawStage_kind]; omega)]

theorem entryInUse_iff (n : Fin 16) (s : State) :
    s.entryInUse n = true ↔ ∃ z : ZoneNo, s.prog.runs[z].state.live = true ∧ s.prog.runs[z].program = some n := by
  unfold State.entryInUse
  rw [toList_eq_zoneNos, List.any_map, List.any_eq_true]
  constructor
  · rintro ⟨z, -, hz⟩
    simp only [Function.comp_apply, Bool.and_eq_true, beq_iff_eq] at hz
    exact ⟨z, hz⟩
  · rintro ⟨z, hlive, hprogram⟩
    refine ⟨z, mem_zoneNos z, ?_⟩
    simp only [Function.comp_apply, Bool.and_eq_true, beq_iff_eq]
    exact ⟨hlive, hprogram⟩

/-- R23: the stage written in a place. -/
theorem writtenStages_get {k : Nat} (hk : k < byteAt p 1) (hkind : byteAt (stageBytes p k) 0 ≤ 3) :
    ((writtenStages p)[k]?.map fun st => (st.kind.code, st.setpoint, st.param)) =
      some (byteAt (stageBytes p k) 0, max (-40) (min 400 (signedAt (stageBytes p k) 1)),
        if byteAt (stageBytes p k) 0 = 1 then ((max 1 (min 7200 (wordAt (stageBytes p k) 3)) : Nat) : Int)
        else if byteAt (stageBytes p k) 0 = 2 then max (-40) (min 400 (signedAt (stageBytes p k) 3)) else 0) := by
  have hget : (writtenStages p)[k]? = some (writtenStage (rawStage (stageBytes p k))) := by
    simp [writtenStages, hk]
  rw [hget]
  have hcode := kindOf_code hkind
  have hraw : (rawStage (stageBytes p k)).1.toNat = byteAt (stageBytes p k) 0 := rfl
  simp only [Option.map_some, writtenStage, hraw, stageMade, hcode]
  refine congrArg some (Prod.ext rfl (Prod.ext rfl ?_))
  generalize byteAt (stageBytes p k) 0 = n at *
  interval_cases n <;> rfl

end Writing

end Sys2Proof.Machine

namespace Sys2Proof.Proofs

open Sys2Proof.Machine

/-- Settles O34. -/
theorem programWrite : Obligations.ProgramWrite := by
  intro p s hreset hlen stage kind good inUse
  have hok : programLengthOk p = true := by simp [programLengthOk, hlen]
  refine ⟨fun hn => exec_refused hreset hok (.inl rfl) ?_, fun n hn => ?_⟩
  · unfold writeProgram
    rw [entryAt_eq_none hn]
  have hentry := entryAt_of_eq hn
  have huse := entryInUse_iff n s
  refine ⟨fun hpos hbad => exec_refused hreset hok (.inl rfl) ?_, fun hgood hin => exec_refused hreset hok (.inl rfl) ?_,
    fun hzero hin => exec_taken hreset hok (.inl rfl) (t := setEntry n none s) ?_, fun hpos hgood hin => ?_⟩
  · unfold writeProgram
    rw [hentry, programOf_of_bad hlen hpos hbad, beq_false_of_ne hpos]
  · unfold writeProgram
    rw [hentry]
    by_cases hzero : byteAt p 1 = 0
    · rw [hzero]
      exact if_pos (huse.mpr hin)
    · rw [beq_false_of_ne hzero, programOf_of_good hlen hzero (hgood.resolve_left hzero)]
      exact if_pos (huse.mpr hin)
  · unfold writeProgram
    rw [hentry, hzero]
    exact if_neg (mt huse.mp hin)
  · have hact : writeProgram p s = (setEntry n (some (writtenProgram p)) s, .ok) := by
      unfold writeProgram
      rw [hentry, programOf_of_good hlen hpos hgood, beq_false_of_ne hpos]
      exact if_neg (mt huse.mp hin)
    refine ⟨_, exec_taken hreset hok (.inl rfl) hact, _, ?_, rfl, rfl, rfl, rfl, length_writtenStages p, fun k hk => ?_⟩
    · exact Vector.getElem_set_self n.isLt
    · exact writtenStages_get hk (hgood.2.1 k hk)

end Sys2Proof.Proofs

/-! SUPPORT. What a notice handed does to the pages (R69, R146): a page loses its current notice only to a displacement, and a PAGE
displaces class C alone. -/

namespace Sys2Proof.Machine

/-- R146: a page that awaited the notice given has no current notice. -/
def Page.unlinked (id : Nat) (p : Page) : Page := if p.current = some id then { p with current := none } else p

section Claims
variable {s t u : State} {b : Body} {ns ms : List Nat} {n : Nat}

theorem displacedBy_class {q : List TxEntry} {v : TxEntry} (hv : displacedBy b q = some v) :
    v ∈ q ∧ (v.body.txClass = .c ∨ (b.txClass = .a ∧ v.body.txClass = .b)) := by
  have hclass {cls : TxClass} (hl : (waitingOf cls q).getLast? = some v) : v.body.txClass = cls := by
    have hmem := (List.mem_filter.mp (List.mem_of_getLast? hl)).2
    simp only [Bool.and_eq_true, beq_iff_eq] at hmem
    exact hmem.2
  refine ⟨displacedBy_mem hv, ?_⟩
  unfold displacedBy at hv
  split at hv
  next ha =>
    rcases Option.or_eq_some_iff.mp hv with h | ⟨-, h⟩
    · exact .inl (hclass h)
    · exact .inr ⟨ha, hclass h⟩
  · exact .inl (hclass hv)
  · cases hv

/-- What a PAGE handed does to the pages and to the class C notices of the queue. -/
theorem hand_pages (hb : b.txClass = .b) (s : State) :
    ((hand b s).page.pages = s.page.pages ∨
      ∃ v ∈ s.bus.queue, v.body.txClass = .c ∧ (hand b s).page.pages = s.page.pages.map (·.unlinked v.id)) ∧
    ∀ e ∈ (hand b s).bus.queue, e.body.txClass = .c → e ∈ s.bus.queue := by
  have hnew {e : TxEntry} (he : e = s.newEntry b) (hc : e.body.txClass = .c) : False := by
    subst he
    cases hc.symm.trans hb
  rcases hand_cases b s with ⟨-, heq⟩ | ⟨-, ⟨old, -, heq⟩ | ⟨-, ⟨-, heq⟩ | ⟨-, ⟨v, hv, heq⟩ | ⟨-, heq⟩⟩⟩⟩ <;> rw [heq]
  · exact ⟨.inl rfl, fun e he _ => he⟩
  · refine ⟨.inl rfl, fun e he hc => ?_⟩
    obtain ⟨x, hx, rfl⟩ := List.mem_map.mp he
    split at hc
    · cases hc.symm.trans hb
    next hne =>
      rw [if_neg hne]
      exact hx
  · refine ⟨.inl rfl, fun e he hc => ?_⟩
    rw [wake_queue] at he
    rcases List.mem_append.mp he with he | he
    · exact he
    · exact (hnew (List.mem_singleton.mp he) hc).elim
  · obtain ⟨hmem, hclass⟩ := displacedBy_class hv
    have hc : v.body.txClass = .c := hclass.resolve_right fun h => TxClass.noConfusion (h.1.symm.trans hb)
    refine ⟨.inr ⟨v, hmem, hc, rfl⟩, fun e he hc => ?_⟩
    rcases List.mem_append.mp he with he | he
    · exact (withoutId_sublist _ _).subset he
    · exact (hnew (List.mem_singleton.mp he) hc).elim
  · exact ⟨.inl rfl, fun e he _ => he⟩

/-- Pages of the numbers given enter QUEUED, and any other loses at most a current notice of class C. -/
structure Requeued (ns : List Nat) (s t : State) : Prop where
  pages : ∃ f : Page → Page, t.page.pages = s.page.pages.map f ∧ ∀ p,
    (p.number ∈ ns → f p = { p with state := .queued, timer := 0, current := (f p).current }) ∧
    (p.number ∉ ns → f p = { p with current := (f p).current } ∧
      ((∀ e ∈ s.bus.queue, p.current = some e.id → e.body.txClass ≠ .c) → f p = p))
  queue : ∀ e ∈ t.bus.queue, e.body.txClass = .c → e ∈ s.bus.queue

theorem Requeued.refl (s : State) : Requeued [] s s :=
  ⟨⟨id, by simp, fun p => ⟨fun h => absurd h List.not_mem_nil, fun _ => ⟨rfl, fun _ => rfl⟩⟩⟩, fun _ he _ => he⟩

theorem Requeued.trans (h : Requeued ns s t) (h' : Requeued ms t u) : Requeued (ns ++ ms) s u := by
  obtain ⟨⟨f, hf, hfp⟩, hq⟩ := h
  obtain ⟨⟨g, hg, hgp⟩, hq'⟩ := h'
  refine ⟨⟨g ∘ f, by rw [hg, hf, List.map_map], fun p => ?_⟩, fun e he hc => hq e (hq' e he hc) hc⟩
  have hnumber : (f p).number = p.number := by
    by_cases hin : p.number ∈ ns
    · rw [(hfp p).1 hin]
    · rw [((hfp p).2 hin).1]
  simp only [Function.comp_apply, List.mem_append]
  constructor
  · intro hin
    by_cases hin' : p.number ∈ ms
    · have hgq := (hgp (f p)).1 (hnumber ▸ hin')
      by_cases hns : p.number ∈ ns
      · rw [hgq, (hfp p).1 hns]
      · rw [hgq, ((hfp p).2 hns).1]
    · have hgq := ((hgp (f p)).2 (hnumber ▸ hin')).1
      rw [hgq, (hfp p).1 (hin.resolve_right hin')]
  · intro hnot
    obtain ⟨hns, hms⟩ := not_or.mp hnot
    obtain ⟨hfq, hfsame⟩ := (hfp p).2 hns
    obtain ⟨hgq, hgsame⟩ := (hgp (f p)).2 (hnumber ▸ hms)
    constructor
    · rw [hgq, hfq]
    · intro hcur
      have hsame := hfsame hcur
      rw [hsame] at hgsame ⊢
      exact hgsame fun e he hid hc => hcur e (hq e he hc) hid hc

/-- What a page's offering does to the pages. -/
theorem offerPage_pages (n : Nat) (s : State) :
    (∃ c : Option Nat, ((offerPage n s).page.pages = s.page.pages.map fun p => if p.number = n then { p with current := c } else p) ∨
      ∃ v ∈ s.bus.queue, v.body.txClass = .c ∧ (offerPage n s).page.pages =
        s.page.pages.map fun p => if p.number = n then { p with current := c } else p.unlinked v.id) ∧
    ∀ e ∈ (offerPage n s).bus.queue, e.body.txClass = .c → e ∈ s.bus.queue := by
  have hunlinked (id : Nat) (p : Page) : (p.unlinked id).number = p.number := by
    unfold Page.unlinked
    split <;> rfl
  have hset (id : Nat) (c : Option Nat) (p : Page) : ({ p.unlinked id with current := c } : Page) = { p with current := c } := by
    unfold Page.unlinked
    split <;> rfl
  unfold offerPage
  split
  next hnone =>
    refine ⟨⟨none, .inl ?_⟩, fun _ he _ => he⟩
    have hno : ∀ p ∈ s.page.pages, ¬p.number = n := fun p hp heq => by
      simpa [heq] using List.find?_eq_none.mp hnone p hp
    exact ((List.map_congr_left fun p hp => if_neg (hno p hp)).trans (List.map_id' _)).symm
  next p hp =>
    obtain ⟨hpages, hqueue⟩ := hand_pages (b := p.notice) rfl s
    refine ⟨⟨if (hand p.notice s).bus.nextId = s.bus.nextId then none else some s.bus.nextId, ?_⟩, hqueue⟩
    rcases hpages with heq | ⟨v, hv, hc, heq⟩
    · left
      show List.map _ (hand p.notice s).page.pages = _
      rw [heq]
    · right
      refine ⟨v, hv, hc, ?_⟩
      show List.map _ (hand p.notice s).page.pages = _
      rw [heq, List.map_map]
      refine List.map_congr_left fun x _ => ?_
      simp only [Function.comp_apply, hunlinked]
      split
      · rw [← hset v.id]
        simp only [hunlinked]
      · rfl

theorem unlinked_eq (id : Nat) (p : Page) : p.unlinked id = { p with current := (p.unlinked id).current } := by
  unfold Page.unlinked
  split <;> rfl

/-- A page that enters QUEUED and is offered. -/
theorem requeued_queuePage (n : Nat) (s : State) : Requeued [n] s (queuePage n s) := by
  obtain ⟨⟨c, hpages⟩, hqueue⟩ := offerPage_pages n
    (mapPage n (fun p => { p with state := .queued, timer := 0, current := none }) s)
  refine ⟨?_, hqueue⟩
  unfold queuePage
  rcases hpages with heq | ⟨v, hv, hc, heq⟩ <;> rw [heq]
  · refine ⟨fun p => if p.number = n then { p with state := .queued, timer := 0, current := c } else p, ?_, fun p => ⟨fun hin => ?_, fun hin => ?_⟩⟩
    · show List.map _ (List.map _ s.page.pages) = _
      rw [List.map_map]
      refine List.map_congr_left fun x _ => ?_
      by_cases hx : x.number = n <;> simp [hx]
    · simp only [if_pos (List.mem_singleton.mp hin)]
    · simp only [if_neg fun h => hin (List.mem_singleton.mpr h)]
      exact ⟨trivial, fun _ => trivial⟩
  · refine ⟨fun p => if p.number = n then { p with state := .queued, timer := 0, current := c } else p.unlinked v.id, ?_, fun p => ⟨fun hin => ?_, fun hin => ?_⟩⟩
    · show List.map _ (List.map _ s.page.pages) = _
      rw [List.map_map]
      refine List.map_congr_left fun x _ => ?_
      by_cases hx : x.number = n <;> simp [hx]
    · simp only [if_pos (List.mem_singleton.mp hin)]
    · simp only [if_neg fun h => hin (List.mem_singleton.mpr h)]
      exact ⟨unlinked_eq _ _, fun hcur => if_neg fun hid => hcur v hv hid hc⟩

theorem requeued_foldl (ns : List Nat) (s : State) : Requeued ns s (ns.foldl (fun s n => queuePage n s) s) := by
  induction ns generalizing s with
  | nil => exact .refl s
  | cons n ns ih => exact (requeued_queuePage n s).trans (ih (queuePage n s))

/-- Numbers do not move. -/
theorem Requeued.numbers (h : Requeued ns s t) : t.page.pages.map (·.number) = s.page.pages.map (·.number) := by
  obtain ⟨⟨f, hf, hfp⟩, -⟩ := h
  rw [hf, List.map_map]
  refine List.map_congr_left fun p _ => ?_
  show (f p).number = p.number
  by_cases hin : p.number ∈ ns
  · rw [(hfp p).1 hin]
  · rw [((hfp p).2 hin).1]

end Claims

end Sys2Proof.Machine

/-! RULE WRITE, GROUP WRITE, DUTY and COVERAGE WRITE (R132, R140, R141, R157): O56. -/

namespace Sys2Proof.Machine

/-! ### The pages of a group follow its duty -/

section Duty
variable {s t : State} {g : GroupNo} {x : Group}

theorem groupOf_of_eq {n : Nat} (h : n = g.val) : groupOf n = some g := by
  have hle : n ≤ 31 := by omega
  rw [groupOf, if_pos hle, h]
  simp

theorem groupOf_eq_none {n : Nat} (h : 31 < n) : groupOf n = none := if_neg (by omega)

theorem mem_pagesWhere {f : Page → Bool} (hnumbers : (s.page.pages.map (·.number)).Nodup) {p : Page} (hp : p ∈ s.page.pages) :
    p.number ∈ s.pagesWhere f ↔ f p = true := by
  simp only [State.pagesWhere, List.mem_map, List.mem_filter]
  constructor
  · rintro ⟨q, ⟨hq, hf⟩, hnum⟩
    rwa [← List.inj_on_of_nodup_map hnumbers hq hp hnum]
  · exact fun hf => ⟨p, ⟨hp, hf⟩, rfl⟩

theorem moveForDuty_numbers (g : GroupNo) (s : State) :
    (moveForDuty g s).page.pages.map (·.number) = s.page.pages.map (·.number) := by
  unfold moveForDuty
  split
  · exact (requeued_foldl _ s).numbers
  · show (s.page.pages.map _).map _ = _
    rw [List.map_map]
    refine List.map_congr_left fun p _ => ?_
    simp only [Function.comp_apply]
    split <;> rfl

theorem moveForDuty_groups (g : GroupNo) (s : State) : (moveForDuty g s).page.groups = s.page.groups :=
  congrArg Settings.groups (settings_of_kept (moveForDuty_kept g s))

/-- R141: the pages of a group on duty. -/
theorem movedFor_of_onDuty (hnumbers : (s.page.pages.map (·.number)).Nodup) (hon : s.page.groups[g].onDuty = true) :
    List.Forall₂ (fun p q => p.movedFor q s g true) s.page.pages (moveForDuty g s).page.pages := by
  obtain ⟨⟨f, hf, hfp⟩, -⟩ := requeued_foldl (s.pagesWhere fun p => p.group == g && p.state == .waiting) s
  have hpages : (moveForDuty g s).page.pages = s.page.pages.map f := by
    unfold moveForDuty
    rw [if_pos hon, hf]
  rw [hpages, List.forall₂_map_right_iff, List.forall₂_same]
  intro p hp
  have hmem := mem_pagesWhere (f := fun p => p.group == g && p.state == .waiting) hnumbers hp
  unfold Page.movedFor
  split
  next hmoves => exact (hfp p).1 (hmem.mpr (by simp [hmoves.1, hmoves.2.2]))
  next hstays =>
    rw [if_neg (by simp)]
    have hnot : p.number ∉ s.pagesWhere fun p => p.group == g && p.state == .waiting := by
      rw [hmem]
      simpa using fun hgroup hstate => hstays ⟨hgroup, rfl, hstate⟩
    obtain ⟨hq, hsame⟩ := (hfp p).2 hnot
    refine ⟨hq, fun hcur => hsame fun e he hid hc => ?_⟩
    rw [hcur e he hid] at hc
    cases hc

/-- R141: the pages of a group off duty. -/
theorem movedFor_of_offDuty (hoff : s.page.groups[g].onDuty = false) :
    List.Forall₂ (fun p q => p.movedFor q s g false) s.page.pages (moveForDuty g s).page.pages := by
  unfold moveForDuty
  rw [if_neg (by rw [hoff]; exact Bool.false_ne_true)]
  rw [List.forall₂_map_right_iff, List.forall₂_same]
  intro p _
  unfold Page.movedFor
  rw [if_neg (by simp)]
  by_cases hmoves : p.group = g ∧ p.state = .queued ∧ p.priority < 7
  · rw [if_pos hmoves, if_pos ⟨hmoves.1, rfl, hmoves.2⟩]
  · rw [if_neg hmoves, if_neg fun h => hmoves ⟨h.1, h.2.2⟩]
    exact ⟨rfl, fun _ => rfl⟩

/-- R141: a group's entry replaced, its pages move as its duty flag has it. -/
theorem dutyFollowed_setGroup (hsafe : PagesSafe s) : (moveForDuty g (setGroup g x s)).dutyFollowed s g := by
  have hgroups := moveForDuty_groups g (setGroup g x s)
  unfold State.dutyFollowed
  rw [hgroups]
  cases hduty : (setGroup g x s).page.groups[g].onDuty with
  | true => exact movedFor_of_onDuty (s := setGroup g x s) hsafe.numbers hduty
  | false => exact movedFor_of_offDuty (s := setGroup g x s) hduty

/-- What moving the pages of a group after a write of its entry leaves of the settings. -/
theorem moveForDuty_settings (g : GroupNo) (x : Group) (s : State) :
    (moveForDuty g (setGroup g x s)).settings = { s.settings with groups := s.page.groups.set g x } :=
  settings_of_kept (moveForDuty_kept g (setGroup g x s))

end Duty

/-! ### The rules -/

section Rules
variable {p : List Byte}

/-- The type, property and comparison of a code in range. -/
def ruleTypeOf (n : Nat) : RuleType := (RuleType.ofCode n).getD .empty
def propertyOf (n : Nat) : Property := (Property.ofCode n).getD .kind
def compareOf (n : Nat) : Compare := (Compare.ofCode n).getD .eq

theorem ruleType_ofCode {n : Nat} (h : n ≤ 4) : RuleType.ofCode n = some (ruleTypeOf n) := by
  interval_cases n <;> rfl

theorem property_ofCode {n : Nat} (h : n ≤ 7) : Property.ofCode n = some (propertyOf n) := by
  interval_cases n <;> rfl

theorem compare_ofCode {n : Nat} (h : n ≤ 3) : Compare.ofCode n = some (compareOf n) := by
  interval_cases n <;> rfl

theorem ruleType_ofCode_eq_none {n : Nat} (h : 4 < n) : RuleType.ofCode n = none := by
  match n, h with
  | n + 5, _ => rfl

theorem property_ofCode_eq_none {n : Nat} (h : 7 < n) : Property.ofCode n = none := by
  match n, h with
  | n + 8, _ => rfl

theorem compare_ofCode_eq_none {n : Nat} (h : 3 < n) : Compare.ofCode n = none := by
  match n, h with
  | n + 4, _ => rfl

theorem ruleTypeOf_code {n : Nat} (h : n ≤ 4) : (ruleTypeOf n).code = n := by interval_cases n <;> rfl
theorem propertyOf_code {n : Nat} (h : n ≤ 7) : (propertyOf n).code = n := by interval_cases n <;> rfl
theorem compareOf_code {n : Nat} (h : n ≤ 3) : (compareOf n).code = n := by interval_cases n <;> rfl

theorem ruleTypeOf_eq_test {n : Nat} (h : n ≤ 4) : ruleTypeOf n = .test ↔ n = 1 := by
  interval_cases n <;> simp [ruleTypeOf, RuleType.ofCode]

/-- R132: the rule as a RULE WRITE spells it, before the fields its type does not use are cleared. -/
def spelledRule (p : List Byte) : Rule :=
  { type := ruleTypeOf (byteAt p 1), property := propertyOf (byteAt p 2), compare := compareOf (byteAt p 3),
    value := join16 (p.getD 4 0) (p.getD 5 0), andFlag := (p.getD 6 0).getLsbD 0, reject := byteAt p 7 == 1,
    group := Fin.ofNat 32 (byteAt p 8), priority := byteAt p 9, defer := (p.getD 6 0).getLsbD 1 }

/-- R132: what a RULE WRITE is refused for. -/
def BadRule (p : List Byte) : Prop :=
  4 < byteAt p 1 ∨ 7 < byteAt p 2 ∨ 3 < byteAt p 3 ∨ 1 < byteAt p 7 ∨ ((byteAt p 1 = 1 ∧ byteAt p 7 = 0) ∧ 31 < byteAt p 8)

theorem ruleFrom_of_bad (hbad : BadRule p) : ruleFrom p = none := by
  unfold ruleFrom
  by_cases htype : byteAt p 1 ≤ 4
  swap
  · rw [ruleType_ofCode_eq_none (by omega)]
  rw [ruleType_ofCode htype]
  by_cases hprop : byteAt p 2 ≤ 7
  swap
  · rw [property_ofCode_eq_none (by omega)]
  rw [property_ofCode hprop]
  by_cases hcmp : byteAt p 3 ≤ 3
  swap
  · rw [compare_ofCode_eq_none (by omega)]
  rw [compare_ofCode hcmp]
  dsimp only
  split
  · rfl
  next haction =>
    refine if_pos ?_
    rw [ruleTypeOf_eq_test htype]
    rcases hbad with h | h | h | h | h
    · omega
    · omega
    · omega
    · omega
    · exact ⟨h.1.1, h.1.2, h.2⟩

theorem ruleFrom_of_good (hgood : ¬BadRule p) : ruleFrom p = some (spelledRule p).normal := by
  simp only [BadRule, not_or, Nat.not_lt] at hgood
  obtain ⟨htype, hprop, hcmp, haction, hgroup⟩ := hgood
  unfold ruleFrom
  rw [ruleType_ofCode htype, property_ofCode hprop, compare_ofCode hcmp]
  dsimp only
  rw [if_neg (by omega), if_neg]
  · rfl
  · rw [ruleTypeOf_eq_test htype]
    exact fun h => hgroup ⟨⟨h.1, h.2.1⟩, h.2.2⟩

theorem normal_type (r : Rule) : r.normal.type = r.type := by
  unfold Rule.normal
  split
  next h => rfl
  next h => rfl
  next h => exact h.symm
  next h => exact h.symm
  next h => split <;> rfl

end Rules

end Sys2Proof.Machine

namespace Sys2Proof.Proofs
open Sys2Proof.Machine

section Claims
variable {p : List Byte} {s : State}

/-- The RULE WRITE clause of O56. -/
theorem ruleWrite_taken (hreset : s.inReset = false) (hlen : p.length = 10) (hgood : ¬BadRule p) {i : Fin 32}
    (hi : byteAt p 0 = i.val) :
    exec (.ruleWrite p) s = .next (answerFrame s.statusByte [] .ok (setRule i (spelledRule p).normal s)) := by
  refine exec_taken hreset (by simp [hlen]) (.inl rfl) ?_
  rw [indexAt_of_eq hi, ruleFrom_of_good hgood]

/-- What the types keep of the fields. -/
theorem spelled_normal_fields (hgood : ¬BadRule p) :
    let r := (spelledRule p).normal
    r.type.code = byteAt p 1 ∧
      (byteAt p 1 = 0 ∨ byteAt p 1 = 4 → r = { Rule.blank with type := r.type }) ∧
      (byteAt p 1 = 2 → r = { Rule.blank with type := .setMask, value := join16 (p.getD 4 0) (p.getD 5 0) }) ∧
      (byteAt p 1 = 1 ∨ byteAt p 1 = 3 →
        r.property.code = byteAt p 2 ∧ r.compare.code = byteAt p 3 ∧ r.value = join16 (p.getD 4 0) (p.getD 5 0)) ∧
      (byteAt p 1 = 3 → r.andFlag = false ∧ r.reject = false ∧ r.group = 0 ∧ r.priority = 0 ∧ r.defer = false) ∧
      (byteAt p 1 = 1 → r.andFlag = (p.getD 6 0).getLsbD 0 ∧ r.reject = (byteAt p 7 == 1) ∧
        (byteAt p 7 = 0 → r.group.val = byteAt p 8 ∧ r.priority = max 1 (min 7 (byteAt p 9)) ∧
          r.defer = (p.getD 6 0).getLsbD 1) ∧
        (byteAt p 7 = 1 → r.group = 0 ∧ r.priority = 0 ∧ r.defer = false)) := by
  intro r
  simp only [BadRule, not_or, Nat.not_lt] at hgood
  obtain ⟨htype, hprop, hcmp, haction, hgroup⟩ := hgood
  have hcode : r.type.code = byteAt p 1 := (congrArg RuleType.code (normal_type _)).trans (ruleTypeOf_code htype)
  have hproperty := propertyOf_code hprop
  have hcompare := compareOf_code hcmp
  have hr : r = (spelledRule p).normal := rfl
  clear_value r
  have hcases : byteAt p 1 = 0 ∨ byteAt p 1 = 1 ∨ byteAt p 1 = 2 ∨ byteAt p 1 = 3 ∨ byteAt p 1 = 4 := by omega
  rcases hcases with h | h | h | h | h <;>
    simp only [Rule.normal, spelledRule, h, ruleTypeOf, RuleType.ofCode, Option.getD_some] at hr <;>
    refine ⟨hcode, ?_⟩ <;> simp only [h] <;> subst hr
  · simp
  · by_cases hact : byteAt p 7 = 1
    · simp [hact, hproperty, hcompare]
    · have hzero : byteAt p 7 = 0 := by omega
      have hle : byteAt p 8 ≤ 31 := by
        by_contra hgt
        exact hgroup ⟨⟨h, hzero⟩, by omega⟩
      simp [hzero, hproperty, hcompare, clamp, Nat.mod_eq_of_lt (show byteAt p 8 < 32 by omega)]
  · simp
  · simp [hproperty, hcompare, Rule.blank]
  · simp

/-- Settles O56. -/
theorem tableWrites : Obligations.TableWrites := by
  intro p s hreset
  refine ⟨fun hlen => ?_, fun hlen => ?_, fun hconf hlen => ?_, fun hlen => ?_⟩
  · intro testing bad
    have hok : (p.length == 10) = true := by simp [hlen]
    refine ⟨fun hbad => exec_refused hreset hok (.inl rfl) ?_, fun hgood i hi => ?_⟩
    · rcases hbad with hi | hbad
      · rw [indexAt_eq_none hi]
      · rw [ruleFrom_of_bad hbad]
        cases indexAt p 0 <;> rfl
    · have hgood : ¬BadRule p := fun h => hgood (.inr h)
      have hset : (s.route.rules.set i (spelledRule p).normal)[i] = (spelledRule p).normal := Vector.getElem_set_self i.isLt
      refine ⟨_, ruleWrite_taken hreset hlen hgood hi, ?_, ?_⟩
      · show _ = answerFrame s.statusByte [] .ok { s with route := { s.route with
          rules := s.route.rules.set i (s.route.rules.set i (spelledRule p).normal)[i] } }
        rw [hset]
        rfl
      · exact hset.symm ▸ spelled_normal_fields hgood
  · have hok : (p.length == 3) = true := by simp [hlen]
    refine ⟨fun hbad => exec_refused hreset hok (.inl rfl) ?_, fun g e hg he => ?_⟩
    · rcases hbad with h | h
      · rw [groupOf_eq_none h]
      · rw [groupOf_eq_none h]
        cases groupOf (byteAt p 0) <;> rfl
    · have hact : (match groupOf (byteAt p 0), groupOf (byteAt p 1) with
          | some g, some e => (writeGroup g { escalation := e, onDuty := flagAt p 2 } s, Result.ok)
          | _, _ => (s, .invalid)) = (writeGroup g { escalation := e, onDuty := flagAt p 2 } s, .ok) := by
        rw [groupOf_of_eq hg, groupOf_of_eq he]
      refine ⟨_, exec_taken hreset hok (.inl rfl) hact, rfl, rfl, ?_⟩
      unfold writeGroup
      dsimp only
      by_cases hsame : flagAt p 2 = s.page.groups[g].onDuty
      · rw [if_pos hsame]
        exact ⟨rfl, rfl, rfl, fun _ => ⟨rfl, rfl⟩, fun hne => absurd hsame hne⟩
      · rw [if_neg hsame]
        have hgroups := moveForDuty_groups g (setGroup g { escalation := e, onDuty := flagAt p 2 } s)
        refine ⟨hgroups, ?_, moveForDuty_numbers _ _, fun heq => absurd heq hsame, fun _ hsafe => dutyFollowed_setGroup hsafe⟩
        exact (moveForDuty_settings _ _ _).trans (congrArg (fun gs => { s.settings with groups := gs }) hgroups.symm)
  · have hok : (p.length == 2) = true := by simp [hlen]
    refine ⟨fun hbad => exec_refused hreset hok (.inr hconf) ?_, fun g hg => ?_⟩
    · rw [groupOf_eq_none hbad]
    · have hact : (match groupOf (byteAt p 0) with
          | some g => (setDuty g (flagAt p 1) s, Result.ok)
          | none => (s, .invalid)) = (setDuty g (flagAt p 1) s, .ok) := by
        rw [groupOf_of_eq hg]
      refine ⟨_, exec_taken hreset hok (.inr hconf) hact, rfl, rfl, ?_⟩
      unfold setDuty
      have hgroups := moveForDuty_groups g (setGroup g { s.page.groups[g] with onDuty := flagAt p 1 } s)
      refine ⟨hgroups, ?_, moveForDuty_numbers _ _, fun hsafe => dutyFollowed_setGroup hsafe⟩
      exact (moveForDuty_settings _ _ _).trans (congrArg (fun gs => { s.settings with groups := gs }) hgroups.symm)
  · have hok : (p.length == 4) = true := by simp [hlen]
    refine ⟨fun hbad => exec_refused hreset hok (.inl rfl) ?_, fun i hi hbase hmask => ?_⟩
    · refine if_pos ?_
      simpa [or_assoc] using hbad
    · refine exec_taken hreset hok (.inl rfl) (t := setPair i _ s) ?_
      have hle : byteAt p 0 ≤ 3 := by omega
      rw [if_neg (by simp; omega), hi]
      simp [flagAt]

end Claims

end Sys2Proof.Proofs

/-! TAKE_EVENT, the reading of the rules and EVALUATION_END (R130, R133–R138): O57. -/

namespace Sys2Proof.Machine

section Reading
variable {e : Evaluation} {r last : Rule} {lead chain rest : List Rule} {st : Reading}

/-! ### What each rule does to the reading -/

theorem readRules_opens (h : r.type = .opens) : readRules e (r :: rest) st = readRules e rest (st.opened r e) := by
  rw [readRules]
  split <;> simp_all

theorem readRules_closes (h : r.type = .closes) : readRules e (r :: rest) st = readRules e rest st.ended := by
  rw [readRules]
  split <;> simp_all

theorem readRules_setMask (hst : st.mode = .reading) (h : r.type = .setMask) :
    readRules e (r :: rest) st = readRules e rest { st with mask := r.value } := by
  rw [readRules, hst, h]

theorem readRules_test_passes (hst : st.mode = .reading) (h : r.type = .test) (hpass : r.passes e st.mask = true) :
    readRules e (r :: rest) st = if r.chainsTo rest then readRules e rest st else some r := by
  rw [readRules, hst, h]
  exact if_pos hpass

theorem readRules_test_fails (hst : st.mode = .reading) (h : r.type = .test) (hfail : ¬r.passes e st.mask = true) :
    readRules e (r :: rest) st = readRules e rest (st.chainFailed (r.chainsTo rest)) := by
  rw [readRules, hst, h]
  exact if_neg hfail

theorem readRules_test_failed (hst : st.mode = .failed) (h : r.type = .test) :
    readRules e (r :: rest) st = readRules e rest (st.chainFailed (r.chainsTo rest)) := by
  rw [readRules, hst, h]

theorem readRules_skipped (hst : st.mode = .skipping) (hopens : r.type ≠ .opens) (hcloses : r.type ≠ .closes) :
    readRules e (r :: rest) st = readRules e rest st := by
  rw [readRules]
  split <;> simp_all

/-! ### Chains -/

/-- SETMASK rules in order leave the mask of the last one. -/
theorem readRules_lead (hst : st.mode = .reading) (hlead : ∀ r ∈ lead, r.type = .setMask) (rest : List Rule) :
    readRules e (lead ++ rest) st =
      readRules e rest { st with mask := ((lead.getLast?).map (·.value)).getD st.mask } := by
  induction lead generalizing st with
  | nil => rfl
  | cons r lead ih =>
    obtain ⟨hr, hlead⟩ := List.forall_mem_cons.mp hlead
    rw [List.cons_append, readRules_setMask hst hr, ih (st := { st with mask := r.value }) hst hlead,
      List.getLast?_cons]
    cases lead.getLast? <;> rfl

/-- A chain is a run of MATCH rules with the AND flag, and a MATCH rule that does not go on. -/
structure IsChain (chain : List Rule) (last : Rule) (rest : List Rule) : Prop where
  runs : ∀ r ∈ chain, r.type = .test ∧ r.andFlag = true
  ends : last.type = .test
  stops : last.chainsTo rest = false

theorem IsChain.chainsTo (h : IsChain (r :: chain) last rest) : r.chainsTo (chain ++ last :: rest) = true := by
  have hflag := (h.runs r (List.mem_cons_self ..)).2
  cases chain with
  | nil => simp [Rule.chainsTo, hflag, h.ends]
  | cons next chain => simp [Rule.chainsTo, hflag, (h.runs next (by simp)).1]

theorem IsChain.tail (h : IsChain (r :: chain) last rest) : IsChain chain last rest :=
  ⟨fun x hx => h.runs x (List.mem_cons_of_mem _ hx), h.ends, h.stops⟩

/-- R135: a chain whose tests all pass decides by its last rule. -/
theorem readRules_chain_passes (hst : st.mode = .reading) (hchain : IsChain chain last rest)
    (hpass : ∀ r ∈ chain ++ [last], r.passes e st.mask = true) : readRules e (chain ++ last :: rest) st = some last := by
  induction chain with
  | nil =>
    rw [List.nil_append, readRules_test_passes hst hchain.ends (hpass last (by simp)), hchain.stops]
    rfl
  | cons r chain ih =>
    rw [List.cons_append, readRules_test_passes hst (hchain.runs r (by simp)).1 (hpass r (by simp)), hchain.chainsTo]
    exact ih hchain.tail fun x hx => hpass x (List.mem_cons_of_mem _ hx)

/-- The rules left of a chain that has failed are passed over. -/
theorem readRules_chain_failed (hst : st.mode = .failed) (hmask : st.mask = st.start) (hchain : IsChain chain last rest) :
    readRules e (chain ++ last :: rest) st = readRules e rest { st with mode := .reading } := by
  induction chain with
  | nil =>
    rw [List.nil_append, readRules_test_failed hst hchain.ends, hchain.stops]
    unfold Reading.chainFailed
    rw [← hmask]
    rfl
  | cons r chain ih =>
    have hsame : st.chainFailed true = st := by
      obtain ⟨mask, start, saved, mode⟩ := st
      cases hst
      cases hmask
      rfl
    rw [List.cons_append, readRules_test_failed hst (hchain.runs r (by simp)).1, hchain.chainsTo, hsame]
    exact ih hchain.tail

/-- R135: a chain with a test that fails leaves the mask as it was before the lead-in. -/
theorem readRules_chain_fails (hst : st.mode = .reading) (hchain : IsChain chain last rest)
    (hfail : ¬∀ r ∈ chain ++ [last], r.passes e st.mask = true) :
    readRules e (chain ++ last :: rest) st = readRules e rest { st with mask := st.start } := by
  induction chain with
  | nil =>
    have hfails : ¬last.passes e st.mask = true := by simpa using hfail
    rw [List.nil_append, readRules_test_fails hst hchain.ends hfails, hchain.stops]
    unfold Reading.chainFailed
    rw [← hst]
    rfl
  | cons r chain ih =>
    have htype := (hchain.runs r (by simp)).1
    rw [List.cons_append]
    by_cases hr : r.passes e st.mask = true
    · rw [readRules_test_passes hst htype hr, hchain.chainsTo]
      exact ih hchain.tail fun hall => hfail (List.forall_mem_cons.mpr ⟨hr, hall⟩)
    · rw [readRules_test_fails hst htype hr, hchain.chainsTo, readRules_chain_failed rfl rfl hchain.tail]
      unfold Reading.chainFailed
      rw [← hst]

/-! ### Clusters -/

/-- R136: the rules of a cluster whose test has failed are passed over, up to the next OPEN or CLOSE. -/
theorem readRules_skipping (hst : st.mode = .skipping) :
    readRules e rest st = readRules e (rest.dropWhile fun x => x.type != .opens && x.type != .closes)
      { st with mode := .reading } := by
  induction rest with
  | nil => rfl
  | cons r rest ih =>
    by_cases hopens : r.type = .opens
    · rw [List.dropWhile_cons_of_neg (by simp [hopens]), readRules_opens hopens, readRules_opens hopens]
      rfl
    · by_cases hcloses : r.type = .closes
      · rw [List.dropWhile_cons_of_neg (by simp [hcloses]), readRules_closes hcloses, readRules_closes hcloses]
        rfl
      · rw [List.dropWhile_cons_of_pos (by simp [hopens, hcloses]), readRules_skipped hst hopens hcloses, ih]

/-- R136: an OPEN ends a cluster in progress, saves the mask and is tested. -/
theorem readRules_open (h : r.type = .opens) :
    readRules e (r :: rest) st = readRules e
      (if r.passes e (st.saved.getD st.mask) then rest else rest.dropWhile fun x => x.type != .opens && x.type != .closes)
      { mask := st.saved.getD st.mask, start := st.saved.getD st.mask, saved := some (st.saved.getD st.mask),
        mode := .reading } := by
  rw [readRules_opens h]
  unfold Reading.opened Reading.ended
  dsimp only
  split
  · rfl
  · exact readRules_skipping rfl

/-- R133: a test is of the property under the mask, as an unsigned number. -/
theorem holds_eq (c : Compare) (x y : Half) :
    c.holds x y = match c with
      | .eq => decide (x.toNat = y.toNat)
      | .ne => decide (x.toNat ≠ y.toNat)
      | .ge => decide (y.toNat ≤ x.toNat)
      | .lt => decide (x.toNat < y.toNat) := by
  cases c with
  | eq => exact decide_eq_decide.mpr BitVec.toNat_inj.symm
  | ne =>
    show (x != y) = _
    rw [bne, beq_eq_decide, ← decide_not]
    exact decide_eq_decide.mpr (not_congr BitVec.toNat_inj.symm)
  | ge => rfl
  | lt => rfl

end Reading

section Outcome
variable {s : State} {e : Evaluation}

theorem exec_takeEvent (hreset : s.inReset = false) : exec .takeEvent s = .next (takeOldest s) :=
  unlessReset_of_not_inReset hreset _

theorem exec_evaluationEnd (hreset : s.inReset = false) : exec .evaluationEnd s = .next (endEvaluation s) :=
  unlessReset_of_not_inReset hreset _

/-- R137: an evaluation in progress ends with its outcome. -/
theorem endEvaluation_of_some (he : s.route.evaluation = some e) :
    endEvaluation s = e.outcome.elim { s with route := { s.route with evaluation := none } }
      fun r => requestPage r { s with route := { s.route with evaluation := none } } := by
  cases ho : e.outcome <;> simp [endEvaluation, he, ho]

end Outcome

end Sys2Proof.Machine

namespace Sys2Proof.Proofs
open Sys2Proof.Machine

/-- Settles O57. -/
theorem events : Obligations.Events := by
  refine ⟨fun s hreset => ⟨fun hnot => ?_, fun e rest hnone hev => ?_, fun hnone => ?_, ?_⟩, fun e => ?_⟩
  · rw [exec_takeEvent hreset]
    unfold takeOldest
    split
    next heval hev =>
      rcases hnot with h | h
      · rw [heval] at h
        cases h
      · rw [hev] at h
        cases h
    · rfl
  · rw [exec_takeEvent hreset]
    unfold takeOldest
    rw [hnone, hev]
    rfl
  · rw [exec_evaluationEnd hreset]
    unfold endEvaluation
    rw [hnone]
  · intro e he s1
    rw [exec_evaluationEnd hreset, endEvaluation_of_some he]
    unfold Evaluation.outcome
    refine ⟨fun r hr hreject => ?_, fun r hr haccept => ?_, fun hnone hsev => ?_, fun hnone hsev => ?_, fun hempty => ?_⟩
    · simp only [hr, hreject, if_true, Option.elim_none]
      rfl
    · simp only [hr, haccept, Bool.false_eq_true, if_false, Option.elim_some]
      rfl
    · simp only [hnone, hsev, if_true, Option.elim_some]
      rfl
    · simp only [hnone, hsev, if_false, Option.elim_none]
      rfl
    · have hnil : (e.rules.toList.filter fun r => r.type != .empty) = [] := by
        rw [List.filter_eq_nil_iff]
        intro r hr
        obtain ⟨i, hi, rfl⟩ := Vector.mem_iff_getElem.mp (Vector.mem_toList_iff.mp hr)
        simpa using hempty ⟨i, hi⟩
      unfold Evaluation.decided
      rw [hnil]
      rfl
  · intro v
    refine ⟨rfl, fun r mask => ?_, ?_⟩
    · have hreads : e.reads r.property &&& mask = mask &&& e.reads r.property := BitVec.and_comm _ _
      unfold Rule.passes
      rw [holds_eq, hreads]
      have hzone : (match v.zone with | some z => BitVec.ofNat 16 z | none => (0xffff : Half)) =
          (v.zone.map fun z => BitVec.ofNat 16 z.val).getD 0xffff := by cases v.zone <;> rfl
      have hstation : (match v.station with | some z => BitVec.ofNat 16 z | none => (0xffff : Half)) =
          (v.station.map fun z => BitVec.ofNat 16 z.val).getD 0xffff := by cases v.station <;> rfl
      cases r.property with
      | zone => rw [← hzone]; rfl
      | station => rw [← hstation]; rfl
      | kind => rfl
      | course => rfl
      | value => rfl
      | severity => rfl
      | hour => rfl
      | backlog => rfl
    intro lead st hst hlead led
    refine ⟨?_, ?_, ?_, ?_⟩
    · have h := readRules_lead (e := e) hst hlead []
      rwa [List.append_nil] at h
    · intro chain last rest hruns hends hstops
      have hchain : IsChain chain last rest := by
        refine ⟨hruns, hends, ?_⟩
        cases rest with
        | nil => rfl
        | cons r tail =>
          show (last.andFlag && r.type == .test) = false
          cases hflag : last.andFlag
          · rfl
          · simpa using hstops hflag r tail rfl
      rw [List.append_assoc, readRules_lead hst hlead]
      exact ⟨readRules_chain_passes (st := { st with mask := led }) hst hchain,
        readRules_chain_fails (st := { st with mask := led }) hst hchain⟩
    · intro r rest hr m
      rw [readRules_lead hst hlead, readRules_open hr]
    · intro r rest hr m
      rw [readRules_lead hst hlead, readRules_closes hr]
      rfl

end Sys2Proof.Proofs

/-! SUPPORT. What the operations of the page and ware blocks leave as it was in the other blocks, from the kinds of their moves; and
the events that join the queue, one operation after another (R128). -/

namespace Sys2Proof.Machine

section Frames
variable {K : Kind → Prop} {k : Kind} {s t u : State}

/-- What the page and ware blocks leave of every other. -/
structure Beside (s t : State) : Prop where
  heat : t.heat = s.heat
  prog : t.prog = s.prog
  load : t.load = s.load
  course : t.course = s.course
  relay : t.relay = s.relay
  oe : t.oe = s.oe
  inReset : t.inReset = s.inReset
  link : t.bus.link = s.bus.link
  straps : t.port.straps = s.port.straps
  configured : t.port.configured = s.port.configured
  mask : t.port.mask = s.port.mask
  groups : t.page.groups = s.page.groups

theorem Beside.refl (s : State) : Beside s s := ⟨rfl, rfl, rfl, rfl, rfl, rfl, rfl, rfl, rfl, rfl, rfl, rfl⟩

theorem Beside.trans (h : Beside s t) (h' : Beside t u) : Beside s u :=
  ⟨h'.heat.trans h.heat, h'.prog.trans h.prog, h'.load.trans h.load, h'.course.trans h.course, h'.relay.trans h.relay,
    h'.oe.trans h.oe, h'.inReset.trans h.inReset, h'.link.trans h.link, h'.straps.trans h.straps,
    h'.configured.trans h.configured, h'.mask.trans h.mask, h'.groups.trans h.groups⟩

/-- The kinds of move that stay beside the other blocks. -/
def besides : Kind → Prop
  | .request _ | .latch => True
  | k => rackWork k

theorem Move.beside (hk : besides k) (hmove : Move k s t) : Beside s t := by
  cases hmove
  case take => constructor <;> simp
  case fault => constructor <;> simp
  case page b hgroups _ => exact ⟨rfl, rfl, rfl, rfl, rfl, rfl, rfl, rfl, rfl, rfl, rfl, hgroups⟩
  case request b hgroups _ => exact ⟨rfl, rfl, rfl, rfl, rfl, rfl, rfl, rfl, rfl, rfl, rfl, hgroups⟩
  case event | report | count | latch | ware => exact ⟨rfl, rfl, rfl, rfl, rfl, rfl, rfl, rfl, rfl, rfl, rfl, rfl⟩
  all_goals exact hk.elim

/-- The work of the page and ware blocks stays beside the others. -/
theorem Reach.beside_of (hK : Admits besides K) (h : Reach K s t) : Beside s t :=
  (h.mono fun _ hk => hK hk).rel Beside.refl fun hk hmove hs => hs.trans (hmove.beside hk)

theorem besides_admits_rackWork : Admits besides rackWork := fun k hk => by
  cases k <;> first | exact hk | trivial

theorem besides_admits_pages : Admits besides pages := fun _ hk =>
  wares_admits_pages (rackWork_admits_wares besides_admits_rackWork) hk

theorem besides_admits_requests (pr : Nat) : Admits besides (requests pr) := fun k hk => by
  cases k <;> first | trivial | exact hk.elim

theorem besides_admits_escalations : Admits besides escalations := fun k hk => by
  cases k <;> first | trivial | exact hk.elim

theorem Reach.beside (h : Reach rackWork s t) : Beside s t := h.beside_of besides_admits_rackWork

theorem Reach.beside_pages (h : Reach pages s t) : Beside s t :=
  h.beside_of besides_admits_pages

theorem Reach.beside_wares (h : Reach wares s t) : Beside s t :=
  h.beside_of (rackWork_admits_wares besides_admits_rackWork)

/-- The work of the ware block but faults and racks that leave makes no report. -/
theorem Reach.mailbox_wares (h : Reach wares s t) : t.port.mailbox = s.port.mailbox :=
  h.same (g := fun s => s.port.mailbox) fun hk hmove => by
    cases hmove
    case take => simp
    case event | page | ware => rfl
    all_goals exact hk.elim

theorem index_injective {j k : CounterName} (h : j.index = k.index) : j = k := by
  cases j <;> cases k <;> first | rfl | cases h

/-- A counter that rises leaves every other. -/
theorem counter_bumpIf_other {j k : CounterName} (hne : j ≠ k) (really : Bool) (cs : Vector Counter 14) :
    (bumpIf really k cs)[j.index] = cs[j.index] := by
  unfold bumpIf
  split
  · exact Vector.getElem_set_ne _ _ fun h => hne (index_injective (Fin.ext h.symm))
  · rfl

theorem counter_bump_other {j k : CounterName} (hne : j ≠ k) (s : State) : (bump k s).counter j = s.counter j :=
  counter_bumpIf_other hne true _

theorem counter_raise {j : CounterName} (hne : j ≠ .eventsDropped) (e : Event) (s : State) : (raise e s).counter j = s.counter j :=
  counter_bumpIf_other hne _ _

theorem takeNotice_counter (b : Body) (s : State) {j : CounterName} (hj : j ≠ .txqDrop) :
    (takeNotice b s).counter j = s.counter j := by
  unfold takeNotice
  split
  · rfl
  · split
    · rfl
    · split
      · exact counter_bump_other hj _
      · exact counter_bump_other hj _

/-- The work of the ware block counts no rack. -/
theorem Reach.counter_wares {j : CounterName} (htxq : j ≠ .txqDrop) (hevents : j ≠ .eventsDropped) (h : Reach wares s t) :
    t.counter j = s.counter j :=
  h.same (g := fun s => s.counter j) fun hk hmove => by
    cases hmove
    case take => exact takeNotice_counter _ _ htxq
    case event => exact counter_raise hevents _ _
    case page | ware => rfl
    all_goals exact hk.elim

/-- The work of the page block leaves the ware block, the routing block and the latched causes. -/
theorem Reach.route_pages (h : Reach pages s t) : t.route = s.route :=
  h.same (g := fun s => s.route) fun hk hmove => by
    cases hmove
    case take => simp
    case page => rfl
    all_goals exact hk.elim

theorem Reach.ware_pages (h : Reach pages s t) : t.ware = s.ware :=
  h.same (g := fun s => s.ware) fun hk hmove => by
    cases hmove
    case take => simp
    case page => rfl
    all_goals exact hk.elim

end Frames

/-! ### Events that join the queue (R128) -/

section Queues
variable {s t u : State} {es fs : List Event}

theorem queues_of_same (h : t.route.events = s.route.events) : t.queues s [] :=
  ⟨fun _ => h, fun _ _ => by rw [h, List.append_nil]⟩

theorem queues_raise (e : Event) (s : State) : (raise e s).queues s [e] := by
  constructor
  · intro htakes
    simp [raise, htakes]
  · intro htakes hroom
    have hlt : s.route.events.length < 16 := by
      rw [List.length_singleton] at hroom
      omega
    simp [raise, htakes, queueEvent, hlt]

theorem State.queues.trans (h : t.queues s es) (hlink : t.bus.link = s.bus.link) (h' : u.queues t fs) :
    u.queues s (es ++ fs) := by
  constructor
  · intro htakes
    exact (h'.1 (hlink ▸ htakes)).trans (h.1 htakes)
  · intro htakes hroom
    rw [List.length_append] at hroom
    have ht := h.2 htakes (by omega)
    rw [h'.2 (hlink ▸ htakes) (by rw [ht, List.length_append]; omega), ht, List.append_assoc]

theorem State.queues.then_same (h : t.queues s es) (hroute : u.route.events = t.route.events) : u.queues s es :=
  ⟨fun htakes => hroute.trans (h.1 htakes), fun htakes hroom => hroute.trans (h.2 htakes hroom)⟩

end Queues

/-! ### Latched causes (R180) -/

section Latched
variable {s t : State} {c : Cause}

theorem isPending_of_latched (hc : c.isLatched = true) (s : State) : s.isPending c = (s.port.latched &&& c.bit != 0) := by
  cases c <;> first | rfl | cases hc

/-- A cause latched is pending. -/
theorem isPending_latch (hc : c.isLatched = true) (s : State) : (latch c s).isPending c = true := by
  have hself : (s.port.latched ||| c.bit) &&& c.bit = c.bit := by
    ext i hi
    simp only [BitVec.getElem_and, BitVec.getElem_or]
    cases c.bit[i] <;> simp
  rw [isPending_of_latched hc]
  show ((s.port.latched ||| c.bit) &&& c.bit != 0) = true
  rw [hself]
  cases c <;> rfl

/-- A latched cause stays pending while others are latched. -/
theorem isPending_or (hc : c.isLatched = true) {m : Half} (hmore : t.port.latched = s.port.latched ||| m)
    (h : s.isPending c = true) : t.isPending c = true := by
  rw [isPending_of_latched hc, bne_iff_ne] at h ⊢
  rw [hmore]
  intro hnone
  apply h
  ext i hi
  have hbit := congrArg (·[i]) hnone
  simp only [BitVec.getElem_and, BitVec.getElem_or] at hbit ⊢
  cases hs : s.port.latched[i] <;> simp_all

theorem isPending_raise (hc : c.isLatched = true) (e : Event) (h : s.isPending c = true) : (raise e s).isPending c = true := by
  by_cases hlost : (s.bus.link.takesEvents && decide (16 ≤ s.route.events.length)) = true
  · exact isPending_or hc (if_pos hlost) h
  · exact isPending_or hc (m := 0) ((if_neg hlost).trans (BitVec.or_zero).symm) h

end Latched

/-! ### A notice handed waits (R67, R68) -/

section Hands
variable {s : State} {b : Body}

/-- A notice handed at a station that sends waits in the queue, where the queue has room. -/
theorem hand_waits (hsends : s.bus.link.sends = true) (hroom : s.bus.queue.length < 12) :
    ∃ e ∈ (hand b s).bus.queue, e.waiting = true ∧ e.body = b := by
  rcases hand_cases b s with ⟨hno, -⟩ | ⟨-, ⟨old, hold, heq⟩ | ⟨-, ⟨-, heq⟩ | ⟨hfull, -⟩⟩⟩
  · rw [hsends] at hno
    cases hno
  · rw [heq]
    obtain ⟨hmem, -⟩ := supersededBy_some hold
    exact ⟨_, List.mem_map.mpr ⟨old, hmem, if_pos rfl⟩, rfl, rfl⟩
  · rw [heq]
    refine ⟨s.newEntry b, ?_, rfl, rfl⟩
    rw [wake_queue]
    exact List.mem_append_right _ (List.mem_singleton_self _)
  · omega

end Hands

end Sys2Proof.Machine

/-! WARE SET, CONVEYOR RESET, SANITIZE ACK, the OE input, the rack sensors' edges and the moments of the ware block (R107–R122):
O53, O54, O55. -/

namespace Sys2Proof.Machine

/-! ### The conveyor -/

section Conveyor
variable {s t u : State}

theorem freshAtLeast_eq (zn : Zone) (n : Nat) :
    zn.freshAtLeast n = (decide (zn.age < 6) && (zn.temp.map fun x => decide ((n : Int) ≤ x)).getD false) := by
  have hage : (!zn.stale) = decide (zn.age < 6) := by
    unfold Zone.stale
    rw [← decide_not]
    exact decide_eq_decide.mpr (by omega)
  unfold Zone.freshAtLeast
  rw [hage]
  cases zn.temp <;> rfl

theorem sends_eq (l : LinkState) : l.sends = (l == .joined || l == .alone) := by cases l <;> rfl

/-- R114: the state for the inputs, as the model and the rule write it. -/
theorem conveyorTarget_eq (s : State) : s.conveyorTarget = s.conveyorFor := by
  have hleast : s.ware.rinseThreshold =
      if s.ware.conveyor ≠ .running ∧ s.ware.margin = true then s.ware.sanMin + 2 else s.ware.sanMin := by
    unfold Ware.rinseThreshold
    simp
  unfold State.conveyorTarget State.conveyorFor State.mayRun State.rinseOk State.washOk State.wareActive
  simp only [freshAtLeast_eq, sends_eq, hleast]

theorem driveConveyor_margin (s : State) : (driveConveyor s).ware.margin =
    if s.conveyorTarget = .running then false else if s.ware.conveyor = .running then true else s.ware.margin := by
  unfold driveConveyor
  dsimp only
  split <;> rfl

/-- R114, R115: the conveyor evaluated stands as the rule gives. -/
theorem conveyorStands_evalConveyor (s : State) : (evalConveyor s).conveyorStands s := by
  unfold State.conveyorStands evalConveyor
  split
  next hfault => exact ⟨hfault, rfl⟩
  · have hinputs : ({ driveConveyor s with ware := { (driveConveyor s).ware with
        conveyor := s.ware.conveyor, margin := s.ware.margin } } : State).conveyorFor = s.conveyorFor := by
      unfold driveConveyor
      dsimp only
      split <;> rfl
    rw [hinputs, driveConveyor_conveyor, driveConveyor_margin, conveyorTarget_eq]
    exact ⟨rfl, rfl⟩

/-- R115: the event of a stop as the conveyor raises it. -/
def State.stopEvent (s : State) : Event :=
  { kind := .conveyorStop, course := 0, zone := s.stopZone, station := none, value := BitVec.ofNat 16 s.ware.racks.length }

/-- R115: a stop with a rack in the queue. -/
def State.StopsLoaded (s : State) : Prop :=
  s.ware.conveyor = .running ∧ s.conveyorTarget = .waiting ∧ s.ware.racks ≠ []

theorem driveConveyor_of_stop (h : s.StopsLoaded) :
    driveConveyor s = raise s.stopEvent (mapWare (·.move s.conveyorTarget) s) := if_pos h

theorem driveConveyor_of_not_stop (h : ¬s.StopsLoaded) : driveConveyor s = mapWare (·.move s.conveyorTarget) s := if_neg h

theorem stopEvents_of_stop (h : s.StopsLoaded) : (driveConveyor s).stopEvents s = [s.stopEvent] := by
  have hthreshold : s.ware.rinseThreshold = s.ware.sanMin := by
    unfold Ware.rinseThreshold
    simp [h.1]
  unfold State.stopEvents State.stopEvent State.stopZone State.rinseOk
  rw [driveConveyor_conveyor, hthreshold, driveConveyor_of_stop h]
  simp only [freshAtLeast_eq, sends_eq]
  exact if_pos h

theorem stopEvents_of_not_stop (h : ¬s.StopsLoaded) : (driveConveyor s).stopEvents s = [] :=
  if_neg (by rwa [driveConveyor_conveyor])

/-- R115: the events of the conveyor evaluated. -/
theorem queues_evalConveyor (s : State) : (evalConveyor s).queues s ((evalConveyor s).stopEvents s) := by
  unfold evalConveyor
  split
  next hfault =>
    have hnone : s.stopEvents s = [] := if_neg fun h => by
      rw [hfault] at h
      exact nomatch h.1
    rw [hnone]
    exact queues_of_same rfl
  · by_cases hstop : s.StopsLoaded
    · rw [stopEvents_of_stop hstop, driveConveyor_of_stop hstop]
      exact queues_raise _ (mapWare _ s)
    · rw [stopEvents_of_not_stop hstop, driveConveyor_of_not_stop hstop]
      exact queues_of_same rfl

/-- What a fault leaves (R118). -/
theorem faultedBy_faultConveyor (c : SubCause) (s : State) : (faultConveyor c s).faultedBy c s := by
  unfold State.faultedBy faultConveyor
  split
  next hfault => exact ⟨hfault, rfl, rfl⟩
  · refine ⟨rfl, rfl, ?_⟩
    show (if Conveyor.fault = .running then false else if s.ware.conveyor = .running then true else s.ware.margin) = _
    rw [if_neg nofun]
    cases s.ware.conveyor <;> rfl

theorem queues_faultConveyor (c : SubCause) (s : State) : (faultConveyor c s).queues s (s.anomalyEvents c) := by
  unfold State.anomalyEvents faultConveyor
  split
  · exact queues_of_same rfl
  · exact queues_raise _ (mapWare _ s)

end Conveyor

/-! ### The backlog level -/

section Level
variable {s t : State}

/-- R120: the level that follows from the backlog as it stands. -/
def State.nextLevel (s : State) : Bool :=
  if s.ware.levelHigh then !decide (s.backlog ≤ s.ware.low) else decide (s.ware.high ≤ s.backlog)

/-- R120: the event of a level that turns HIGH. -/
def State.highEvent (s : State) : Event :=
  { kind := .backlogHigh, course := 0, zone := none, station := none, value := BitVec.ofNat 16 s.backlog }

theorem evalLevel_cases (hactive : s.wareActive = true) :
    (s.ware.levelHigh = false ∧ s.nextLevel = true ∧
        evalLevel s = handWare (raise s.highEvent (mapWare (fun w => { w with levelHigh := true }) s))) ∨
      (s.ware.levelHigh = true ∧ s.nextLevel = false ∧
        evalLevel s = handWare (mapWare (fun w => { w with levelHigh := false }) s)) ∨
      (s.nextLevel = s.ware.levelHigh ∧ evalLevel s = s) := by
  unfold evalLevel State.nextLevel
  rw [hactive, Bool.not_true, if_neg Bool.false_ne_true]
  cases hlevel : s.ware.levelHigh with
  | false =>
    by_cases hhigh : s.ware.high ≤ s.backlog
    · exact .inl (by simp [hhigh, State.highEvent])
    · exact .inr (.inr (by simp [hhigh]))
  | true =>
    by_cases hlow : s.backlog ≤ s.ware.low
    · exact .inr (.inl (by simp [hlow]))
    · exact .inr (.inr (by simp [hlow]))

/-- What the level evaluated leaves of the ware block. -/
theorem evalLevel_ware (hactive : s.wareActive = true) :
    (evalLevel s).ware = { s.ware with levelHigh := s.nextLevel, repeatCount := (evalLevel s).ware.repeatCount } := by
  rcases evalLevel_cases hactive with ⟨-, hnext, heq⟩ | ⟨-, hnext, heq⟩ | ⟨hnext, heq⟩
  · rw [heq, hnext, handWare, hand_ware]
    rfl
  · rw [heq, hnext, handWare, hand_ware]
    rfl
  · rw [heq, hnext]

theorem evalLevel_events (hactive : s.wareActive = true) :
    (evalLevel s).queues s (if s.nextLevel = true ∧ s.ware.levelHigh = false then [s.highEvent] else []) := by
  rcases evalLevel_cases hactive with ⟨hlevel, hnext, heq⟩ | ⟨-, hnext, heq⟩ | ⟨hnext, heq⟩
  · rw [if_pos ⟨hnext, hlevel⟩, heq]
    exact (queues_raise _ (mapWare _ s)).then_same (congrArg Route.events (hand_route _ _))
  · rw [if_neg (by simp [hnext]), heq]
    exact queues_of_same (congrArg Route.events (hand_route _ _))
  · rw [if_neg (by simp [hnext]), heq]
    exact queues_of_same rfl

theorem backlog_of_same (hware : t.wareActive = s.wareActive) (hwaiting : t.ware.waiting = s.ware.waiting)
    (hracks : t.ware.racks = s.ware.racks) : t.backlog = s.backlog := by
  unfold State.backlog
  rw [hware, hwaiting, hracks]

/-- The operations of the level are beside the other blocks. -/
theorem beside_evalLevel (s : State) : Beside s (evalLevel s) := (Reach.evalLevel (fun _ hk => hk) .refl).beside_wares

theorem beside_watchBacklog (f : State → State) (s : State) : Beside (f s) (watchBacklog f s) :=
  (Reach.watchBacklog (fun _ hk => hk) .refl).beside_pages

theorem watchBacklog_ware (f : State → State) (s : State) : (watchBacklog f s).ware = (f s).ware :=
  (Reach.watchBacklog (K := pages) (fun _ hk => hk) .refl).ware_pages

theorem watchBacklog_route (f : State → State) (s : State) : (watchBacklog f s).route = (f s).route :=
  (Reach.watchBacklog (K := pages) (fun _ hk => hk) .refl).route_pages

theorem Beside.wareActive (h : Beside s t) : t.wareActive = s.wareActive :=
  wareActive_of_same h.straps h.configured h.link

/-- A level evaluated, and what backlog changes for the pages (R120, R123): `f` evaluates the level of `s` last. -/
structure Leveled (s t : State) : Prop where
  beside : Beside s t
  ware : t.ware = { s.ware with levelHigh := s.nextLevel, repeatCount := t.ware.repeatCount }
  events : t.queues s (t.highEvents s)

theorem Leveled.backlog (h : Leveled s t) : t.backlog = s.backlog :=
  backlog_of_same h.beside.wareActive (by rw [h.ware]) (by rw [h.ware])

theorem leveled_of_ware (hbeside : Beside s t)
    (hware : t.ware = { s.ware with levelHigh := s.nextLevel, repeatCount := t.ware.repeatCount })
    (hevents : t.queues s (if s.nextLevel = true ∧ s.ware.levelHigh = false then [s.highEvent] else [])) : Leveled s t := by
  have hlevel : t.ware.levelHigh = s.nextLevel := by rw [hware]
  have hbacklog : t.backlog = s.backlog := backlog_of_same hbeside.wareActive (by rw [hware]) (by rw [hware])
  refine ⟨hbeside, hware, ?_⟩
  unfold State.highEvents
  rw [hlevel, hbacklog]
  exact hevents

/-- R120: the level stands as the rule gives. -/
theorem Leveled.stands (h : Leveled s t) : t.levelStands s := by
  unfold State.levelStands
  rw [h.backlog, h.ware]
  rfl

theorem leveled_evalLevel (hactive : s.wareActive = true) : Leveled s (evalLevel s) :=
  leveled_of_ware (beside_evalLevel s) (evalLevel_ware hactive) (evalLevel_events hactive)

/-- R123: the page block is told. -/
theorem leveled_watchBacklog {f : State → State} (h : Leveled t (f s)) : Leveled t (watchBacklog f s) := by
  have hware := watchBacklog_ware f s
  refine ⟨h.beside.trans (beside_watchBacklog f s), ?_, ?_⟩
  · rw [hware]
    exact h.ware
  · have hhigh : (watchBacklog f s).highEvents t = (f s).highEvents t := by
      unfold State.highEvents
      rw [hware, backlog_of_same (beside_watchBacklog f s).wareActive (by rw [hware]) (by rw [hware])]
    rw [hhigh]
    exact h.events.then_same (congrArg Route.events (watchBacklog_route f s))

theorem leveled_evalBacklog (hactive : s.wareActive = true) : Leveled s (evalBacklog s) :=
  leveled_watchBacklog (leveled_evalLevel hactive)

end Level

end Sys2Proof.Machine

/-! WARE SET, CONVEYOR RESET, SANITIZE ACK and the OE input (R20, R107, R113–R116, R119): O53. -/

namespace Sys2Proof.Machine

section Stands
variable {s t u : State}

/-- The level evaluated leaves the conveyor's inputs. -/
theorem State.conveyorStands.leveled (h : t.conveyorStands s) (hl : Leveled t u) : u.conveyorStands s := by
  unfold State.conveyorStands State.conveyorFor State.isConveyor at h ⊢
  rw [hl.ware]
  simp only [hl.beside.straps, hl.beside.configured, hl.beside.link, hl.beside.heat, hl.beside.oe]
  exact h

theorem stopEvents_leveled (hl : Leveled t u) (s : State) : u.stopEvents s = t.stopEvents s := by
  unfold State.stopEvents
  rw [hl.ware]
  simp only [hl.beside.link, hl.beside.heat, hl.beside.oe]

theorem conveyor_active (hup : s.isUp) (hconveyor : s.isConveyor = true) (hlink : s.bus.link ≠ .left) : s.wareActive = true := by
  simp [State.wareActive, hconveyor, hup.2, hlink]

/-- The state of WARE SET before the level is evaluated. -/
def State.wareSet (enable : Bool) (waiting : Nat) (s : State) : State :=
  evalConveyor (mapWare (fun w => { w with enable := enable, waiting := waiting }) s)

theorem wareSet_beside (enable : Bool) (waiting : Nat) (s : State) : Beside s (s.wareSet enable waiting) := by
  constructor <;> simp [State.wareSet]

theorem wareSet_leveled (enable : Bool) (waiting : Nat) (hactive : s.wareActive = true) :
    Leveled (s.wareSet enable waiting) (setWare enable waiting s) :=
  leveled_watchBacklog (f := fun s => evalLevel (s.wareSet enable waiting))
    (leveled_evalLevel ((wareSet_beside enable waiting s).wareActive.trans hactive))

/-- R107: what WARE SET leaves. -/
theorem setWare_stands (enable : Bool) (waiting : Nat) (hactive : s.wareActive = true) :
    (setWare enable waiting s).conveyorStands s ∧ (setWare enable waiting s).levelStands s ∧
      (setWare enable waiting s).queues s ((setWare enable waiting s).stopEvents s ++ (setWare enable waiting s).highEvents s) := by
  have hl := wareSet_leveled enable waiting hactive
  have hlevel : (s.wareSet enable waiting).ware.levelHigh = s.ware.levelHigh := evalConveyor_ware_levelHigh _
  have hhighLine : (s.wareSet enable waiting).ware.high = s.ware.high := evalConveyor_ware_high _
  have hlowLine : (s.wareSet enable waiting).ware.low = s.ware.low := evalConveyor_ware_low _
  have hstands : (s.wareSet enable waiting).conveyorStands s := 
    conveyorStands_evalConveyor (mapWare (fun w => { w with enable := enable, waiting := waiting }) s)
  have hevents : (s.wareSet enable waiting).queues s ((s.wareSet enable waiting).stopEvents s) :=
    queues_evalConveyor (mapWare (fun w => { w with enable := enable, waiting := waiting }) s)
  refine ⟨hstands.leveled hl, ?_, ?_⟩
  · have h := hl.stands
    unfold State.levelStands at h ⊢
    rwa [hlevel, hhighLine, hlowLine] at h
  · have hhigh : (setWare enable waiting s).highEvents (s.wareSet enable waiting) = (setWare enable waiting s).highEvents s := by
      unfold State.highEvents
      rw [hlevel]
    rw [stopEvents_leveled hl, ← hhigh]
    exact hevents.trans (wareSet_beside _ _ s).link hl.events

theorem setWare_ware (enable : Bool) (waiting : Nat) (hactive : s.wareActive = true) :
    (setWare enable waiting s).ware.enable = enable ∧ (setWare enable waiting s).ware.waiting = waiting ∧
      (setWare enable waiting s).ware.racks = s.ware.racks := by
  rw [(wareSet_leveled enable waiting hactive).ware]
  exact ⟨evalConveyor_ware_enable _, evalConveyor_ware_waiting _, evalConveyor_ware_racks _⟩

theorem setWare_backlog (enable : Bool) (waiting : Nat) (hactive : s.wareActive = true) :
    (setWare enable waiting s).backlog = min 999 (waiting + s.ware.racks.length) := by
  obtain ⟨-, hwaiting, hracks⟩ := setWare_ware enable waiting hactive
  have hbeside := (wareSet_beside enable waiting s).trans (wareSet_leveled enable waiting hactive).beside
  unfold State.backlog
  rw [if_pos (hbeside.wareActive.trans hactive), hwaiting, hracks]

/-- R119: CONVEYOR RESET. -/
theorem unfault_eq (hfault : s.ware.conveyor = .fault) :
    driveConveyor (mapWare Ware.unfaulted s) = { s with ware := { s.ware with
      subCause := none, racks := s.ware.racks.map fun r => { r with running := 0 },
      conveyor := s.conveyorFor, margin := s.ware.margin && s.conveyorFor != .running } } := by
  have hnot : ¬(mapWare Ware.unfaulted s).StopsLoaded := fun h => by
    have hrunning : s.ware.conveyor = .running := h.1
    rw [hfault] at hrunning
    cases hrunning
  have htarget : (mapWare Ware.unfaulted s).conveyorTarget = s.conveyorFor :=
    (show _ = s.conveyorTarget from rfl).trans (conveyorTarget_eq s)
  have hmargin (c : Conveyor) : (if c = .running then false else if s.ware.conveyor = .running then true else s.ware.margin) =
      (s.ware.margin && c != .running) := by
    rw [hfault]
    cases c <;> simp
  rw [driveConveyor_of_not_stop hnot, htarget, ← hmargin]
  rfl

/-! ### The OE input -/

/-- The state of a change of the OE input before the conveyor is evaluated. -/
def State.withOe (high : Bool) (s : State) : State := if high then { s with oe := high } else outputsOff { s with oe := high }

theorem setOe_eq (high : Bool) (s : State) : setOe high s = evalConveyor (s.withOe high) := rfl

theorem withOe_fields (high : Bool) (s : State) :
    (s.withOe high).oe = high ∧ (s.withOe high).ware = s.ware ∧ (s.withOe high).prog = s.prog ∧ (s.withOe high).load = s.load ∧
      (s.withOe high).bus = s.bus ∧ (s.withOe high).course = s.course ∧ (s.withOe high).page = s.page ∧
      (s.withOe high).relay = s.relay ∧ (s.withOe high).route = s.route := by
  cases high <;> exact ⟨rfl, rfl, rfl, rfl, rfl, rfl, rfl, rfl, rfl⟩

theorem withOe_zone (high : Bool) (s : State) (z : ZoneNo) :
    (s.withOe high).heat.zones[z] = { s.heat.zones[z] with on := high && s.heat.zones[z].on } := by
  cases high with
  | true => rfl
  | false => exact Vector.getElem_ofFn z.isLt

theorem conveyorStands_of_ware {t s s' : State} (hware : s.ware = s'.ware) (h : t.conveyorStands s) : t.conveyorStands s' := by
  unfold State.conveyorStands at h ⊢
  rwa [← hware]

theorem stopEvents_of_ware {t s s' : State} (hware : s.ware = s'.ware) : t.stopEvents s = t.stopEvents s' := by
  unfold State.stopEvents
  simp only [hware]

theorem State.queues.from_same {t s s' : State} {es : List Event} (h : t.queues s es) (hroute : s.route.events = s'.route.events)
    (hlink : s.bus.link = s'.bus.link) : t.queues s' es := by
  unfold State.queues at h ⊢
  rwa [← hroute, ← hlink]

theorem evalConveyor_ware (s : State) : (evalConveyor s).ware =
    { s.ware with conveyor := (evalConveyor s).ware.conveyor, margin := (evalConveyor s).ware.margin } := by
  unfold evalConveyor
  split
  · rfl
  · unfold driveConveyor
    dsimp only
    split <;> rfl

end Stands

end Sys2Proof.Machine

namespace Sys2Proof.Proofs
open Sys2Proof.Machine

/-- Settles O53. -/
theorem wareCommands : Obligations.WareCommands := by
  refine ⟨fun p s hup => ⟨fun hlen => ⟨fun hbad => ?_, fun hconveyor hlink => ?_⟩,
    fun hlen => ⟨fun hbad => ?_, fun hconveyor hfault => ?_, fun hbad => ?_, fun hconveyor => ?_⟩⟩, fun high s hreset => ?_⟩
  · exact exec_refused hup.1 (by simp [hlen]) (.inr hup.2) (if_pos (by simpa using hbad))
  · have hactive := conveyor_active hup hconveyor hlink
    have hact : (if !s.isConveyor || s.bus.link == .left then (s, Result.refusedState)
        else (setWare (flagAt p 0) (min 999 (wordAt p 1)) s, .ok)) = (setWare (flagAt p 0) (min 999 (wordAt p 1)) s, .ok) :=
      if_neg (by simp [hconveyor, hlink])
    refine ⟨_, exec_taken hup.1 (by simp [hlen]) (.inr hup.2) hact, rfl, rfl, ?_⟩
    obtain ⟨henable, hwaiting, hracks⟩ := setWare_ware (flagAt p 0) (min 999 (wordAt p 1)) hactive
    obtain ⟨hstands, hlevel, hevents⟩ := setWare_stands (flagAt p 0) (min 999 (wordAt p 1)) hactive
    have hbacklog := setWare_backlog (flagAt p 0) (min 999 (wordAt p 1)) hactive
    have hbeside := (wareSet_beside (flagAt p 0) (min 999 (wordAt p 1)) s).trans (wareSet_leveled _ _ hactive).beside
    have hsettings := settings_of_kept (setWare_kept (flagAt p 0) (min 999 (wordAt p 1)) s)
    exact ⟨hsettings, henable, hwaiting, hracks, hbacklog, hstands, hlevel, hevents, hbeside.heat, hbeside.prog, hbeside.load,
      hbeside.course, hbeside.relay⟩
  · exact exec_refused hup.1 (by simp [hlen]) (.inr hup.2) (if_pos (by simpa using hbad))
  · refine exec_taken hup.1 (by simp [hlen]) (.inr hup.2) ?_
    rw [if_neg (by simp [hconveyor, hfault]), unfault_eq hfault]
  · exact exec_refused hup.1 (by simp [hlen]) (.inr hup.2) (if_pos (by simpa using hbad))
  · exact exec_taken hup.1 (by simp [hlen]) (.inr hup.2) (if_neg (by simp [hconveyor]))
  · obtain ⟨hoe, hware, hprog, hload, hbus, hcourse, hpage, hrelay, hroute⟩ := withOe_fields high s
    have hexec : exec (.oeInterlockChange high) s = .next (evalConveyor (s.withOe high)) := by
      show Host.Outcome.next _ = _
      rw [hreset, if_neg Bool.false_ne_true, setOe_eq]
    have hoe' := (evalConveyor_oe (s.withOe high)).trans hoe
    refine ⟨_, hexec, hoe', ?_, conveyorStands_of_ware hware (conveyorStands_evalConveyor _), ?_,
      (evalConveyor_prog _).trans hprog, (evalConveyor_load _).trans hload, (evalConveyor_bus _).trans hbus,
      (evalConveyor_course _).trans hcourse, (evalConveyor_page _).trans hpage, (evalConveyor_relay _).trans hrelay,
      fun z => ?_, ?_, fun hlow => ?_⟩
    · exact (settings_of_kept (setOe_kept high s)).trans rfl
    · rw [← stopEvents_of_ware hware]
      exact (queues_evalConveyor _).from_same (congrArg Route.events hroute) (congrArg Bus.link hbus)
    · rw [evalConveyor_heat]
      exact withOe_zone high s z
    · have h := evalConveyor_ware (s.withOe high)
      rwa [hware] at h
    · subst hlow
      refine ⟨?_, ?_, fun z => ?_⟩
      · simp only [State.conveyorOut, hoe', Bool.and_false, Bool.false_and]
      · simp only [State.sanitizeOut, hoe', Bool.and_false, Bool.false_and]
      have hzone : (evalConveyor (s.withOe false)).heat.zones[z].on = false := by
        rw [evalConveyor_heat, withOe_zone]
        rfl
      simp only [State.heaterOut, hzone, Bool.and_false]

end Sys2Proof.Proofs

/-! The ENTRY, RINSE and EXIT edges (R109–R112, R118, R120): O54. -/

namespace Sys2Proof.Machine

section Edges
variable {s t u : State} {c : SubCause} {es : List Event}

theorem faultConveyor_backlog (c : SubCause) (s : State) : (faultConveyor c s).backlog = s.backlog :=
  backlog_of_same (wareActive_of_same (by simp) (by simp) (by simp)) (by simp) (by simp)

/-- A fault leaves the level and what it rests on. -/
theorem levelStands_faultConveyor (h : t.levelStands s) : (faultConveyor c t).levelStands s := by
  unfold State.levelStands at h ⊢
  rwa [faultConveyor_backlog, faultConveyor_ware_levelHigh]

theorem faultedBy_of_ware (h : t.faultedBy c u) (hconveyor : u.ware.conveyor = s.ware.conveyor)
    (hcause : u.ware.subCause = s.ware.subCause) (hmargin : u.ware.margin = s.ware.margin) : t.faultedBy c s := by
  unfold State.faultedBy at h ⊢
  rwa [← hconveyor, ← hcause, ← hmargin]

theorem anomalyEvents_of_ware (hconveyor : t.ware.conveyor = s.ware.conveyor) : t.anomalyEvents c = s.anomalyEvents c := by
  unfold State.anomalyEvents
  rw [hconveyor]

theorem counter_faultConveyor {j : CounterName} (hj : j ≠ .eventsDropped) : (faultConveyor c s).counter j = s.counter j := by
  unfold faultConveyor
  split
  · rfl
  · exact counter_raise hj _ (mapWare _ s)

/-- R111: the event of a REWASH rack that leaves. -/
def rinseFailEvent (zone : ZoneNo) (temp : Option Int) : Event :=
  { kind := .rinseFail, course := 0, zone := some zone, station := none, value := BitVec.ofInt 16 (temp.getD (-32768)) }

/-- R111: what a REWASH rack leaves as it goes. -/
theorem rewashExit_queues (r : Rack) (s : State) : (rewashExit r s).queues s [rinseFailEvent s.ware.rinseZone r.temp] :=
  (queues_raise _ (bump .racksRewash s)).then_same rfl

theorem rewashExit_counter (r : Rack) (s : State) :
    (rewashExit r s).counter .racksRewash = (s.counter .racksRewash).bump ∧
      (rewashExit r s).counter .racksClean = s.counter .racksClean := by
  constructor
  · exact (counter_raise (j := .racksRewash) nofun (rinseFailEvent s.ware.rinseZone r.temp) _).trans
      (State.counter_bump .racksRewash s)
  · exact (counter_raise (j := .racksClean) nofun (rinseFailEvent s.ware.rinseZone r.temp) _).trans
      (counter_bump_other (j := .racksClean) (k := .racksRewash) nofun s)

/-- R111: the record, the report and the level of the held result. -/
theorem rewashExit_fields (r : Rack) (s : State) :
    (rewashExit r s).ware = { s.ware with heldLow := true } ∧ (rewashExit r s).bus = s.bus ∧
      (rewashExit r s).port.straps = s.port.straps ∧ (rewashExit r s).port.configured = s.port.configured ∧
      (rewashExit r s).port.mailbox = s.port.mailbox.put s.course.clock (.rackRewash r.seq r.entry r.temp) :=
  ⟨rfl, rfl, rfl, rfl, rfl⟩

theorem rewashExit_backlog (r : Rack) (s : State) : (rewashExit r s).backlog = s.backlog := by
  obtain ⟨hware, hbus, hstraps, hconf, -⟩ := rewashExit_fields r s
  exact backlog_of_same (wareActive_of_same hstraps hconf (congrArg Bus.link hbus)) (by rw [hware]) (by rw [hware])

theorem rewashExit_levelStands (h : t.levelStands s) (r : Rack) : (rewashExit r t).levelStands s := by
  unfold State.levelStands at h ⊢
  rwa [rewashExit_backlog, (rewashExit_fields r t).1]

/-- What a fault after a rewash leaves of the events that a level turned HIGH has. -/
theorem highEvents_of_same (hlevel : u.ware.levelHigh = t.ware.levelHigh) (hbacklog : u.backlog = t.backlog) (s : State) :
    u.highEvents s = t.highEvents s := by
  unfold State.highEvents
  rw [hlevel, hbacklog]

/-- R110: the oldest LOADED rack. -/
theorem rinseFirst_middle {l1 l2 : List Rack} {r : Rack} (temp : Option Int) (res : RackResult) (hr : r.rinsed = false)
    (hl : ∀ x ∈ l1, x.rinsed = true) : rinseFirst temp res (l1 ++ r :: l2) =
      l1 ++ { r with rinsed := true, temp := temp, result := some res } :: l2 := by
  induction l1 with
  | nil => simp [rinseFirst, hr]
  | cons x l1 ih =>
    obtain ⟨hx, hl⟩ := List.forall_mem_cons.mp hl
    rw [List.cons_append, rinseFirst, if_pos hx, ih hl]
    rfl

theorem verdict_clean_iff (s : State) : s.verdict = .clean ↔
    s.heat.zones[s.ware.rinseZone].age < 6 ∧ ∃ x, s.heat.zones[s.ware.rinseZone].temp = some x ∧ (s.ware.sanMin : Int) ≤ x := by
  unfold State.verdict
  rw [freshAtLeast_eq]
  cases s.heat.zones[s.ware.rinseZone].temp with
  | none => simp
  | some x => simp

end Edges

section Edges
variable {s : State}

/-- The state of an ENTRY edge before the backlog is evaluated. -/
def entered (s : State) : State :=
  mapWare (fun w => { w with racks := w.racks ++ [s.newRack], nextSeq := (w.nextSeq + 1) % 65536 }) s

/-- R109: an ENTRY edge with room. -/
theorem takeEntry_of_room (hactive : s.wareActive = true) (hroom : s.ware.racks.length < 24) :
    Leveled (entered s) (takeEntry s) := by
  have heq : takeEntry s = evalBacklog (entered s) := if_neg (by omega)
  exact heq ▸ leveled_evalBacklog hactive

theorem takeEntry_of_full (hfull : 24 ≤ s.ware.racks.length) : takeEntry s = faultConveyor .rackLost s := if_pos hfull

theorem takeEntry_mailbox (s : State) : (takeEntry s).port.mailbox = s.port.mailbox := by
  unfold takeEntry
  split
  · exact faultConveyor_port_mailbox _ _
  · exact (Reach.evalBacklog (fun _ hk => hk) .refl).mailbox_wares

theorem takeEntry_heldLow (hactive : s.wareActive = true) : (takeEntry s).ware.heldLow = s.ware.heldLow := by
  by_cases hroom : s.ware.racks.length < 24
  · rw [(takeEntry_of_room hactive hroom).ware]
    rfl
  · rw [takeEntry_of_full (by omega)]
    exact faultConveyor_ware_heldLow _ _

/-! ### RINSE -/

theorem takeRinse_of_loaded {l1 l2 : List Rack} {r : Rack} (hq : s.ware.racks = l1 ++ r :: l2) (hr : r.rinsed = false)
    (hl : ∀ x ∈ l1, x.rinsed = true) : takeRinse s = { s with ware := { s.ware with racks :=
      l1 ++ { r with rinsed := true, temp := s.heat.zones[s.ware.rinseZone].temp, result := some s.verdict } :: l2 } } := by
  have hnot : s.ware.racks.all (·.rinsed) = false := by
    rw [hq]
    simp [hr]
  have hfirst := rinseFirst_middle (l2 := l2) s.heat.zones[s.ware.rinseZone].temp s.verdict hr hl
  rw [← hq] at hfirst
  rw [← hfirst]
  exact if_neg (by rw [hnot]; exact Bool.false_ne_true)

theorem takeRinse_of_none (hall : ∀ x ∈ s.ware.racks, x.rinsed = true) : takeRinse s = faultConveyor .sensor s :=
  if_pos (List.all_eq_true.mpr hall)

theorem takeRinse_frame (s : State) :
    (takeRinse s).bus = s.bus ∧ (takeRinse s).page = s.page ∧ (takeRinse s).port.mailbox = s.port.mailbox := by
  unfold takeRinse
  split
  · exact ⟨faultConveyor_bus _ _, faultConveyor_page _ _, faultConveyor_port_mailbox _ _⟩
  · exact ⟨rfl, rfl, rfl⟩

/-! ### EXIT -/

/-- The state of an EXIT edge once the level has been evaluated. -/
def taken (rest : List Rack) (s : State) : State := evalBacklog (mapWare (fun w => { w with racks := rest }) s)

theorem taken_leveled (hactive : s.wareActive = true) (rest : List Rack) :
    Leveled (mapWare (fun w => { w with racks := rest }) s) (taken rest s) := leveled_evalBacklog hactive

theorem taken_counter {j : CounterName} (htxq : j ≠ .txqDrop) (hevents : j ≠ .eventsDropped) (rest : List Rack) (s : State) :
    (taken rest s).counter j = s.counter j :=
  ((Reach.evalBacklog (fun _ hk => hk) .refl).counter_wares htxq hevents).trans rfl

theorem taken_mailbox (rest : List Rack) (s : State) : (taken rest s).port.mailbox = s.port.mailbox :=
  ((Reach.evalBacklog (fun _ hk => hk) .refl).mailbox_wares).trans rfl

theorem takeExit_of_none (hq : s.ware.racks = []) :
    takeExit s = faultConveyor .untracked (makeReport .rackUntracked (mapWare (fun w => { w with heldLow := true }) s)) := by
  unfold takeExit
  rw [hq]

theorem takeExit_of_loaded {r : Rack} {rest : List Rack} (hq : s.ware.racks = r :: rest) (hr : r.rinsed = false) :
    takeExit s = faultConveyor .sensor (rewashExit { r with temp := none } (taken rest s)) := by
  unfold takeExit
  rw [hq]
  exact if_pos (by rw [hr]; rfl)

theorem takeExit_of_clean {r : Rack} {rest : List Rack} (hq : s.ware.racks = r :: rest) (hr : r.rinsed = true)
    (hclean : r.result = some .clean) : takeExit s = bump .racksClean (taken rest s) := by
  unfold takeExit
  rw [hq]
  exact (if_neg (by rw [hr]; exact Bool.false_ne_true)).trans (if_pos hclean)

theorem takeExit_of_rewash {r : Rack} {rest : List Rack} (hq : s.ware.racks = r :: rest) (hr : r.rinsed = true)
    (hclean : r.result ≠ some .clean) : takeExit s = rewashExit r (taken rest s) := by
  unfold takeExit
  rw [hq]
  exact (if_neg (by rw [hr]; exact Bool.false_ne_true)).trans (if_neg hclean)

/-- The racks and the next number after an EXIT edge. -/
theorem takeExit_racks (hactive : s.wareActive = true) :
    (takeExit s).ware.nextSeq = s.ware.nextSeq ∧ (takeExit s).ware.racks = s.ware.racks.tail := by
  cases hq : s.ware.racks with
  | nil =>
    rw [takeExit_of_none hq]
    exact ⟨faultConveyor_ware_nextSeq _ _, (faultConveyor_ware_racks _ _).trans hq⟩
  | cons r rest =>
    have hl := taken_leveled hactive rest
    have htaken : (taken rest s).ware.nextSeq = s.ware.nextSeq ∧ (taken rest s).ware.racks = rest := by
      rw [hl.ware]
      exact ⟨rfl, rfl⟩
    cases hr : r.rinsed with
    | false =>
      rw [takeExit_of_loaded hq hr]
      exact ⟨(faultConveyor_ware_nextSeq _ _).trans htaken.1, (faultConveyor_ware_racks _ _).trans htaken.2⟩
    | true =>
      by_cases hclean : r.result = some .clean
      · rw [takeExit_of_clean hq hr hclean]
        exact htaken
      · rw [takeExit_of_rewash hq hr hclean]
        exact htaken

/-- A rack that goes leaves the level as the rule gives, its event first. -/
theorem taken_stands (hactive : s.wareActive = true) {r : Rack} {rest : List Rack} (hq : s.ware.racks = r :: rest) :
    (taken rest s).levelStands s ∧ (taken rest s).queues s ((taken rest s).highEvents s) ∧
      (taken rest s).ware.conveyor = s.ware.conveyor ∧ (taken rest s).ware.subCause = s.ware.subCause ∧
      (taken rest s).ware.margin = s.ware.margin ∧ (taken rest s).ware.heldLow = s.ware.heldLow ∧
      (taken rest s).ware.rinseZone = s.ware.rinseZone := by
  have hl := taken_leveled hactive rest
  refine ⟨hl.stands, hl.events, ?_⟩
  rw [hl.ware]
  exact ⟨rfl, rfl, rfl, rfl, rfl⟩

end Edges

section Claims
variable {s : State}

theorem exec_entryEdge (hreset : s.inReset = false) (hactive : s.wareActive = true) : exec .entryEdge s = .next (takeEntry s) := by
  show unlessReset s _ = _
  rw [unlessReset_of_not_inReset hreset, if_pos hactive]

theorem exec_rinseEdge (hreset : s.inReset = false) (hactive : s.wareActive = true) : exec .rinseEdge s = .next (takeRinse s) := by
  show unlessReset s _ = _
  rw [unlessReset_of_not_inReset hreset, if_pos hactive]

theorem exec_exitEdge (hreset : s.inReset = false) (hactive : s.wareActive = true) : exec .exitEdge s = .next (takeExit s) := by
  show unlessReset s _ = _
  rw [unlessReset_of_not_inReset hreset, if_pos hactive]

end Claims

end Sys2Proof.Machine

namespace Sys2Proof.Proofs
open Sys2Proof.Machine

section Edges
variable {s : State}

/-- A rewash as it leaves: the claims of O54 that do not depend on whether the rack was LOADED. -/
theorem rewash_leaves (hactive : s.wareActive = true) {r : Rack} {rest : List Rack} (hq : s.ware.racks = r :: rest)
    (hbad : r.rinsed = false ∨ r.result ≠ some .clean) :
    (takeExit s).levelStands s ∧ (takeExit s).ware.heldLow = true ∧
      (takeExit s).port.mailbox = s.port.mailbox.put s.course.clock
        (.rackRewash r.seq r.entry (if r.rinsed then r.temp else none)) ∧
      (takeExit s).counter .racksRewash = (s.counter .racksRewash).bump ∧
      (takeExit s).counter .racksClean = s.counter .racksClean := by
  obtain ⟨hlevel, -⟩ := taken_stands hactive hq
  have hclock : (taken rest s).course.clock = s.course.clock := by rw [(taken_leveled hactive rest).beside.course]; rfl
  have hmail := taken_mailbox rest s
  have hrewash := taken_counter (j := .racksRewash) nofun nofun rest s
  have hclean := taken_counter (j := .racksClean) nofun nofun rest s
  cases hr : r.rinsed with
  | false =>
    rw [takeExit_of_loaded hq hr]
    generalize taken rest s = u at *
    obtain ⟨hware, -, -, -, hreport⟩ := rewashExit_fields { r with temp := none } u
    obtain ⟨hup, hstays⟩ := rewashExit_counter { r with temp := none } u
    refine ⟨levelStands_faultConveyor (rewashExit_levelStands hlevel _), ?_, ?_, ?_, ?_⟩
    · rw [faultConveyor_ware_heldLow, hware]
    · rw [faultConveyor_port_mailbox, hreport, hmail, hclock]
      rfl
    · rw [counter_faultConveyor (j := .racksRewash) nofun, hup, hrewash]
    · rw [counter_faultConveyor (j := .racksClean) nofun, hstays, hclean]
  | true =>
    rw [takeExit_of_rewash hq hr (hbad.resolve_left (by simp [hr]))]
    generalize taken rest s = u at *
    obtain ⟨hware, -, -, -, hreport⟩ := rewashExit_fields r u
    obtain ⟨hup, hstays⟩ := rewashExit_counter r u
    refine ⟨rewashExit_levelStands hlevel _, ?_, ?_, ?_, ?_⟩
    · rw [hware]
    · rw [hreport, hmail, hclock]
      rfl
    · rw [hup, hrewash]
    · rw [hstays, hclean]

/-- Settles O54. -/
theorem rackEdges : Obligations.RackEdges := by
  intro s hreset
  refine ⟨fun hidle => ?_, fun hactive => ?_⟩
  · have hno : ¬s.wareActive = true := by rw [hidle]; exact Bool.false_ne_true
    refine ⟨?_, ?_, ?_⟩
    all_goals
      show unlessReset s _ = _
      rw [unlessReset_of_not_inReset hreset, if_neg hno]
  intro q rinseFail
  have hbeside {t : State} (h : Reach rackWork s t) : t.heat = s.heat ∧ t.prog = s.prog := ⟨h.beside.heat, h.beside.prog⟩
  refine ⟨⟨_, exec_entryEdge hreset hactive, ?_, ?_, ?_, ?_, ?_, fun hroom => ?_, fun hfull => ?_⟩,
    ⟨_, exec_rinseEdge hreset hactive, ?_, ?_, ?_, ?_, ?_, ?_, fun l1 r l2 hq hr hl => ?_, fun hall => ?_⟩,
    ⟨_, exec_exitEdge hreset hactive, ?_, ?_, ?_, ?_, ?_, fun hq => ?_, fun r rest hq => ?_⟩⟩
  · exact settings_of_kept (takeEntry_kept s)
  · exact (hbeside (.takeEntry (fun _ hk => hk) hactive .refl)).1
  · exact (hbeside (.takeEntry (fun _ hk => hk) hactive .refl)).2
  · exact takeEntry_heldLow hactive
  · exact takeEntry_mailbox s
  · have hl := takeEntry_of_room hactive hroom
    have hstands : (takeEntry s).levelStands s := hl.stands
    have hevents : (takeEntry s).queues s ((takeEntry s).highEvents s) := hl.events
    have hware : (takeEntry s).ware.racks = q ++ [s.newRack] ∧ (takeEntry s).ware.nextSeq = (s.ware.nextSeq + 1) % 65536 ∧
        (takeEntry s).ware.conveyor = s.ware.conveyor := by
      rw [hl.ware]
      exact ⟨rfl, rfl, rfl⟩
    exact ⟨hware.1, hware.2.1, hware.2.2, hstands, hevents⟩
  · rw [takeEntry_of_full hfull]
    exact ⟨faultConveyor_ware_racks _ _, faultConveyor_ware_nextSeq _ _, faultedBy_faultConveyor _ s, queues_faultConveyor _ s⟩
  · exact settings_of_kept (takeRinse_kept s)
  · exact (hbeside (.takeRinse (fun _ hk => hk) hactive .refl)).1
  · exact (hbeside (.takeRinse (fun _ hk => hk) hactive .refl)).2
  · exact (takeRinse_frame s).1
  · exact (takeRinse_frame s).2.1
  · exact (takeRinse_frame s).2.2
  · intro zn clean
    have hclean := verdict_clean_iff s
    rw [takeRinse_of_loaded hq hr hl]
    refine ⟨_, rfl, rfl, fun h => congrArg some (hclean.mpr h), fun h => ?_, rfl⟩
    show some s.verdict = _
    cases hverdict : s.verdict with
    | clean => exact absurd (hclean.mp hverdict) h
    | rewash => rfl
  · rw [takeRinse_of_none hall]
    exact ⟨faultConveyor_ware_racks _ _, faultedBy_faultConveyor _ s, queues_faultConveyor _ s⟩
  · exact settings_of_kept (takeExit_kept s)
  · exact (hbeside (.takeExit (fun _ hk => hk) hactive .refl)).1
  · exact (hbeside (.takeExit (fun _ hk => hk) hactive .refl)).2
  · exact (takeExit_racks hactive).1
  · exact (takeExit_racks hactive).2
  · rw [takeExit_of_none hq]
    refine ⟨faultConveyor_ware_heldLow _ _, faultConveyor_port_mailbox _ _, faultedBy_faultConveyor _ _, ?_, ?_, ?_⟩
    · exact (queues_faultConveyor _ _).from_same rfl rfl
    · exact counter_faultConveyor nofun
    · exact counter_faultConveyor nofun
  · obtain ⟨hlevel, hhigh, hconveyor, hcause, hmargin, hheld, hzone⟩ := taken_stands hactive hq
    have hlink : (taken rest s).bus.link = s.bus.link := (taken_leveled hactive rest).beside.link
    by_cases hbad : r.rinsed = false ∨ r.result ≠ some .clean
    · obtain ⟨hstands, hlow, hmail, hrewash, hclean⟩ := rewash_leaves hactive hq hbad
      refine ⟨hstands, fun hr hres => ?_, fun _ => ⟨hlow, hmail, hrewash, hclean, fun hr => ?_, fun hr => ?_⟩⟩
      · exact absurd hbad (by simp [hr, hres])
      · rw [takeExit_of_rewash hq hr (hbad.resolve_left (by simp [hr]))]
        have hexit := rewashExit_queues r (taken rest s)
        generalize taken rest s = u at *
        obtain ⟨hware, hbus, -⟩ := rewashExit_fields r u
        rw [hzone] at hexit
        rw [highEvents_of_same (by rw [hware]) (rewashExit_backlog r u), hware]
        exact ⟨hconveyor, hhigh.trans hlink hexit⟩
      · rw [takeExit_of_loaded hq hr]
        have hexit := rewashExit_queues { r with temp := none } (taken rest s)
        generalize taken rest s = u at *
        obtain ⟨hware, hbus, -⟩ := rewashExit_fields { r with temp := none } u
        have hbacklog := rewashExit_backlog { r with temp := none } u
        rw [hzone] at hexit
        generalize rewashExit { r with temp := none } u = v at *
        have hconveyor' : v.ware.conveyor = s.ware.conveyor := (congrArg Ware.conveyor hware).trans hconveyor
        have hfault := queues_faultConveyor .sensor v
        rw [anomalyEvents_of_ware hconveyor'] at hfault
        have hevents : (faultConveyor .sensor v).highEvents s = u.highEvents s :=
          highEvents_of_same ((faultConveyor_ware_levelHigh _ v).trans (by rw [hware]))
            ((faultConveyor_backlog _ v).trans hbacklog) s
        rw [hevents]
        refine ⟨faultedBy_of_ware (faultedBy_faultConveyor _ v) hconveyor' ((congrArg Ware.subCause hware).trans hcause)
          ((congrArg Ware.margin hware).trans hmargin), ?_⟩
        exact (hhigh.trans hlink hexit).trans ((congrArg Bus.link hbus).trans hlink) hfault
    · have hr : r.rinsed = true := by simpa using fun h => hbad (.inl h)
      have hres : r.result = some .clean := by_contra fun h => hbad (.inr h)
      rw [takeExit_of_clean hq hr hres]
      refine ⟨hlevel, fun _ _ => ⟨hheld, taken_mailbox rest s, hconveyor, hhigh, ?_, ?_⟩, fun h => absurd h hbad⟩
      · rw [State.counter_bump, taken_counter (j := .racksClean) nofun nofun]
      · rw [counter_bump_other (j := .racksRewash) (k := .racksClean) nofun, taken_counter (j := .racksRewash) nofun nofun]

end Edges

end Sys2Proof.Proofs

/-! DWELL_FAULT, WARE_REPEAT and a WARE heard (R117, R121, R122): O55. -/

namespace Sys2Proof.Machine

section Moments
variable {s t : State}

theorem brinkDwell_iff (s : State) : s.brinkDwell = true ↔
    s.ware.conveyor = .running ∧ ∃ r rest, s.ware.racks = r :: rest ∧ s.ware.maxDwell < r.running + 1 := by
  unfold State.brinkDwell
  cases s.ware.racks with
  | nil => simp
  | cons r rest => simp

/-- R117: a dwell that is due faults the conveyor. -/
theorem tickDwell_of_due (hrun : s.ware.conveyor = .running) {r : Rack} {rest : List Rack} (hq : s.ware.racks = r :: rest)
    (hdue : s.ware.maxDwell < r.running) : tickDwell s = faultConveyor .dwell s := by
  unfold tickDwell
  rw [hq]
  exact if_pos ⟨hrun, hdue⟩

theorem tickRacks_of_running (hrun : s.ware.conveyor = .running) : tickRacks s =
    mapWare (fun w => { w with racks := w.racks.map fun r => { r with running := min 65535 (r.running + 1) } }) s :=
  if_pos hrun

/-- R76, R77: a notice that the receiver takes acts once it is counted. -/
theorem hearing_of_takes {n : Notice} (h : s.takesNotice n) (act : State → State) :
    unlessReset s (hearing n act) = .next (act (s.counted n)) := by
  obtain ⟨hreset, hhears, hmark, haccess, hrepeat⟩ := h
  have haccepts : s.accepts = true := by simp [State.accepts, State.takes, hhears, hmark, haccess]
  rw [unlessReset_of_not_inReset hreset]
  unfold hearing
  rw [haccepts, hrepeat]
  rfl

theorem conveyor_ofCode {n : Nat} (h : n ≤ 3) : ∃ c : Conveyor, Conveyor.ofCode n = some c ∧ c.code = n := by
  interval_cases n
  · exact ⟨_, rfl, rfl⟩
  · exact ⟨_, rfl, rfl⟩
  · exact ⟨_, rfl, rfl⟩
  · exact ⟨_, rfl, rfl⟩

theorem conveyor_ofCode_eq_none {n : Nat} (h : 3 < n) : Conveyor.ofCode n = none := by
  match n, h with
  | n + 4, _ => rfl

/-- R122: the view noted by a station stands for every other. -/
theorem mem_noteWash_other {e x : WashEntry} (hne : x.station ≠ e.station) (l : List WashEntry) : x ∈ noteWash e l ↔ x ∈ l := by
  unfold noteWash
  split
  · simp only [List.mem_map]
    constructor
    · rintro ⟨y, hy, rfl⟩
      by_cases hst : y.station = e.station
      · exact absurd (congrArg WashEntry.station (if_pos hst)) hne
      · rwa [if_neg hst]
    · exact fun hx => ⟨x, hx, if_neg hne⟩
  · split
    · simp only [List.mem_append, List.mem_cons, List.mem_filter, decide_eq_true_eq]
      have hx : x ≠ e := fun h => hne (congrArg WashEntry.station h)
      constructor
      · rintro (h | h | h)
        · exact h.1
        · exact absurd h hx
        · exact h.1
      · intro h
        rcases lt_or_gt_of_ne hne with hlt | hgt
        · exact .inl ⟨h, hlt⟩
        · exact .inr (.inr ⟨h, hgt⟩)
    · rfl

theorem mem_noteWash_self {e : WashEntry} {l : List WashEntry} (h : l.any (·.station == e.station) = true ∨ l.length < 4) :
    e ∈ noteWash e l := by
  unfold noteWash
  split
  next hany =>
    obtain ⟨x, hx, hst⟩ := List.any_eq_true.mp hany
    exact List.mem_map.mpr ⟨x, hx, if_pos (by simpa using hst)⟩
  next hnone =>
    rw [if_pos (h.resolve_left hnone)]
    exact List.mem_append_right _ (List.mem_cons_self ..)

theorem noteWash_of_full {e : WashEntry} {l : List WashEntry} (hnone : l.any (·.station == e.station) = false)
    (hfull : 4 ≤ l.length) : noteWash e l = l := by
  unfold noteWash
  rw [hnone, if_neg Bool.false_ne_true, if_neg (by omega)]

/-- R123: the wash view changed. -/
theorem mapWash_fields (f : List WashEntry → List WashEntry) (s : State) :
    (mapWash f s).ware = { s.ware with wash := f s.ware.wash } ∧ Beside s (mapWash f s) :=
  ⟨watchBacklog_ware _ s, Beside.trans (t := mapWare (fun w => { w with wash := f w.wash }) s)
    ⟨rfl, rfl, rfl, rfl, rfl, rfl, rfl, rfl, rfl, rfl, rfl, rfl⟩ (beside_watchBacklog _ s)⟩

theorem takeWareNotice_ignored {sender : Station} {level : Byte} {backlog : Half} {conveyor : Byte}
    (h : sender = 0 ∨ sender = s.own ∨ 1 < level.toNat ∨ 3 < conveyor.toNat) :
    takeWareNotice sender level backlog conveyor s = s := by
  unfold takeWareNotice
  split
  next hcode hlevel =>
    refine if_pos ?_
    rcases h with h | h | h | h
    · exact .inl h
    · exact .inr h
    · omega
    · rw [conveyor_ofCode_eq_none h] at hcode
      cases hcode
  next hcode hlevel =>
    refine if_pos ?_
    rcases h with h | h | h | h
    · exact .inl h
    · exact .inr h
    · omega
    · rw [conveyor_ofCode_eq_none h] at hcode
      cases hcode
  · rfl

theorem takeWareNotice_normal {sender : Station} {level : Byte} {backlog : Half} {conveyor : Byte} {c : Conveyor}
    (hc : Conveyor.ofCode conveyor.toNat = some c) (hlevel : level.toNat = 0) (hzero : sender ≠ 0) (hown : sender ≠ s.own) :
    takeWareNotice sender level backlog conveyor s = mapWash (dropWash sender) s := by
  unfold takeWareNotice
  rw [hc, hlevel]
  exact if_neg (by simp [hzero, hown])

theorem takeWareNotice_high {sender : Station} {level : Byte} {backlog : Half} {conveyor : Byte} {c : Conveyor}
    (hc : Conveyor.ofCode conveyor.toNat = some c) (hlevel : level.toNat = 1) (hzero : sender ≠ 0) (hown : sender ≠ s.own) :
    takeWareNotice sender level backlog conveyor s =
      mapWash (noteWash { station := sender, backlog := min 999 backlog.toNat, conveyor := c, age := 0 }) s := by
  unfold takeWareNotice
  rw [hc, hlevel]
  exact if_neg (by simp [hzero, hown])

end Moments

end Sys2Proof.Machine

namespace Sys2Proof.Proofs
open Sys2Proof.Machine

/-- Settles O55. -/
theorem wareMoments : Obligations.WareMoments := by
  refine ⟨fun s hreset => ?_, fun sender seq level backlog conveyor s => ?_⟩
  · intro due
    have hbrink := brinkDwell_iff s
    refine ⟨fun hnot => ?_, fun hdue hmax => ?_, ?_⟩
    · show unlessReset s _ = _
      rw [unlessReset_of_not_inReset hreset, if_neg (mt hbrink.mp hnot)]
    · obtain ⟨hrun, r, rest, hq, hdwell⟩ := id hdue
      have hracks : (tickRacks s).ware.racks = { r with running := min 65535 (r.running + 1) } ::
          rest.map fun r => { r with running := min 65535 (r.running + 1) } := by
        rw [tickRacks_of_running hrun]
        simp [mapWare, hq]
      have hlate : (tickRacks s).ware.maxDwell < min 65535 (r.running + 1) := by
        rw [tickRacks_of_running hrun]
        show s.ware.maxDwell < _
        omega
      have hstill : (tickRacks s).ware.conveyor = .running := by
        rw [tickRacks_of_running hrun]
        exact hrun
      have hexec : exec .dwellFault s = .next (faultConveyor .dwell (tickRacks s)) := by
        show unlessReset s _ = _
        rw [unlessReset_of_not_inReset hreset, if_pos (hbrink.mpr hdue), tickDwell_of_due hstill hracks hlate]
      refine ⟨_, hexec, ?_, ?_, ?_, ?_, ?_⟩
      · exact settings_of_kept ((faultConveyor_kept _ _).trans (tickRacks_kept s))
      all_goals rw [tickRacks_of_running hrun]
      · exact faultedBy_of_ware (faultedBy_faultConveyor _ _) rfl rfl rfl
      · exact (queues_faultConveyor _ _).from_same rfl rfl
      · exact faultConveyor_ware_racks _ _
      · exact ⟨faultConveyor_heat _ _, faultConveyor_prog _ _, faultConveyor_load _ _, faultConveyor_bus _ _,
          faultConveyor_course _ _, faultConveyor_page _ _⟩
    · intro hands
      have hguard : (s.wareActive && s.bus.link.sends && decide (9 ≤ s.ware.repeatCount)) = true ↔ hands := by
        simp [hands, and_assoc]
      refine ⟨fun hnot => ?_, fun hhands => ?_⟩
      · show unlessReset s _ = _
        rw [unlessReset_of_not_inReset hreset, if_neg (mt hguard.mp hnot)]
      · have hexec : exec .wareRepeat s = .next (handWare s) := by
          show unlessReset s _ = _
          rw [unlessReset_of_not_inReset hreset, if_pos (hguard.mpr hhands)]
        refine ⟨_, hexec, settings_of_kept (handWare_kept s), hand_ware _ _, hand_course _ _, hand_heat _ _, fun hroom => ?_⟩
        obtain ⟨e, he, hwaiting, hbody⟩ :=
          hand_waits (s := mapWare (fun w => { w with repeatCount := 0 }) s) (b := s.wareNotice) hhands.2.1 hroom
        refine ⟨e, he, hwaiting, hbody.trans ?_⟩
        unfold State.wareNotice flagByte
        cases s.ware.conveyor <;> rfl
  · intro n cmd others htakes
    have hexec : exec cmd s = .next (takeWareNotice sender level backlog conveyor (s.counted n)) := hearing_of_takes htakes _
    refine ⟨fun hignored => ?_, fun hzero hown hconveyor hlevel => ?_⟩
    · rw [hexec, takeWareNotice_ignored (s := s.counted n) hignored]
    · obtain ⟨c, hc, hcode⟩ := conveyor_ofCode hconveyor
      have hsettings := settings_of_kept (takeWareNotice_kept sender level backlog conveyor (s.counted n))
      refine ⟨_, hexec, hsettings, ?_⟩
      have hcases : level.toNat = 0 ∨ level.toNat = 1 := by omega
      rcases hcases with hnormal | hhigh
      · rw [takeWareNotice_normal (s := s.counted n) hc hnormal hzero hown]
        obtain ⟨hware, hbeside⟩ := mapWash_fields (dropWash sender) (s.counted n)
        have hone : level ≠ 1 := fun h => by rw [h] at hnormal; cases hnormal
        rw [hware]
        refine ⟨rfl, hbeside.course, hbeside.heat, hbeside.load, fun e he => ?_, fun _ => rfl, fun h => absurd h hone,
          fun h => absurd h hone⟩
        show e ∈ dropWash sender s.ware.wash ↔ e ∈ s.ware.wash
        simp [dropWash, he]
      · rw [takeWareNotice_high (s := s.counted n) hc hhigh hzero hown]
        obtain ⟨hware, hbeside⟩ := mapWash_fields
          (noteWash { station := sender, backlog := min 999 backlog.toNat, conveyor := c, age := 0 }) (s.counted n)
        have hnil : level ≠ 0 := fun h => by rw [h] at hhigh; cases hhigh
        rw [hware]
        refine ⟨rfl, hbeside.course, hbeside.heat, hbeside.load, fun e he => mem_noteWash_other he _, fun h => absurd h hnil,
          fun _ hroom => ⟨_, mem_noteWash_self hroom, rfl, rfl, rfl, hcode⟩, fun _ hothers hfull => noteWash_of_full ?_ hfull⟩
        show s.ware.wash.any (·.station == sender) = false
        rw [List.any_eq_false]
        intro e he
        have hmem : e ∈ others := hothers ▸ he
        simpa [others] using (List.mem_filter.mp hmem).2

end Sys2Proof.Proofs

/-! PAGE: a page request merged, made, evicting or refused (R143–R146): O58. -/

namespace Sys2Proof.Machine

/-- A search through the priorities from the lowest on. -/
theorem findSome_rising {α : Type} {f : Nat → Option α} {p : Nat} {x : α} (hrange : 1 ≤ p ∧ p ≤ 7) (hlower : ∀ k < p, f k = none)
    (hown : f p = some x) : [1, 2, 3, 4, 5, 6, 7].findSome? f = some x := by
  obtain ⟨hlow, hhigh⟩ := hrange
  interval_cases p <;> simp [List.findSome?_cons, hown, hlower]

/-- A search through the priorities from the highest on. -/
theorem findSome_falling {α : Type} {f : Nat → Option α} {p : Nat} {x : α} (hrange : 1 ≤ p ∧ p ≤ 7) (hhigher : ∀ k > p, f k = none)
    (hown : f p = some x) : [7, 6, 5, 4, 3, 2, 1].findSome? f = some x := by
  obtain ⟨hlow, hhigh⟩ := hrange
  interval_cases p <;> simp [List.findSome?_cons, hown, hhigher]

section Pages
variable {s t : State} {n pr : Nat} {p : Page}

/-- A page offered changes in its current notice at most, and so does any other. -/
theorem offerPage_map (n : Nat) (s : State) : ∃ f : Page → Page,
    (offerPage n s).page.pages = s.page.pages.map f ∧ ∀ p, f p = { p with current := (f p).current } := by
  obtain ⟨⟨c, hpages | ⟨v, -, -, hpages⟩⟩, -⟩ := offerPage_pages n s
  · refine ⟨_, hpages, fun p => ?_⟩
    split <;> rfl
  · refine ⟨_, hpages, fun p => ?_⟩
    split
    · rfl
    · exact unlinked_eq _ _

/-- What a change of one page does: the page of the number becomes what is given, but for its state, timer and current notice, and
any other changes in its current notice at most. -/
def Repaged (n : Nat) (g : Page → Page) (s t : State) : Prop :=
  ∃ f : Page → Page, t.page.pages = s.page.pages.map f ∧ ∀ p,
    (p.number = n → f p = { g p with state := (f p).state, timer := (f p).timer, current := (f p).current }) ∧
    (p.number ≠ n → f p = { p with current := (f p).current })

theorem Repaged.numbers {g : Page → Page} (hg : ∀ p, (g p).number = p.number) (h : Repaged n g s t) :
    t.page.pages.map (·.number) = s.page.pages.map (·.number) := by
  obtain ⟨f, hf, hfp⟩ := h
  rw [hf, List.map_map]
  refine List.map_congr_left fun p _ => ?_
  by_cases hp : p.number = n
  · show (f p).number = p.number
    rw [(hfp p).1 hp]
    exact hg p
  · show (f p).number = p.number
    rw [(hfp p).2 hp]

theorem pageOf_of_mem (hnumbers : (s.page.pages.map (·.number)).Nodup) (hp : p ∈ s.page.pages) : s.pageOf p.number = some p := by
  unfold State.pageOf
  cases hfind : s.page.pages.find? (·.number == p.number) with
  | none =>
    have := List.find?_eq_none.mp hfind p hp
    simp at this
  | some q =>
    have hnumber : q.number = p.number := by simpa using List.find?_some hfind
    rw [List.inj_on_of_nodup_map hnumbers (List.mem_of_find?_eq_some hfind) hp hnumber]

/-- R143: the page after its priority has risen: the priority the higher of the two, the state kept but where a WAITING page has
become QUEUED. -/
theorem raisePriority_page (hpage : s.pageOf n = some p) : ∃ f : Page → Page,
    (raisePriority n pr s).page.pages = s.page.pages.map f ∧
      (∀ q, (f q).number = q.number) ∧ (p.number = n → f p = { p with
        priority := max p.priority pr, state := (f p).state, timer := (f p).timer, current := (f p).current } ∧
      (p.state ≠ .waiting → (f p).state = p.state)) := by
  have hraised : ∃ f : Page → Page, (mapPage n (fun x => { x with priority := pr }) s).page.pages = s.page.pages.map f ∧
      (∀ q, (f q).number = q.number) ∧ (p.number = n → f p = { p with priority := pr }) :=
    ⟨fun q => if q.number = n then { q with priority := pr } else q, rfl, fun q => by dsimp only; split <;> rfl,
      fun hn => if_pos hn⟩
  obtain ⟨f, hf, hnumber, hfp⟩ := hraised
  unfold raisePriority
  rw [hpage]
  dsimp only
  split
  next hlt =>
    have hmax : max p.priority pr = pr := by omega
    rw [hmax]
    have hplain : ∃ f : Page → Page, (mapPage n (fun x => { x with priority := pr }) s).page.pages = s.page.pages.map f ∧
        (∀ q, (f q).number = q.number) ∧ (p.number = n → f p = { p with
          priority := pr, state := (f p).state, timer := (f p).timer, current := (f p).current } ∧
        (p.state ≠ .waiting → (f p).state = p.state)) :=
      ⟨f, hf, hnumber, fun hn => ⟨by rw [hfp hn], fun _ => by rw [hfp hn]⟩⟩
    split
    next hstate =>
      split
      · obtain ⟨⟨g, hg, hgp⟩, -⟩ := requeued_queuePage n (mapPage n (fun x => { x with priority := pr }) s)
        refine ⟨g ∘ f, by rw [hg, hf, List.map_map], fun q => ?_, fun hn => ⟨?_, fun h => absurd hstate h⟩⟩
        · rw [Function.comp_apply, ← hnumber q]
          by_cases hq : (f q).number ∈ [n]
          · rw [(hgp _).1 hq]
          · rw [((hgp _).2 hq).1]
        · have hin : (f p).number ∈ [n] := by rw [hnumber, hn]; exact List.mem_singleton_self n
          have hgf := (hgp (f p)).1 hin
          rw [hfp hn] at hgf
          rw [Function.comp_apply, hfp hn, hgf]
      · exact hplain
    next hstate =>
      split
      · obtain ⟨g, hg, hgp⟩ := offerPage_map n (mapPage n (fun x => { x with priority := pr }) s)
        refine ⟨g ∘ f, by rw [hg, hf, List.map_map], fun q => ?_, fun hn => ?_⟩
        · rw [Function.comp_apply, ← hnumber q, hgp]
        · have hgf := hgp (f p)
          rw [hfp hn] at hgf
          rw [Function.comp_apply, hfp hn, hgf]
          exact ⟨rfl, fun _ => rfl⟩
      · exact hplain
    · exact hplain
    · exact hplain
  next hge =>
    have hmax : max p.priority pr = p.priority := by omega
    rw [hmax]
    exact ⟨id, by simp, fun q => rfl, fun _ => ⟨rfl, fun _ => rfl⟩⟩

/-- A priority that rises counts no page made. -/
theorem raisePriority_counter {j : CounterName} (hj : j ≠ .txqDrop) (n pr : Nat) (s : State) :
    (raisePriority n pr s).counter j = s.counter j := by
  have hreach : Reach (fun k => pages k ∨ k = .request pr) s (raisePriority n pr s) :=
    Reach.raisePriority (fun _ hk => .inl hk) (Reach.requestPriority (.inr rfl) .refl) .refl
  refine hreach.same (g := fun s => s.counter j) fun hk hmove => ?_
  rcases hk with hk | rfl
  · cases hmove
    case take => exact takeNotice_counter _ _ hj
    case page => rfl
    all_goals exact hk.elim
  · cases hmove
    rfl

/-! ### Evictions (R144) -/

theorem evictable_eq_some {l1 l2 : List Page} {v : Page} (hstate : v.state ≠ .sent) (hrange : 1 ≤ v.priority ∧ v.priority ≤ 7)
    (hbefore : ∀ x ∈ l1, x.state ≠ .sent → v.priority < x.priority)
    (hafter : ∀ x ∈ l2, x.state ≠ .sent → v.priority ≤ x.priority) : evictable (l1 ++ v :: l2) = some v := by
  have hlower (k : Nat) (hk : k < v.priority) : (l1 ++ v :: l2).find? (fun p => p.state != .sent && p.priority == k) = none := by
    refine List.find?_eq_none.mpr fun x hx hmatch => ?_
    simp only [Bool.and_eq_true, bne_iff_ne, beq_iff_eq] at hmatch
    rcases List.mem_append.mp hx with hx | hx
    · have := hbefore x hx hmatch.1
      omega
    · rcases List.mem_cons.mp hx with rfl | hx
      · omega
      · have := hafter x hx hmatch.1
        omega
  have hown : (l1 ++ v :: l2).find? (fun p => p.state != .sent && p.priority == v.priority) = some v := by
    rw [List.find?_append, List.find?_eq_none.mpr, Option.none_or, List.find?_cons_of_pos]
    · simp [hstate]
    · intro x hx hmatch
      simp only [Bool.and_eq_true, bne_iff_ne, beq_iff_eq] at hmatch
      have := hbefore x hx hmatch.1
      omega
  exact findSome_rising hrange hlower hown

theorem evictable_state {l : List Page} {v : Page} (h : evictable l = some v) : v.state ≠ .sent := by
  obtain ⟨k, -, hfind⟩ := List.exists_of_findSome?_eq_some h
  have := List.find?_some hfind
  simp only [Bool.and_eq_true, bne_iff_ne] at this
  exact this.1

/-! ### A page made (R142, R144) -/

/-- R144: the page of a request as it is made. -/
def State.madePage (s : State) (r : PageRequest) : Page :=
  { number := s.page.freshNumber, attempt := 0, group := r.group, priority := r.priority, code := r.code, course := r.course,
    defer := r.defer, expiredOrigin := r.expiredOrigin, state := s.madeState r, timer := 0, current := none }

theorem withMade_pages (s : State) (r : PageRequest) : (s.withMade r).pages = s.page.pages ++ [s.madePage r] := rfl

/-- R144: the queue with the page of a request. -/
theorem makePage_made (r : PageRequest) (hnext : 1 ≤ s.page.next ∧ s.page.next ≤ 255) (hroom : s.page.pages.length < 255) :
    (makePage r s).counter .pagesMade = (s.counter .pagesMade).bump ∧
    (makePage r s).counter .pagesDropped = s.counter .pagesDropped ∧
    ∃ y, (makePage r s).page.pages.map (·.number) = s.page.pages.map (·.number) ++ [y.number] ∧ y ∈ (makePage r s).page.pages ∧
      (1 ≤ y.number ∧ y.number ≤ 255) ∧ (∀ x ∈ s.page.pages, x.number ≠ y.number) ∧
      y = { number := y.number, attempt := 0, group := r.group, priority := r.priority, code := r.code, course := r.course,
            defer := r.defer, expiredOrigin := r.expiredOrigin, state := s.madeState r, timer := 0, current := y.current } := by
  obtain ⟨hrange, hfree⟩ := freshNumber_fresh hnext hroom
  have hother : (bump .pagesMade { s with page := s.withMade r }).counter .pagesDropped = s.counter .pagesDropped :=
    counter_bump_other (j := .pagesDropped) (k := .pagesMade) nofun { s with page := s.withMade r }
  have hbump : (bump .pagesMade { s with page := s.withMade r }).counter .pagesMade = (s.counter .pagesMade).bump :=
    State.counter_bump .pagesMade { s with page := s.withMade r }
  rw [makePage_eq]
  split
  · have hreach : Reach wares _ (offerPage s.page.freshNumber (bump .pagesMade { s with page := s.withMade r })) :=
      Reach.offerPage (wares_admits_pages fun _ hk => hk) _ .refl
    obtain ⟨f, hf, hfp⟩ := offerPage_map s.page.freshNumber (bump .pagesMade { s with page := s.withMade r })
    have hpages : (bump .pagesMade { s with page := s.withMade r }).page.pages = (s.withMade r).pages := rfl
    rw [hpages, withMade_pages, List.map_append, List.map_singleton] at hf
    refine ⟨(hreach.counter_wares (j := .pagesMade) nofun nofun).trans hbump,
      (hreach.counter_wares (j := .pagesDropped) nofun nofun).trans hother, ?_⟩
    have hnumber (p : Page) : (f p).number = p.number := by rw [hfp p]
    refine ⟨f (s.madePage r), ?_, ?_, ?_, ?_, ?_⟩
    · rw [hf, List.map_append, List.map_singleton, List.map_map]
      exact congrArg₂ _ (List.map_congr_left fun p _ => hnumber p) rfl
    · rw [hf]
      exact List.mem_append_right _ (List.mem_singleton_self _)
    · rw [hnumber]
      exact hrange
    · rw [hnumber]
      exact hfree
    · rw [hfp]
      rfl
  · refine ⟨hbump, hother, s.madePage r, ?_, ?_, hrange, hfree, rfl⟩
    · show (s.withMade r).pages.map _ = _
      rw [withMade_pages, List.map_append]
      rfl
    · show s.madePage r ∈ (s.withMade r).pages
      rw [withMade_pages]
      exact List.mem_append_right _ (List.mem_singleton_self _)

end Pages

end Sys2Proof.Machine

namespace Sys2Proof.Machine

section Requests
variable {s : State} {r : PageRequest} {p v : Page}

theorem answersTo_iff (p : Page) (r : PageRequest) :
    p.answersTo r.group r.code r.course = true ↔ p.group = r.group ∧ p.code = r.code ∧ p.course = r.course := by
  simp [Page.answersTo, and_assoc]

/-- R143: at most one page answers to a request. -/
theorem find_answersTo (hcalls : (s.page.pages.map fun p => (p.group, p.code, p.course)).Nodup) (hp : p ∈ s.page.pages)
    (hmatch : p.answersTo r.group r.code r.course = true) :
    s.page.pages.find? (·.answersTo r.group r.code r.course) = some p := by
  cases hfind : s.page.pages.find? (·.answersTo r.group r.code r.course) with
  | none => exact absurd hmatch (List.find?_eq_none.mp hfind p hp)
  | some q =>
    obtain ⟨hg, hc, hco⟩ := (answersTo_iff p r).mp hmatch
    obtain ⟨hg', hc', hco'⟩ := (answersTo_iff q r).mp (List.find?_some (p := fun x => Page.answersTo x r.group r.code r.course) hfind)
    have hsame : (q.group, q.code, q.course) = (p.group, p.code, p.course) := by rw [hg, hc, hco, hg', hc', hco']
    rw [List.inj_on_of_nodup_map hcalls (List.mem_of_find?_eq_some hfind) hp hsame]

theorem requestPage_merged (htakes : s.bus.link.takesEvents = true)
    (hfind : s.page.pages.find? (·.answersTo r.group r.code r.course) = some p) :
    requestPage r s = raisePriority p.number r.priority s := by
  unfold requestPage
  rw [htakes, hfind]
  rfl

theorem requestPage_made (htakes : s.bus.link.takesEvents = true)
    (hfind : s.page.pages.find? (·.answersTo r.group r.code r.course) = none) (hroom : s.page.pages.length < 16) :
    requestPage r s = makePage r s := by
  unfold requestPage
  rw [htakes, hfind]
  exact if_pos hroom

theorem requestPage_evicting (htakes : s.bus.link.takesEvents = true)
    (hfind : s.page.pages.find? (·.answersTo r.group r.code r.course) = none) (hfull : 16 ≤ s.page.pages.length)
    (hv : evictable s.page.pages = some v) (hlt : v.priority < r.priority) :
    requestPage r s = makePage r (bump .pagesDropped (removePage v.number s)) := by
  unfold requestPage
  rw [htakes, hfind]
  dsimp only
  rw [Bool.not_true, if_neg Bool.false_ne_true, if_neg (by omega), hv]
  exact if_pos hlt

theorem requestPage_refused (htakes : s.bus.link.takesEvents = true)
    (hfind : s.page.pages.find? (·.answersTo r.group r.code r.course) = none) (hfull : 16 ≤ s.page.pages.length)
    (hnone : ∀ v, evictable s.page.pages = some v → r.priority ≤ v.priority) : requestPage r s = bump .pagesDropped s := by
  unfold requestPage
  rw [htakes, hfind]
  dsimp only
  rw [Bool.not_true, if_neg Bool.false_ne_true, if_neg (by omega)]
  cases hv : evictable s.page.pages with
  | none => rfl
  | some v =>
    have := hnone v hv
    exact if_neg (by omega)

/-- R145: whether a request is merged or makes a page. -/
theorem takesRequest_of_page (hp : p ∈ s.page.pages) (hmatch : p.answersTo r.group r.code r.course = true) :
    s.takesRequest r = true := by
  unfold State.takesRequest
  rw [Bool.or_eq_true]
  exact .inl (List.any_eq_true.mpr ⟨p, hp, hmatch⟩)

theorem takesRequest_of_makes (hmakes : s.makesPage r = true) : s.takesRequest r = true := by
  unfold State.takesRequest
  rw [hmakes, Bool.or_true]

theorem makesPage_of_room (hroom : s.page.pages.length < 16) : s.makesPage r = true := by
  unfold State.makesPage
  rw [decide_eq_true hroom, Bool.true_or]

theorem makesPage_of_evicts (hv : evictable s.page.pages = some v) (hlt : v.priority < r.priority) : s.makesPage r = true := by
  unfold State.makesPage
  rw [hv]
  simp [hlt]

theorem not_takesRequest (hfind : s.page.pages.find? (·.answersTo r.group r.code r.course) = none)
    (hfull : 16 ≤ s.page.pages.length) (hnone : ∀ v, evictable s.page.pages = some v → r.priority ≤ v.priority) :
    s.takesRequest r = false := by
  have hany : s.page.pages.any (·.answersTo r.group r.code r.course) = false :=
    List.any_eq_false.mpr fun x hx => List.find?_eq_none.mp hfind x hx
  unfold State.takesRequest State.makesPage
  rw [hany, decide_eq_false (by omega), Bool.false_or, Bool.false_or]
  cases hv : evictable s.page.pages with
  | none => rfl
  | some v => exact decide_eq_false (by have := hnone v hv; omega)

end Requests

end Sys2Proof.Machine

namespace Sys2Proof.Proofs
open Sys2Proof.Machine

/-- Settles O58. -/
theorem pageRequests : Obligations.PageRequests := by
  intro p s hup hlen hsafe pr same bad leaving q
  have hok : (p.length == 5) = true := by simp [hlen]
  refine ⟨fun hbad => ?_, fun hgood hleaving => ?_, fun hgood hstays => ?_⟩
  · refine exec_refused hup.1 hok (.inr hup.2) ?_
    by_cases hgroup : 31 < byteAt p 0
    · rw [groupOf_eq_none hgroup]
    · obtain ⟨g, hg⟩ : ∃ g : GroupNo, byteAt p 0 = g.val := ⟨⟨byteAt p 0, by omega⟩, rfl⟩
      rw [groupOf_of_eq hg]
      exact if_pos (hbad.resolve_left hgroup)
  all_goals
    simp only [bad, not_or, Nat.not_lt] at hgood
    obtain ⟨hgroup, hcourse⟩ := hgood
    obtain ⟨g, hg⟩ : ∃ g : GroupNo, byteAt p 0 = g.val := ⟨⟨byteAt p 0, by omega⟩, rfl⟩
  · refine exec_refused hup.1 hok (.inr hup.2) ?_
    have htakes : s.bus.link.takesEvents = false := by rcases hleaving with h | h <;> rw [h] <;> rfl
    rw [groupOf_of_eq hg]
    dsimp only
    rw [if_neg (by omega), htakes]
    rfl
  have htakes : s.bus.link.takesEvents = true := by
    simp only [leaving, not_or] at hstays
    revert hstays
    cases s.bus.link <;> simp [LinkState.takesEvents]
  let r := pageRequestOf g p
  have hact : (match groupOf (byteAt p 0) with
      | none => (s, Result.invalid)
      | some g =>
        if 15 < byteAt p 3 then (s, .invalid)
        else if !s.bus.link.takesEvents then (s, .refusedState)
        else (requestPage (pageRequestOf g p) s, if s.takesRequest (pageRequestOf g p) then .ok else .full)) =
      (requestPage r s, if s.takesRequest r then .ok else .full) := by
    rw [groupOf_of_eq hg]
    dsimp only
    rw [if_neg (by omega), htakes]
    rfl
  have hexec := unlessReset_writeFrame hup.1 hok (.inr hup.2) (before := false) fun s =>
    (match groupOf (byteAt p 0) with
      | none => (s, Result.invalid)
      | some g =>
        if 15 < byteAt p 3 then (s, .invalid)
        else if !s.bus.link.takesEvents then (s, .refusedState)
        else (requestPage (pageRequestOf g p) s, if s.takesRequest (pageRequestOf g p) then .ok else .full))
  rw [hact] at hexec
  have hreach : Reach (requests r.priority) s (requestPage r s) := Reach.requestPage (fun _ hk => hk) .refl
  have hbeside := hreach.beside_of (besides_admits_requests _)
  have hroute : (requestPage r s).route = s.route := hreach.same (g := fun s => s.route) fun hk hmove => by
    cases hmove
    case take => simp
    case count | page | request => rfl
    all_goals exact hk.elim
  have hware : (requestPage r s).ware = s.ware := hreach.same (g := fun s => s.ware) fun hk hmove => by
    cases hmove
    case take => simp
    case count | page | request => rfl
    all_goals exact hk.elim
  have hsettings := settings_of_kept (requestPage_kept r s)
  have hpriority : r.priority = pr := rfl
  have hsame (x : Page) : same x ↔ x.answersTo r.group r.code r.course = true := by
    rw [answersTo_iff]
    have hcourse' : (Fin.ofNat 16 (byteAt p 3)).val = byteAt p 3 := Nat.mod_eq_of_lt (by omega)
    simp only [same, hg, Fin.ext_iff]
    show _ ↔ _ ∧ _ ∧ x.course.val = (Fin.ofNat 16 (byteAt p 3)).val
    rw [hcourse']
    rfl
  refine ⟨_, hexec, hsettings, rfl, hbeside.heat, hbeside.prog, hbeside.load, hbeside.course, hware, hroute, hbeside.relay,
    hbeside.link, fun x hx hmatch => ?_, fun hnone => ?_⟩
  · have hmatch := (hsame x).mp hmatch
    have hmerged := requestPage_merged htakes (find_answersTo hsafe.calls hx hmatch)
    obtain ⟨f, hf, hnumber, hfx⟩ := raisePriority_page (pr := pr) (pageOf_of_mem hsafe.numbers hx)
    obtain ⟨hfx, hstate⟩ := hfx rfl
    rw [hmerged]
    refine ⟨?_, ?_, raisePriority_counter (j := .pagesMade) nofun _ _ _, f x, ?_, hnumber x, ?_, ?_, ?_, ?_, hstate⟩
    · show (if s.takesRequest r then Result.ok else .full) = _
      rw [takesRequest_of_page hx hmatch]
      rfl
    · show (raisePriority x.number pr s).page.pages.map _ = _
      rw [hf, List.map_map]
      exact List.map_congr_left fun q _ => hnumber q
    · show f x ∈ (raisePriority x.number pr s).page.pages
      rw [hf]
      exact List.mem_map_of_mem hx
    all_goals rw [hfx]
  · intro room victim
    have hfind : s.page.pages.find? (·.answersTo r.group r.code r.course) = none :=
      List.find?_eq_none.mpr fun x hx hmatch => hnone x hx ((hsame x).mpr hmatch)
    have hstate {u : State} (hgroups : u.page.groups = s.page.groups) (hware' : u.ware = s.ware) : u.madeState r =
        if s.page.groups[r.group].onDuty = false ∧ pr < 7 then .waiting
        else if r.defer = true ∧ s.backlogHigh = true then .deferred else .queued := by
      simp only [State.madeState, State.mustWait, State.backlogHigh, hgroups, hware', Bool.and_eq_true, Bool.not_eq_true',
        decide_eq_true_eq]
      rfl
    have hmade {u : State} (hpages : u.page.pages.length < 255) (hnext : u.page.next = s.page.next)
        (hgroups : u.page.groups = s.page.groups) (hware' : u.ware = s.ware) :
        ∃ y, (makePage r u).page.pages.map (·.number) = u.page.pages.map (·.number) ++ [y.number] ∧
          y ∈ (makePage r u).page.pages ∧ same y ∧ 1 ≤ y.number ∧ y.number ≤ 255 ∧ (∀ x ∈ u.page.pages, x.number ≠ y.number) ∧
          y.priority = pr ∧ y.attempt = 0 ∧ y.defer = (byteAt p 4 != 0) ∧ y.expiredOrigin = false ∧ y.timer = 0 ∧
          y.state = (if s.page.groups[y.group].onDuty = false ∧ pr < 7 then .waiting
            else if y.defer = true ∧ s.backlogHigh = true then .deferred else .queued) := by
      obtain ⟨-, -, y, hnumbers, hmem, hrange, hfresh, hy⟩ := makePage_made r (hnext ▸ hsafe.next) hpages
      refine ⟨y, hnumbers, hmem, (hsame y).mpr ((answersTo_iff y r).mpr ?_), hrange.1, hrange.2, hfresh, ?_⟩
      · rw [hy]
        exact ⟨rfl, rfl, rfl⟩
      · rw [hy]
        exact ⟨rfl, rfl, rfl, rfl, rfl, hstate hgroups hware'⟩
    refine ⟨fun hfull hpriorities => ?_, fun left hleft => ?_⟩
    · have hnot (v : Page) (hv : evictable s.page.pages = some v) : r.priority ≤ v.priority :=
        hpriorities v (evictable_mem hv) (evictable_state hv)
      rw [requestPage_refused htakes hfind hfull hnot]
      refine ⟨?_, rfl, State.counter_bump .pagesDropped s⟩
      show (if s.takesRequest r then Result.ok else .full) = _
      rw [not_takesRequest hfind hfull hnot]
      rfl
    · rcases hleft with ⟨hroom, rfl⟩ | ⟨hfull, v, ⟨hv, hsent, hlt, l1, l2, hq, hbefore, hafter⟩, rfl⟩
      · have hlength : s.page.pages.length < 255 := lt_trans hroom (by omega)
        obtain ⟨hcount, hdropped, -⟩ := makePage_made r hsafe.next hlength
        rw [requestPage_made htakes hfind hroom, if_pos hroom]
        refine ⟨?_, hcount, hdropped, hmade hlength rfl rfl rfl⟩
        show (if s.takesRequest r then Result.ok else .full) = _
        rw [takesRequest_of_makes (makesPage_of_room hroom)]
        rfl
      · have hvictim : evictable s.page.pages = some v :=
          (congrArg evictable hq).trans (evictable_eq_some hsent (hsafe.priorities v hv) hbefore hafter)
        have hnoroom : ¬room := Nat.not_lt.mpr hfull
        let u := bump .pagesDropped (removePage v.number s)
        have hlength : u.page.pages.length < 255 :=
          lt_of_le_of_lt (List.length_filter_le _ _) (lt_of_le_of_lt hsafe.room (by omega))
        obtain ⟨hcount, hdropped, -⟩ := makePage_made (s := u) r hsafe.next hlength
        have hbumped : u.counter .pagesDropped = (s.counter .pagesDropped).bump := State.counter_bump _ (removePage v.number s)
        have hother : u.counter .pagesMade = s.counter .pagesMade :=
          counter_bump_other (j := .pagesMade) (k := .pagesDropped) nofun (removePage v.number s)
        rw [requestPage_evicting htakes hfind hfull hvictim hlt, if_neg hnoroom]
        refine ⟨?_, hcount.trans (by rw [hother]), hdropped.trans hbumped, hmade hlength rfl rfl rfl⟩
        show (if s.takesRequest r then Result.ok else .full) = _
        rw [takesRequest_of_makes (makesPage_of_evicts hvictim hlt)]
        rfl

end Sys2Proof.Proofs

/-! The moments of a page: timeouts, the deferral limit and answers (R147, R148, R150–R152, R164): O59. -/

namespace Sys2Proof.Machine

section Placing
variable {s t u : State} {n : Nat} {p x : Page}

/-- R148, R151: a page that enters WAITING or QUEUED by its group's duty. -/
theorem placePage_page (hpage : s.pageOf n = some p) : ∃ f : Page → Page,
    (placePage n s).page.pages = s.page.pages.map f ∧ (∀ q, (f q).number = q.number) ∧
      f p = { p with
              state := if s.page.groups[p.group].onDuty = false ∧ p.priority < 7 then .waiting else .queued
              timer := 0
              current := (f p).current } := by
  have hn : p.number = n := (pageOf_some hpage).2
  have hwait : s.mustWait p.group p.priority = true ↔ s.page.groups[p.group].onDuty = false ∧ p.priority < 7 := by
    simp [State.mustWait]
  unfold placePage
  rw [hpage]
  dsimp only
  by_cases hw : s.mustWait p.group p.priority = true
  · rw [if_pos hw, if_pos (hwait.mp hw)]
    refine ⟨fun q => if q.number = n then { q with state := .waiting, timer := 0, current := none } else q, rfl, fun q => ?_, ?_⟩
    · dsimp only
      split <;> rfl
    · dsimp only
      rw [if_pos hn]
  · rw [if_neg hw, if_neg (mt hwait.mpr hw)]
    obtain ⟨⟨f, hf, hfp⟩, -⟩ := requeued_queuePage n s
    refine ⟨f, hf, fun q => ?_, (hfp p).1 (hn ▸ List.mem_singleton_self _)⟩
    by_cases hq : q.number ∈ [n]
    · rw [(hfp q).1 hq]
    · rw [((hfp q).2 hq).1]

theorem raisePriority_numbers (n pr : Nat) (s : State) :
    (raisePriority n pr s).page.pages.map (·.number) = s.page.pages.map (·.number) := by
  cases hpage : s.pageOf n with
  | none =>
    unfold raisePriority
    rw [hpage]
  | some p =>
    obtain ⟨f, hf, hnumber, -⟩ := raisePriority_page (pr := pr) hpage
    rw [hf, List.map_map]
    exact List.map_congr_left fun q _ => hnumber q

/-! ### Escalation (R151, R152) -/

/-- What the escalation of a page of `s` leaves in `t`. -/
def Escalated (s : State) (x : Page) (t : State) : Prop :=
  let up := s.page.groups[x.group].escalation
  let others := s.page.pages.filter fun y => y.number != x.number
  let folds := ∃ y ∈ others, y.group = up ∧ y.code = x.code ∧ y.course = x.course
  t.settings = s.settings ∧
  ((x.attempt = 2 ∨ up = x.group) →
    t.page.pages = others ∧ t.isPending .pageExpired = true ∧
    t.port.mailbox = s.port.mailbox.put s.course.clock
      (.expired x.number x.attempt x.group x.priority x.code x.course) ∧
    t.queues s (if x.expiredOrigin then [] else
      [{ kind := .pageExpired, course := x.course, zone := none, station := none, value := BitVec.ofNat 16 x.number }]) ∧
    t.counter .pagesEscalated = s.counter .pagesEscalated) ∧
  (x.attempt ≠ 2 → up ≠ x.group →
    t.counter .pagesEscalated = (s.counter .pagesEscalated).bump ∧ t.route = s.route ∧
    (folds → t.page.pages.map (·.number) = others.map (·.number)) ∧
    (¬ folds → t.page.pages.map (·.number) = s.page.pages.map (·.number) ∧
      ∃ y ∈ t.page.pages, y.number = x.number ∧ y.group = up ∧ y.attempt = x.attempt + 1 ∧
        y.priority = min 7 (x.priority + 1) ∧ y.code = x.code ∧ y.course = x.course ∧ y.timer = 0 ∧
        y.state =
          if s.page.groups[up].onDuty = false ∧ y.priority < 7 then .waiting else .queued))

/-- R152: a page that expires. -/
theorem expirePage_leaves (p : Page) (s : State) :
    (expirePage p s).page.pages = s.page.pages.filter (·.number != p.number) ∧
      (expirePage p s).isPending .pageExpired = true ∧
      (expirePage p s).port.mailbox = s.port.mailbox.put s.course.clock
        (.expired p.number p.attempt p.group p.priority p.code p.course) ∧
      (expirePage p s).queues s (if p.expiredOrigin then [] else
        [{ kind := .pageExpired, course := p.course, zone := none, station := none, value := BitVec.ofNat 16 p.number }]) ∧
      (expirePage p s).counter .pagesEscalated = s.counter .pagesEscalated := by
  have hlatched := isPending_latch (c := .pageExpired) rfl
    (makeReport (.expired p.number p.attempt p.group p.priority p.code p.course) (removePage p.number s))
  unfold expirePage
  dsimp only
  split
  · exact ⟨rfl, hlatched, rfl, queues_of_same rfl, rfl⟩
  · refine ⟨rfl, isPending_raise rfl _ hlatched, rfl, (queues_raise _ _).from_same rfl rfl, ?_⟩
    exact counter_raise (j := .pagesEscalated) nofun _
      (latch .pageExpired (makeReport (.expired p.number p.attempt p.group p.priority p.code p.course) (removePage p.number s)))

/-- R151: the page as it moves to the group above. -/
def Page.movedUp (g : GroupNo) (pr : Nat) (p : Page) : Page :=
  { p with group := g, priority := pr, attempt := p.attempt + 1, timer := 0, current := none }

theorem escalate_expires (hpage : s.pageOf n = some p) (h : p.attempt = 2 ∨ s.page.groups[p.group].escalation = p.group) :
    escalate n s = expirePage p s := by
  unfold escalate
  rw [hpage]
  exact if_pos h

theorem escalate_moves (hpage : s.pageOf n = some p) (h : ¬(p.attempt = 2 ∨ s.page.groups[p.group].escalation = p.group)) :
    escalate n s =
      match s.page.pages.find? (fun x => x.number != n && x.answersTo s.page.groups[p.group].escalation p.code p.course) with
      | some other => raisePriority other.number (min 7 (p.priority + 1)) (removePage n (bump .pagesEscalated
          (mapPage n (Page.movedUp s.page.groups[p.group].escalation (min 7 (p.priority + 1))) s)))
      | none => placePage n (bump .pagesEscalated
          (mapPage n (Page.movedUp s.page.groups[p.group].escalation (min 7 (p.priority + 1))) s)) := by
  unfold escalate
  rw [hpage]
  exact if_neg h

theorem pageOf_mapPage (hpage : s.pageOf n = some p) {f : Page → Page} (hf : ∀ q, (f q).number = q.number) (k : CounterName) :
    (bump k (mapPage n f s)).pageOf n = some (f p) := by
  show ((s.page.pages.map fun q => if q.number = n then f q else q).find? (·.number == n)) = _
  have hnumber (q : Page) : (if q.number = n then f q else q).number = q.number := by
    split
    · exact hf q
    · rfl
  rw [List.find?_map]
  have hfind : s.page.pages.find? ((fun q => q.number == n) ∘ fun q => if q.number = n then f q else q) = some p := by
    rw [← hpage]
    unfold State.pageOf
    congr 1
    funext q
    simp only [Function.comp_apply, hnumber]
  rw [hfind, Option.map_some, if_pos (pageOf_some hpage).2]

theorem raisePriority_route (n pr : Nat) (s : State) : (raisePriority n pr s).route = s.route := by
  have hreach : Reach (fun k => pages k ∨ k = .request pr) s (raisePriority n pr s) :=
    Reach.raisePriority (fun _ hk => .inl hk) (Reach.requestPriority (.inr rfl) .refl) .refl
  refine hreach.same (g := fun s => s.route) fun hk hmove => ?_
  rcases hk with hk | rfl
  · cases hmove
    case take => simp
    case page => rfl
    all_goals exact hk.elim
  · cases hmove
    rfl

/-- R151: a page that folds into another. -/
theorem escalate_folds (hpage : s.pageOf n = some x) (hmove : ¬(x.attempt = 2 ∨ s.page.groups[x.group].escalation = x.group))
    {other : Page} (hfind : s.page.pages.find?
      (fun y => y.number != n && y.answersTo s.page.groups[x.group].escalation x.code x.course) = some other) :
    escalate n s =
      raisePriority other.number (min 7 (x.priority + 1)) (bump .pagesEscalated (removePage n s)) := by
  have h := escalate_moves hpage hmove
  rw [hfind] at h
  dsimp only at h
  rwa [removePage_mapPage (f := Page.movedUp _ _) (fun _ => rfl)] at h

theorem counter_escalated (s : State) : (bump .pagesEscalated s).counter .pagesEscalated = (s.counter .pagesEscalated).bump :=
  State.counter_bump _ s

/-- R151: a page that moves to the group above. -/
theorem escalate_placed (hpage : s.pageOf n = some x) (hmove : ¬(x.attempt = 2 ∨ s.page.groups[x.group].escalation = x.group))
    (hfind : s.page.pages.find?
      (fun y => y.number != n && y.answersTo s.page.groups[x.group].escalation x.code x.course) = none) :
    ((escalate n s).counter .pagesEscalated = (s.counter .pagesEscalated).bump ∧ (escalate n s).route = s.route) ∧
    (escalate n s).page.pages.map (·.number) = s.page.pages.map (·.number) ∧
    ∃ y ∈ (escalate n s).page.pages, y = { x with
      group := s.page.groups[x.group].escalation, priority := min 7 (x.priority + 1), attempt := x.attempt + 1, timer := 0
      state := if s.page.groups[s.page.groups[x.group].escalation].onDuty = false ∧ min 7 (x.priority + 1) < 7 then .waiting
        else .queued
      current := y.current } := by
  have hplace := escalate_moves hpage hmove
  rw [hfind] at hplace
  dsimp only at hplace
  generalize hmoves : mapPage n (Page.movedUp s.page.groups[x.group].escalation (min 7 (x.priority + 1))) s = u at hplace
  have hmoved : (bump .pagesEscalated u).pageOf n =
      some (x.movedUp s.page.groups[x.group].escalation (min 7 (x.priority + 1))) := by
    rw [← hmoves]
    exact pageOf_mapPage (f := Page.movedUp _ _) hpage (fun _ => rfl) _
  have hreach : Reach pages (bump .pagesEscalated u) (escalate n s) := hplace ▸ Reach.placePage (fun _ hk => hk) n .refl
  have hcount := (hreach.mono (K' := wares) (wares_admits_pages fun _ hk => hk)).counter_wares (j := .pagesEscalated) nofun nofun
  obtain ⟨f, hf, hnumber, hfx⟩ := placePage_page hmoved
  have hgroups : (bump .pagesEscalated u).page.groups = s.page.groups := by
    rw [← hmoves]
    rfl
  have hpages : (bump .pagesEscalated u).page.pages = s.page.pages.map fun p => if p.number = n then
      p.movedUp s.page.groups[x.group].escalation (min 7 (x.priority + 1)) else p := by
    rw [← hmoves]
    rfl
  have hcounter : u.counter .pagesEscalated = s.counter .pagesEscalated := by rw [← hmoves]; rfl
  have hroute : u.route = s.route := by rw [← hmoves]; rfl
  rw [hgroups] at hfx
  rw [hpages, List.map_map] at hf
  rw [← hplace] at hf
  refine ⟨⟨?_, hreach.route_pages.trans hroute⟩, ?_, _, ?_, hfx⟩
  · rw [hcount, counter_escalated, hcounter]
  · rw [hf, List.map_map]
    refine List.map_congr_left fun q _ => ?_
    simp only [Function.comp_apply, hnumber]
    split <;> rfl
  · rw [hf]
    refine List.mem_map.mpr ⟨x, (pageOf_some hpage).1, ?_⟩
    rw [Function.comp_apply, if_pos (pageOf_some hpage).2]

/-- R151, R152: a page escalates. -/
theorem escalated_escalate (hpage : s.pageOf n = some x) : Escalated s x (escalate n s) := by
  obtain ⟨hmem, hn⟩ := pageOf_some hpage
  refine ⟨settings_of_kept (escalate_kept n s), fun h => ?_, fun hattempt hgroup => ?_⟩
  · rw [escalate_expires hpage h]
    exact expirePage_leaves x s
  have hmove := not_or.mpr ⟨hattempt, hgroup⟩
  cases hfind : s.page.pages.find? (fun y => y.number != n && y.answersTo s.page.groups[x.group].escalation x.code x.course) with
  | some other =>
    rw [escalate_folds hpage hmove hfind]
    refine ⟨?_, raisePriority_route _ _ _, fun _ => ?_, fun hno => absurd ?_ hno⟩
    · rw [raisePriority_counter (j := .pagesEscalated) nofun, counter_escalated]
      rfl
    · rw [raisePriority_numbers, hn]
      rfl
    · have hother := List.find?_some hfind
      rw [Bool.and_eq_true] at hother
      have hcall : other.group = s.page.groups[x.group].escalation ∧ other.code = x.code ∧ other.course = x.course := by
        simpa [Page.answersTo, and_assoc] using hother.2
      exact ⟨other, List.mem_filter.mpr ⟨List.mem_of_find?_eq_some hfind, hn.symm ▸ hother.1⟩, hcall⟩
  | none =>
    obtain ⟨⟨hcount, hroute⟩, hnumbers, y, hy, hyx⟩ := escalate_placed hpage hmove hfind
    refine ⟨hcount, hroute, fun hfolds => ?_, fun _ => ⟨hnumbers, y, hy, ?_⟩⟩
    · obtain ⟨z, hz, hgroup', hcode, hcourse⟩ := hfolds
      obtain ⟨hz, hne⟩ := List.mem_filter.mp hz
      refine absurd ?_ (List.find?_eq_none.mp hfind z hz)
      rw [Bool.and_eq_true]
      exact ⟨hn ▸ hne, by simp [Page.answersTo, hgroup', hcode, hcourse]⟩
    · rw [hyx]
      exact ⟨rfl, rfl, rfl, rfl, rfl, rfl, rfl, rfl⟩

end Placing

end Sys2Proof.Machine

namespace Sys2Proof.Machine

section Answers
variable {s t u : State} {n : Nat} {x : Page} {origin number attempt : Byte} {pager : Half}

/-- What the escalation of a page rests on: the same page, but for its timer, among the same others. -/
theorem Escalated.from_same {x' : Page} (h : Escalated u x' t) (hx : x' = { x with timer := x'.timer })
    (hsettings : u.settings = s.settings) (hgroups : u.page.groups = s.page.groups)
    (hothers : (u.page.pages.filter fun y => y.number != x.number) = s.page.pages.filter fun y => y.number != x.number)
    (hnumbers : u.page.pages.map (·.number) = s.page.pages.map (·.number))
    (hmailbox : u.port.mailbox = s.port.mailbox) (hclock : u.course.clock = s.course.clock) (hroute : u.route = s.route)
    (hlink : u.bus.link = s.bus.link) (hcounter : u.counter .pagesEscalated = s.counter .pagesEscalated) : Escalated s x t := by
  have hqueues (es : List Event) : t.queues u es = t.queues s es := by unfold State.queues; rw [hroute, hlink]
  rw [hx] at h
  unfold Escalated at h ⊢
  simp only [hsettings, hgroups, hmailbox, hclock, hcounter, hothers, hnumbers, hqueues, hroute] at h
  exact h

theorem removed_mapPage (n : Nat) (f : Page → Page) (hf : ∀ p, (f p).number = p.number) (s : State) :
    ((mapPage n f s).page.pages.filter fun y => y.number != n) = s.page.pages.filter fun y => y.number != n :=
  congrArg (fun t => t.page.pages) (removePage_mapPage (n := n) hf .pagesMade s)

/-- R147: the timeout of a page. -/
theorem escalated_timeout (hpage : s.pageOf n = some x) :
    Escalated s x (escalate n (mapPage n (fun p => { p with timer := 0 }) s)) := by
  have hn := (pageOf_some hpage).2
  have hmapped : (mapPage n (fun p => { p with timer := 0 }) s).pageOf n = some { x with timer := 0 } :=
    pageOf_mapPage hpage (f := fun p => { p with timer := 0 }) (fun _ => rfl) .pagesMade
  refine (escalated_escalate hmapped).from_same rfl rfl rfl ?_ ?_ rfl rfl rfl rfl rfl
  · rw [hn]
    exact removed_mapPage n (fun p => { p with timer := 0 }) (fun _ => rfl) s
  · show List.map _ (List.map _ _) = _
    rw [List.map_map]
    refine List.map_congr_left fun p _ => ?_
    simp only [Function.comp_apply]
    split <;> rfl

/-! ### Answers -/

/-- R164: the relay without the records of the page that an ANSWER names. -/
def State.relayAnswered (s : State) (origin number : Byte) : Relay :=
  if s.relayActive then
    { s.relay with list := s.relay.list.filter fun r => !(r.key.origin.val == origin.toNat && r.key.number == number.toNat) }
  else s.relay

theorem answerRelay_eq (origin number attempt : Byte) (s : State) :
    answerRelay origin number attempt s = { s with relay := s.relayAnswered origin number } := by
  unfold answerRelay State.relayAnswered
  cases hactive : s.relayActive with
  | false => rfl
  | true =>
    rw [Bool.true_and]
    split
    next hle =>
      have hle : origin.toNat ≤ 31 := by simpa using hle
      have hval : (Fin.ofNat 32 origin.toNat : Station).val = origin.toNat := Nat.mod_eq_of_lt (by omega)
      have hkey (r : RelayRec) : r.key.samePage { origin := Fin.ofNat 32 origin.toNat, number := number.toNat, attempt := attempt.toNat } =
          (r.key.origin.val == origin.toNat && r.key.number == number.toNat) := by
        unfold RelayKey.samePage
        conv => rhs; rw [← hval]
        exact congrArg (· && _) (decide_eq_decide.mpr Fin.ext_iff)
      unfold forgetPage
      simp only [hkey, if_true]
    next hgt =>
      have hgt : 31 < origin.toNat := by simpa using hgt
      have hall : (s.relay.list.filter fun r => !(r.key.origin.val == origin.toNat && r.key.number == number.toNat)) =
          s.relay.list := by
        refine List.filter_eq_self.mpr fun r _ => ?_
        have hne : r.key.origin.val ≠ origin.toNat := by omega
        simp [hne]
      rw [hall]
      rfl

theorem relayAnswered_beside (h : Beside s t) (origin number : Byte) :
    t.relayAnswered origin number = s.relayAnswered origin number := by
  unfold State.relayAnswered State.relayActive State.isRadio
  rw [h.relay, h.link, h.straps]

theorem beside_escalate (n : Nat) (s : State) : Beside s (escalate n s) :=
  (Reach.escalate (fun _ hk => hk) n .refl).beside_of besides_admits_escalations

theorem takeAnswer_accepted (hpage : s.pageOf n = some x) (attempt pager : Nat) :
    takeAnswer n attempt pager true s = makeReport (.answered n attempt x.group x.code x.course pager) (removePage n s) := by
  unfold takeAnswer
  rw [hpage]
  rfl

theorem takeAnswer_declined (hpage : s.pageOf n = some x) (attempt pager : Nat) :
    takeAnswer n attempt pager false s = if attempt = x.attempt then escalate n s else s := by
  unfold takeAnswer
  rw [hpage]
  rfl

theorem takeAnswer_none (hpage : s.pageOf n = none) (attempt pager : Nat) (accept : Bool) :
    takeAnswer n attempt pager accept s = s := by
  unfold takeAnswer
  rw [hpage]

theorem takeAnswerNotice_eq {reply : Byte} (hreply : reply.toNat ≤ 1) :
    takeAnswerNotice origin number attempt pager reply s =
      answerRelay origin number attempt (answerPages origin number attempt pager (reply.toNat == 0) s) :=
  if_neg (by omega)

theorem exec_pageTimeout (hreset : s.inReset = false) {b : Byte} (hpage : s.pageOf b.toNat = some x) :
    exec (.pageTimeout b) s = .next (if x.state = .sent ∧ x.timer ≤ 1 then
      escalate x.number (mapPage x.number (fun p => { p with timer := 0 }) s) else s) := by
  simp only [exec, execPageTimeout, unlessReset_of_not_inReset hreset, hpage]

theorem exec_deferralLimit (hreset : s.inReset = false) {b : Byte} (hpage : s.pageOf b.toNat = some x) :
    exec (.deferralLimit b) s = .next (if x.state = .deferred ∧ 119 ≤ x.timer then undefer x.number s else s) := by
  simp only [exec, execDeferralLimit, unlessReset_of_not_inReset hreset, hpage]

theorem exec_pageMoment_none (hreset : s.inReset = false) {b : Byte} (hpage : s.pageOf b.toNat = none) :
    exec (.pageTimeout b) s = .next s ∧ exec (.deferralLimit b) s = .next s := by
  simp only [exec, execPageTimeout, execDeferralLimit, unlessReset_of_not_inReset hreset, hpage]
  exact ⟨trivial, trivial⟩

end Answers

end Sys2Proof.Machine

namespace Sys2Proof.Proofs
open Sys2Proof.Machine

/-- Settles O59. -/
theorem pageMoments : Obligations.PageMoments := by
  intro number s hreset hsafe escalates page
  have hescalates (x : Page) (t : State) : Escalated s x t → escalates x t := id
  have hpage : page = s.pageOf number.toNat := rfl
  clear_value page
  subst hpage
  refine ⟨exec_pageMoment_none hreset, fun x hx => ?_, ?_⟩
  · obtain ⟨hmem, hn⟩ := pageOf_some hx
    rw [exec_pageTimeout hreset hx, exec_deferralLimit hreset hx]
    refine ⟨fun hnot => by rw [if_neg hnot], fun hsent hdue => ⟨_, rfl, ?_⟩, fun hnot => by rw [if_neg hnot],
      fun hdeferred hdue => ⟨_, rfl, ?_⟩⟩
    · rw [if_pos ⟨hsent, hdue⟩]
      exact hescalates _ _ (escalated_timeout (hn.symm ▸ hx))
    · rw [if_pos ⟨hdeferred, hdue⟩]
      obtain ⟨f, hf, hnumber, hfx⟩ := placePage_page (hn.symm ▸ hx)
      refine ⟨settings_of_kept (undefer_kept _ s), ?_, f x, ?_, hnumber x, ?_⟩
      · show (placePage x.number s).page.pages.map _ = _
        rw [hf, List.map_map]
        exact List.map_congr_left fun q _ => hnumber q
      · show f x ∈ (placePage x.number s).page.pages
        rw [hf]
        exact List.mem_map_of_mem hmem
      · rw [hfx]
        exact ⟨rfl, rfl⟩
  · intro sender seq origin attempt pager reply n cmd relay htakes
    have hexec : exec cmd s = .next (takeAnswerNotice origin number attempt pager reply (s.counted n)) := hearing_of_takes htakes _
    have hrelay : (s.counted n).relayAnswered origin number = relay := rfl
    have hown : (s.counted n).own = s.own := rfl
    have hpageOf : (s.counted n).pageOf number.toNat = s.pageOf number.toNat := rfl
    refine ⟨fun hbad => ?_, fun hreply hnot => ?_, fun x hx horigin => ⟨fun haccept => ?_, fun hdecline hattempt => ?_,
      fun hdecline hattempt => ?_⟩⟩
    · rw [hexec]
      exact congrArg _ (if_pos hbad)
    · have hstands : answerPages origin number attempt pager (reply.toNat == 0) (s.counted n) = s.counted n := by
        unfold answerPages
        split
        next heq => exact takeAnswer_none (s := s.counted n) (hnot.resolve_left fun h => h (hown ▸ heq)) _ _ _
        · rfl
      rw [hexec, takeAnswerNotice_eq hreply, hstands, answerRelay_eq, hrelay]
    all_goals
      have hpages (accept : Bool) : answerPages origin number attempt pager accept (s.counted n) =
          takeAnswer number.toNat attempt.toNat pager.toNat accept (s.counted n) := if_pos (horigin.trans (congrArg _ hown.symm))
      rw [hexec]
    · subst haccept
      have hsettings : (takeAnswerNotice origin number attempt pager 0 (s.counted n)).settings = s.settings :=
        settings_of_kept (takeAnswerNotice_kept _ _ _ _ _ _)
      rw [takeAnswerNotice_eq (by decide), hpages, show ((0 : Byte).toNat == 0) = true from rfl,
        takeAnswer_accepted (s := s.counted n) hx, answerRelay_eq] at hsettings ⊢
      obtain ⟨hmem, hn⟩ := pageOf_some hx
      refine ⟨_, rfl, hsettings, ?_, rfl, hrelay⟩
      rw [hn]
      rfl
    · subst hdecline
      have hsettings : (takeAnswerNotice origin number attempt pager 1 (s.counted n)).settings = s.settings :=
        settings_of_kept (takeAnswerNotice_kept _ _ _ _ _ _)
      rw [takeAnswerNotice_eq (by decide), hpages, show ((1 : Byte).toNat == 0) = false from rfl,
        takeAnswer_declined (s := s.counted n) hx, if_pos hattempt, answerRelay_eq] at hsettings ⊢
      have hescalated : Escalated s x (escalate number.toNat (s.counted n)) :=
        (escalated_escalate (s := s.counted n) hx).from_same rfl rfl rfl rfl rfl rfl rfl rfl rfl
          (counter_bump_other (j := .pagesEscalated) (k := .noticesHeard) nofun _)
      refine ⟨_, rfl, hescalates _ _ ⟨hsettings, hescalated.2.1, hescalated.2.2⟩, ?_⟩
      rw [relayAnswered_beside (beside_escalate _ _), hrelay]
    · subst hdecline
      rw [takeAnswerNotice_eq (by decide), hpages, show ((1 : Byte).toNat == 0) = false from rfl,
        takeAnswer_declined (s := s.counted n) hx, if_neg hattempt, answerRelay_eq, hrelay]

end Sys2Proof.Proofs

/-! The radio relay and its exchange with the transceiver (R146, R159–R164, R191): O60. -/

namespace Sys2Proof.Machine

/-! ### The list (R158–R160) -/

section Lists
variable {l l1 l2 : List RelayRec} {x r : RelayRec} {b : Relay}

/-- R160: the WAITING record of lowest priority, the latest of those. -/
theorem relayVictim_eq_some (hwaiting : x.inFlight = false) (hrange : 1 ≤ x.priority ∧ x.priority ≤ 7)
    (hbefore : ∀ y ∈ l1, y.inFlight = false → x.priority ≤ y.priority)
    (hafter : ∀ y ∈ l2, y.inFlight = false → x.priority < y.priority) : relayVictim (l1 ++ x :: l2) = some x := by
  have hlower (k : Nat) (hk : k < x.priority) :
      ((l1 ++ x :: l2).filter fun r => !r.inFlight && r.priority == k).getLast? = none := by
    rw [List.getLast?_eq_none_iff, List.filter_eq_nil_iff]
    intro y hy hmatch
    simp only [Bool.and_eq_true, Bool.not_eq_true', beq_iff_eq] at hmatch
    rcases List.mem_append.mp hy with hy | hy
    · have := hbefore y hy hmatch.1
      omega
    · rcases List.mem_cons.mp hy with rfl | hy
      · omega
      · have := hafter y hy hmatch.1
        omega
  have hown : ((l1 ++ x :: l2).filter fun r => !r.inFlight && r.priority == x.priority).getLast? = some x := by
    have hrest : (l2.filter fun r => !r.inFlight && r.priority == x.priority) = [] := by
      rw [List.filter_eq_nil_iff]
      intro y hy hmatch
      simp only [Bool.and_eq_true, Bool.not_eq_true', beq_iff_eq] at hmatch
      have := hafter y hy hmatch.1
      omega
    rw [List.filter_append, List.filter_cons_of_pos (by simp [hwaiting]), hrest]
    exact List.getLast?_concat
  exact findSome_rising hrange hlower hown

/-- R158: the first WAITING record in priority and arrival order. -/
theorem ordered_find (hl : b.list = l1 ++ x :: l2) (hwaiting : x.inFlight = false) (hrange : 1 ≤ x.priority ∧ x.priority ≤ 7)
    (hbefore : ∀ y ∈ l1, y.inFlight = false → y.priority < x.priority)
    (hafter : ∀ y ∈ l2, y.inFlight = false → y.priority ≤ x.priority) : b.ordered.find? (!·.inFlight) = some x := by
  have hhigher (k : Nat) (hk : x.priority < k) : (b.list.filter fun r => r.priority == k).find? (!·.inFlight) = none := by
    refine List.find?_eq_none.mpr fun y hy hmatch => ?_
    obtain ⟨hy, hpr⟩ := List.mem_filter.mp hy
    simp only [Bool.not_eq_true', beq_iff_eq] at hmatch hpr
    rw [hl] at hy
    rcases List.mem_append.mp hy with hy | hy
    · have := hbefore y hy hmatch
      omega
    · rcases List.mem_cons.mp hy with rfl | hy
      · omega
      · have := hafter y hy hmatch
        omega
  have hown : (b.list.filter fun r => r.priority == x.priority).find? (!·.inFlight) = some x := by
    rw [hl, List.filter_append, List.find?_append, List.find?_eq_none.mpr, Option.none_or,
      List.filter_cons_of_pos (by simp), List.find?_cons_of_pos (by simp [hwaiting])]
    intro y hy hmatch
    obtain ⟨hy, hpr⟩ := List.mem_filter.mp hy
    simp only [Bool.not_eq_true', beq_iff_eq] at hmatch hpr
    have := hbefore y hy hmatch
    omega
  unfold Relay.ordered
  rw [List.find?_flatMap]
  exact findSome_falling hrange hhigher hown

theorem ordered_find_none (h : ∀ x ∈ b.list, x.inFlight = true) : b.ordered.find? (!·.inFlight) = none :=
  List.find?_eq_none.mpr fun x hx hmatch => by
    rw [h x (ordered_mem hx)] at hmatch
    cases hmatch

/-- R161: what sending the next record does. -/
theorem sends_kick (hkeys : (b.list.map (·.key)).Nodup) (hranges : ∀ x ∈ b.list, 1 ≤ x.priority ∧ x.priority ≤ 7) :
    b.sends b.kick := by
  unfold Relay.sends
  split
  next hidle =>
    refine ⟨fun hall => ?_, fun l1 x l2 hl hwaiting hbefore hafter => ?_⟩
    · unfold Relay.kick
      rw [ordered_find_none hall]
      split <;> simp_all
    · have hmem : x ∈ b.list := hl ▸ List.mem_append_right _ (List.mem_cons_self ..)
      have hnodup := (List.perm_middle.map RelayRec.key).nodup_iff.mp (hl ▸ hkeys)
      rw [List.map_cons, List.nodup_cons] at hnodup
      have hmap : (b.list.map fun y => if y = x then { y with inFlight := true } else y) =
          l1 ++ { x with inFlight := true } :: l2 := by
        rw [hl]
        exact map_eq_of_one (if_pos rfl) fun z hz => if_neg fun (heq : z = x) => hnodup.1 (heq ▸ List.mem_map_of_mem hz)
      unfold Relay.kick
      rw [hidle, ordered_find hl hwaiting (hranges x hmem) hbefore hafter, ← hmap]
  next hbusy =>
    unfold Relay.kick
    split
    next hidle _ => exact absurd hidle hbusy
    · rfl

/-- R159, R160: what an offer does to the list. -/
theorem offeredTo_offerTo (hkeys : (l.map (·.key)).Nodup)
    (hpages : ((l.filter (!·.inFlight)).map fun r => (r.key.origin, r.key.number)).Nodup)
    (hranges : ∀ x ∈ l, 1 ≤ x.priority ∧ x.priority ≤ 7) : offeredTo l r (offerTo l r) := by
  unfold offeredTo
  dsimp only
  split
  next hlater => exact offerTo_of_later hlater
  next hlater =>
  have hlater : l.any (fun x => x.key.samePage r.key && r.key.attempt < x.key.attempt) = false :=
    Bool.eq_false_iff.mpr hlater
  split
  next hflight => exact offerTo_of_flight hkeys hflight
  next hflight =>
  have hflight : l.any (fun x => x.key == r.key && x.inFlight) = false := Bool.eq_false_iff.mpr hflight
  split
  · intro l1 x l2 hl hsame hwaiting
    subst hl
    exact offerTo_of_waiting hkeys hpages hwaiting hsame hlater hflight
  next hnone =>
  have hnone : l.any (fun x => x.key.samePage r.key && !x.inFlight) = false := Bool.eq_false_iff.mpr hnone
  have hnew := offerTo_of_new hlater hflight hnone
  split
  next hroom => rw [hnew, if_pos hroom]
  next hfull =>
  rw [if_neg hfull] at hnew
  refine ⟨fun l1 x l2 hl hwaiting hlt hbefore hafter => ?_, fun hall => ?_⟩
  · have hmem : x ∈ l := hl ▸ List.mem_append_right _ (List.mem_cons_self ..)
    have hvictim : relayVictim l = some x := hl ▸ relayVictim_eq_some hwaiting (hranges x hmem) hbefore hafter
    have hnodup := (List.perm_middle.map RelayRec.key).nodup_iff.mp (hl ▸ hkeys)
    rw [List.map_cons, List.nodup_cons] at hnodup
    have hkeep (m : List RelayRec) (hm : ∀ z ∈ m, z ∈ l1 ++ l2) : m.filter (· != x) = m :=
      List.filter_eq_self.mpr fun z hz => by
        simpa using fun (heq : z = x) => hnodup.1 (heq ▸ List.mem_map_of_mem (hm z hz))
    rw [hvictim] at hnew
    dsimp only at hnew
    rw [hnew, if_pos hlt, hl, List.filter_append, List.filter_cons_of_neg (by simp), hkeep l1 fun _ => List.mem_append_left _,
      hkeep l2 fun _ => List.mem_append_right _]
  · cases hvictim : relayVictim l with
    | none =>
      rw [hvictim] at hnew
      exact hnew
    | some v =>
      obtain ⟨hmem, hwaiting⟩ := relayVictim_mem hvictim
      have := hall v hmem hwaiting
      rw [hvictim] at hnew
      exact hnew.trans (if_neg (by omega))

end Lists

end Sys2Proof.Machine

namespace Sys2Proof.Machine

section Exchange
variable {s t : State} {r : RelayRec}

/-- R71: what seeking the line touches. -/
theorem seek_eq (b : Bus) : b.seek = { b with access := b.seek.access, gapUs := b.seek.gapUs, draws := b.seek.draws } := by
  rcases seek_cases b with ⟨-, heq⟩ | ⟨h, -, ⟨-, heq⟩ | ⟨-, heq⟩⟩ <;> rw [heq]

theorem sends_kick_of_safe {b : Relay} (h : b.Safe) : b.sends b.kick := sends_kick h.keys h.priorities

theorem RelaySafe.of_same (h : RelaySafe s) (hrelay : t.relay = s.relay) (hactive : t.relayActive = s.relayActive) : RelaySafe t := by
  obtain ⟨hroom, hkeys, hpages, hflight, hidle, hinactive, hranges⟩ := h
  rw [← hrelay] at hroom hkeys hpages hflight hidle hinactive hranges
  exact ⟨hroom, hkeys, hpages, hflight, hidle, fun hoff => hinactive (hactive ▸ hoff), hranges⟩

theorem active_of_busy (hsafe : RelaySafe s) (h : s.relay.exchange ≠ .idle) : s.relayActive = true := by
  by_contra hno
  exact h (hsafe.inactive (by simpa using hno)).2

theorem kick_of_active {b : Relay} (h : s.relayActive = true) : kick { s with relay := b } = { s with relay := b.kick } := by
  unfold kick
  have hactive : ({ s with relay := b } : State).relayActive = true := h
  rw [if_pos hactive]

/-- R159: a record offered to the relay. -/
theorem offerRelay_offered (hsafe : RelaySafe s) (hwaiting : r.inFlight = false) (hrange : 1 ≤ r.priority ∧ r.priority ≤ 7) :
    offerRelay r s = { s with relay := (offerRelay r s).relay } ∧
      if s.relayActive = true ∧ s.relay.covered r.group = true then
        ∃ l, offeredTo s.relay.list r l ∧ ({ s.relay with list := l } : Relay).sends (offerRelay r s).relay
      else (offerRelay r s).relay = s.relay := by
  unfold offerRelay
  by_cases hon : s.relayActive = true ∧ s.relay.covered r.group = true
  · rw [if_pos hon, if_pos (by simp [hon.1, hon.2]), kick_of_active hon.1]
    exact ⟨rfl, _, offeredTo_offerTo hsafe.keys hsafe.pages hsafe.priorities,
      sends_kick_of_safe (hsafe.block.offer hwaiting hrange)⟩
  · rw [if_neg hon, if_neg (by simpa using hon)]
    exact ⟨rfl, rfl⟩

/-- What an offer says of the state it is made in it says of any with the same relay. -/
theorem offerRelay_offered_of_same (hsafe : RelaySafe s) (hrelay : t.relay = s.relay) (hactive : t.relayActive = s.relayActive)
    (hwaiting : r.inFlight = false) (hrange : 1 ≤ r.priority ∧ r.priority ≤ 7) :
    if s.relayActive = true ∧ s.relay.covered r.group = true then
      ∃ l, offeredTo s.relay.list r l ∧ ({ s.relay with list := l } : Relay).sends (offerRelay r t).relay
    else (offerRelay r t).relay = s.relay := by
  rw [← hactive, ← hrelay]
  exact (offerRelay_offered (hsafe.of_same hrelay hactive) hwaiting hrange).2

/-- R146: the relay record of an own page that was sent. -/
def State.recordOf (s : State) (p : Page) : RelayRec :=
  { key := { origin := s.own, number := p.number, attempt := p.attempt }, group := p.group, priority := p.priority,
    code := p.code, course := p.course, inFlight := false }

/-- R146, R159: a page's own PAGE that was sent is offered to the relay, as a page heard is. -/
theorem pageSent_offered {id : Nat} {p : Page} (hsafe : RelaySafe s) (hp : s.page.pages.find? (·.current == some id) = some p)
    (hrange : 1 ≤ p.priority ∧ p.priority ≤ 7) :
    if s.relayActive = true ∧ s.relay.covered (s.recordOf p).group = true then
      ∃ l, offeredTo s.relay.list (s.recordOf p) l ∧ ({ s.relay with list := l } : Relay).sends (pageSent id s).relay
    else (pageSent id s).relay = s.relay := by
  unfold pageSent
  rw [hp]
  dsimp only
  by_cases hradio : s.isRadio = true
  · rw [if_pos hradio]
    exact offerRelay_offered_of_same (r := s.recordOf p) hsafe (mapPage_relay ..) rfl rfl hrange
  · have hidle : s.relayActive = false := by
      unfold State.relayActive
      rw [Bool.eq_false_iff.mpr hradio, Bool.false_and]
    rw [if_neg hradio, hidle, if_neg fun h => absurd h.1 Bool.false_ne_true]
    rfl

theorem keyNamed_eq {k : RelayKey} {o n a : Byte} (ho : o.toNat = k.origin.val) (hn : n.toNat = k.number) (ha : a.toNat = k.attempt) :
    keyNamed o n a = some k := by
  have hle : o.toNat ≤ 31 := by omega
  unfold keyNamed
  rw [if_pos hle, ho, hn, ha]
  simp

theorem keyNamed_some {k : RelayKey} {o n a : Byte} (h : keyNamed o n a = some k) :
    o.toNat = k.origin.val ∧ n.toNat = k.number ∧ a.toNat = k.attempt := by
  unfold keyNamed at h
  split at h
  next hle =>
    cases h
    exact ⟨(Nat.mod_eq_of_lt (by omega)).symm, rfl, rfl⟩
  · cases h

/-! ### Messages (R191) -/

theorem receiveRadio_discarded {bytes : List Byte} (h : bytes.foldl (· + ·) (0 : Byte) ≠ 0 ∨
    ¬(bytes.head? = some 2 ∧ bytes.length = 5 ∨ bytes.head? = some 3 ∧ bytes.length = 8)) :
    receiveRadio bytes = .discarded := by
  unfold receiveRadio
  split
  · rfl
  next hsum =>
    have hform := h.resolve_left hsum
    split
    · exact absurd (.inl ⟨rfl, rfl⟩) hform
    · exact absurd (.inr ⟨rfl, rfl⟩) hform
    · rfl

theorem receiveRadio_done {o n a k : Byte} (h : [2, o, n, a, k].foldl (· + ·) (0 : Byte) = 0) :
    receiveRadio [2, o, n, a, k] = .done o n a := if_neg (not_not.mpr h)

theorem receiveRadio_reply {p1 p0 o n a r k : Byte} (h : [3, p1, p0, o, n, a, r, k].foldl (· + ·) (0 : Byte) = 0) :
    receiveRadio [3, p1, p0, o, n, a, r, k] = .reply (join16 p1 p0) o n a r := if_neg (not_not.mpr h)

theorem exec_done (hreset : s.inReset = false) (o n a : Byte) : exec (.done o n a) s = .next (takeDone o n a s) :=
  unlessReset_of_not_inReset hreset _

theorem exec_reply (hreset : s.inReset = false) (p : Half) (o n a r : Byte) :
    exec (.reply p o n a r) s = .next (takeReply p o n a r s) :=
  unlessReset_of_not_inReset hreset _

theorem exec_message_discarded (hreset : s.inReset = false) {bytes : List Byte} (h : receiveRadio bytes = .discarded) :
    exec (.radioMessageDiscarded bytes) s = .next s := by
  simp only [exec, execRadioMessageDiscarded, unlessReset_of_not_inReset hreset, h]

theorem exec_message_done (hreset : s.inReset = false) {bytes : List Byte} {o n a : Byte}
    (h : receiveRadio bytes = .done o n a) : exec (.radioMessageDiscarded bytes) s = exec (.done o n a) s := by
  rw [exec_done hreset]
  simp only [exec, execRadioMessageDiscarded, unlessReset_of_not_inReset hreset, h]

theorem exec_message_reply (hreset : s.inReset = false) {bytes : List Byte} {p : Half} {o n a r : Byte}
    (h : receiveRadio bytes = .reply p o n a r) : exec (.radioMessageDiscarded bytes) s = exec (.reply p o n a r) s := by
  rw [exec_reply hreset]
  simp only [exec, execRadioMessageDiscarded, unlessReset_of_not_inReset hreset, h]

/-! ### The completion timer (R162) -/

theorem exec_completionTimeout_off (hreset : s.inReset = false) (h : s.relay.timerOn = false ∨ s.relay.exchange = .idle) :
    exec .completionTimeout s = .next s := by
  rcases h with h | h <;> simp [exec, execCompletionTimeout, unlessReset_of_not_inReset hreset, h]

theorem exec_completionTimeout_first (hreset : s.inReset = false) (htimer : s.relay.timerOn = true)
    (h : s.relay.exchange = .first) : exec .completionTimeout s = .next (retry s) := by
  simp [exec, execCompletionTimeout, unlessReset_of_not_inReset hreset, htimer, h]

theorem exec_completionTimeout_retry (hreset : s.inReset = false) (htimer : s.relay.timerOn = true)
    (h : s.relay.exchange = .retry) : exec .completionTimeout s = .next (giveUp s) := by
  simp [exec, execCompletionTimeout, unlessReset_of_not_inReset hreset, htimer, h]

theorem retry_of_flight (hone : (s.relay.list.filter (·.inFlight)).length ≤ 1) (hmem : r ∈ s.relay.list)
    (hflight : r.inFlight = true) : retry s =
      { s with relay := { s.relay with exchange := .retry, timerOn := false, transmit := transmitBytes r } } := by
  have hmem' : r ∈ s.relay.list.filter (·.inFlight) := List.mem_filter.mpr ⟨hmem, hflight⟩
  have hlist : s.relay.list.filter (·.inFlight) = [r] := by
    have hlen : (s.relay.list.filter (·.inFlight)).length = 1 := le_antisymm hone (List.length_pos_of_mem hmem')
    obtain ⟨x, hx⟩ := List.length_eq_one_iff.mp hlen
    rw [hx] at hmem' ⊢
    rw [List.mem_singleton.mp hmem']
  have hfind : s.relay.list.find? (·.inFlight) = some r := by
    rw [← List.head?_filter, hlist]
    rfl
  unfold retry
  rw [hfind]

theorem retry_of_none (hnone : ∀ r ∈ s.relay.list, r.inFlight = false) : retry s = kick { s with relay := s.relay.idle } := by
  have hfind : s.relay.list.find? (·.inFlight) = none := List.find?_eq_none.mpr fun r hr => by rw [hnone r hr]; exact Bool.false_ne_true
  unfold retry
  rw [hfind]

/-- The relay, its exchange ended without a record dropped. -/
theorem idle_safe {b : Relay} (h : b.Safe) (hnone : ∀ r ∈ b.list, r.inFlight = false) : b.idle.Safe :=
  h.thin (r' := b.idle) (List.Sublist.refl _) fun _ => ⟨List.all_eq_true.mpr fun r hr => by rw [hnone r hr]; rfl, rfl⟩

/-! ### A REPLY (R163) -/

theorem replyInRange_iff (pager : Half) (o n a r : Byte) : replyInRange pager o n a r = true ↔
    pager.toNat ≤ 1023 ∧ 1 ≤ o.toNat ∧ o.toNat ≤ 31 ∧ 1 ≤ n.toNat ∧ a.toNat ≤ 2 ∧ r.toNat ≤ 1 := by
  simp [replyInRange, and_assoc]

/-- R163: what a REPLY in range hands and clears. -/
def State.replied (s : State) (pager : Half) (o n a r : Byte) : State :=
  { hand (.answer o n a pager r) s with relay := { s.relay with list := s.relay.list.filter fun x =>
      !(x.key.origin.val == o.toNat && x.key.number == n.toNat) } }

theorem forgetPage_hand {o : Byte} (ho : o.toNat ≤ 31) (pager : Half) (n a r : Byte) :
    forgetPage { origin := Fin.ofNat 32 o.toNat, number := n.toNat, attempt := a.toNat } (hand (.answer o n a pager r) s) =
      s.replied pager o n a r := by
  have hval : (Fin.ofNat 32 o.toNat : Station).val = o.toNat := Nat.mod_eq_of_lt (by omega)
  have hkey (x : RelayRec) : x.key.samePage { origin := Fin.ofNat 32 o.toNat, number := n.toNat, attempt := a.toNat } =
      (x.key.origin.val == o.toNat && x.key.number == n.toNat) := by
    unfold RelayKey.samePage
    conv => rhs; rw [← hval]
    exact congrArg (· && _) (decide_eq_decide.mpr Fin.ext_iff)
  unfold forgetPage State.replied
  simp only [hkey, hand_relay]

theorem takeReply_ignored {pager : Half} {o n a r : Byte} (h : s.relayActive = false ∨ replyInRange pager o n a r = false) :
    takeReply pager o n a r s = s := by
  unfold takeReply
  split
  · refine if_neg ?_
    rcases h with h | h <;> simp [h]
  · rfl

theorem takeReply_taken {pager : Half} {o n a r : Byte} (hactive : s.relayActive = true) (hgood : replyInRange pager o n a r = true) :
    takeReply pager o n a r s = if o.toNat = s.own.val then
      takeAnswer n.toNat a.toNat pager.toNat (r == 0) (s.replied pager o n a r) else s.replied pager o n a r := by
  have ho : o.toNat ≤ 31 := ((replyInRange_iff pager o n a r).mp hgood).2.2.1
  have hval : (Fin.ofNat 32 o.toNat : Station).val = o.toNat := Nat.mod_eq_of_lt (by omega)
  have howner : ((Fin.ofNat 32 o.toNat : Station) = s.own) = (o.toNat = s.own.val) := by rw [Fin.ext_iff, hval]
  have hzero : (r.toNat == 0) = (r == 0) := by
    rw [beq_eq_decide, beq_eq_decide]
    exact decide_eq_decide.mpr (by rw [← BitVec.toNat_inj]; rfl)
  unfold takeReply keyNamed
  rw [if_pos ho]
  dsimp only
  rw [hactive, hgood, hzero, forgetPage_hand ho]
  simp only [Bool.and_true, if_true, howner]

/-- An answer's escalation or report leaves the ware block. -/
theorem Reach.ware_escalations (h : Reach escalations s t) : t.ware = s.ware := h.same (g := fun s => s.ware) fun hk hmove => by
  cases hmove
  case take => simp
  case page | count | report | event | latch => rfl
  all_goals exact hk.elim

end Exchange

end Sys2Proof.Machine

namespace Sys2Proof.Proofs
open Sys2Proof.Machine

section Clauses
variable {s : State}

/-- The completion timer's clauses of O60. -/
theorem completionTimeout_retries (hreset : s.inReset = false) (hsafe : RelaySafe s) (htimer : s.relay.timerOn = true)
    (hfirst : s.relay.exchange = .first) :
    ∃ t, exec .completionTimeout s = .next t ∧ t = { s with relay := t.relay } ∧
      (∀ r ∈ s.relay.list, r.inFlight = true →
        t.relay = { s.relay with exchange := .retry, timerOn := false, transmit := transmitBytes r }) ∧
      ((∀ r ∈ s.relay.list, r.inFlight = false) → (s.relay.freed s.relay.list).sends t.relay) := by
  have hactive := active_of_busy hsafe (by rw [hfirst]; nofun)
  refine ⟨_, exec_completionTimeout_first hreset htimer hfirst, ?_⟩
  by_cases hnone : ∀ r ∈ s.relay.list, r.inFlight = false
  · rw [retry_of_none hnone, kick_of_active hactive]
    refine ⟨rfl, fun r hr hflight => ?_, fun _ => sends_kick_of_safe (idle_safe hsafe.block hnone)⟩
    rw [hnone r hr] at hflight
    cases hflight
  · push Not at hnone
    obtain ⟨r, hr, hflight⟩ := hnone
    have hflight : r.inFlight = true := by simpa using hflight
    refine ⟨by rw [retry_of_flight hsafe.flight hr hflight], fun x hx hx' => by rw [retry_of_flight hsafe.flight hx hx'],
      fun hnone => ?_⟩
    rw [hnone r hr] at hflight
    cases hflight

/-- An exchange that has ended frees the relay, and the next record is sent. -/
theorem giveUp_frees (hsafe : RelaySafe s) (hretry : s.relay.exchange = .retry) :
    giveUp s = { s with relay := (giveUp s).relay, port := { s.port with latched := (giveUp s).port.latched } } ∧
      (giveUp s).isPending .radioFault = true ∧
      (s.relay.freed (s.relay.list.filter fun r => !r.inFlight)).sends (giveUp s).relay := by
  have hactive := active_of_busy hsafe (by rw [hretry]; nofun)
  have heq : giveUp s = { latch .radioFault s with relay := s.relay.finish.kick } :=
    kick_of_active (s := latch .radioFault s) (b := s.relay.finish) hactive
  rw [heq]
  exact ⟨rfl, isPending_latch (c := .radioFault) rfl s, sends_kick_of_safe hsafe.block.finish⟩

/-- The clause of O60 on an own PAGE sent. -/
theorem noticeCompleted_offers (hreset : s.inReset = false) (hsafe : RelaySafe s) (hpages : PagesSafe s) {e : TxEntry} {p : Page}
    (haccess : s.bus.access = .sending) (hline : onLineOf s.bus.queue = some e) (horphan : e.orphan = false)
    (hbody : e.body ≠ .leave) (hp : s.page.pages.find? (fun p => p.current == some e.id) = some p) :
    ∃ t, exec .noticeCompleted s = .next t ∧
      if s.relayActive = true ∧ s.relay.covered p.group = true then
        ∃ l, offeredTo s.relay.list { key := { origin := s.own, number := p.number, attempt := p.attempt }, group := p.group,
                                      priority := p.priority, code := p.code, course := p.course, inFlight := false } l ∧
          ({ s.relay with list := l } : Relay).sends t.relay
      else t.relay = s.relay := by
  let s0 : State := bump .noticesSent { s with bus := { s.bus with queue := withoutId e.id s.bus.queue, lineBusy := false } }
  have hexec : exec .noticeCompleted s = .next (pageSent e.id (seekLine s0)) := by
    simp only [exec, execNoticeCompleted, unlessReset_of_not_inReset hreset, haccess, hline, complete, completed, horphan,
      if_neg hbody, Bool.false_eq_true, if_false]
    rfl
  have hlink : (seekLine s0).bus.link = s.bus.link := by
    show s0.bus.seek.link = _
    rw [seek_eq]
    rfl
  have hactive : (seekLine s0).relayActive = s.relayActive := by
    unfold State.relayActive State.isRadio
    rw [hlink]
    rfl
  have hrelay : (seekLine s0).relay = s.relay := rfl
  have hown : (seekLine s0).own = s.own := rfl
  have hp0 : (seekLine s0).page.pages.find? (fun p => p.current == some e.id) = some p := hp
  refine ⟨_, hexec, ?_⟩
  rw [← hactive, ← hrelay, ← hown]
  exact pageSent_offered (hsafe.of_same hrelay hactive) hp0 (hpages.priorities p (List.mem_of_find?_eq_some hp))

/-- The clause of O60 on a PAGE heard. -/
theorem pageHeard_offers (hsafe : RelaySafe s) (sender : Station) (seq number attempt group priority code course : Byte)
    (htakes : s.takesNotice { sender := sender, seq := seq, body := .page number attempt group priority code course })
    (hgood : ¬(sender = 0 ∨ sender = s.own ∨ number = 0 ∨ 2 < attempt.toNat ∨ 31 < group.toNat ∨ priority = 0 ∨
      7 < priority.toNat ∨ 15 < course.toNat)) :
    ∃ r : RelayRec, r = { key := { origin := sender, number := number.toNat, attempt := attempt.toNat },
                          group := Fin.ofNat 32 group.toNat, priority := priority.toNat, code := code.toNat,
                          course := Fin.ofNat 16 course.toNat, inFlight := false } ∧
      exec (.pageHeard sender seq number attempt group priority code course) s = .next (offerRelay r
        (s.counted { sender := sender, seq := seq, body := .page number attempt group priority code course })) ∧
      1 ≤ r.priority ∧ r.priority ≤ 7 := by
  simp only [not_or, Nat.not_lt] at hgood
  obtain ⟨hzero, hown, hnumber, hattempt, hgroup, hnopriority, hpriority, hcourse⟩ := hgood
  have hn : number.toNat ≠ 0 := fun h => hnumber (BitVec.eq_of_toNat_eq h)
  have hp : priority.toNat ≠ 0 := fun h => hnopriority (BitVec.eq_of_toNat_eq h)
  refine ⟨_, rfl, (hearing_of_takes htakes _).trans ?_, by dsimp only; omega, by dsimp only; omega⟩
  unfold takePageNotice offeredPage
  rw [if_neg]
  rintro (h | h | h | h | h | h | h | h)
  · exact hzero h
  · exact hown h
  · exact hn h
  · omega
  · omega
  · exact hp h
  · omega
  · omega

theorem pageHeard_ignored (sender : Station) (seq number attempt group priority code course : Byte)
    (htakes : s.takesNotice { sender := sender, seq := seq, body := .page number attempt group priority code course })
    (hbad : sender = 0 ∨ sender = s.own ∨ number = 0 ∨ 2 < attempt.toNat ∨ 31 < group.toNat ∨ priority = 0 ∨
      7 < priority.toNat ∨ 15 < course.toNat) :
    exec (.pageHeard sender seq number attempt group priority code course) s =
      .next (s.counted { sender := sender, seq := seq, body := .page number attempt group priority code course }) := by
  refine (hearing_of_takes htakes _).trans ?_
  unfold takePageNotice offeredPage
  rw [if_pos]
  rcases hbad with h | h | h | h | h | h | h | h
  · exact .inl h
  · exact .inr (.inl h)
  · exact .inr (.inr (.inl (by rw [h]; rfl)))
  · exact .inr (.inr (.inr (.inl h)))
  · exact .inr (.inr (.inr (.inr (.inl h))))
  · exact .inr (.inr (.inr (.inr (.inr (.inl (by rw [h]; rfl))))))
  · exact .inr (.inr (.inr (.inr (.inr (.inr (.inl h))))))
  · exact .inr (.inr (.inr (.inr (.inr (.inr (.inr h))))))

/-- R163, R151: what the answer of a REPLY to an own page leaves beside it. -/
theorem reply_frame (hreset : s.inReset = false) (pager : Half) (o n a r : Byte) (hactive : s.relayActive = true)
    (hgood : replyInRange pager o n a r = true) :
    ∃ t, exec (.reply pager o n a r) s = .next t ∧ t.settings = s.settings ∧ t.relay = (s.replied pager o n a r).relay ∧
      t.heat = s.heat ∧ t.prog = s.prog ∧ t.load = s.load ∧ t.course = s.course ∧ t.ware = s.ware ∧
      (s.bus.link.sends = true → s.bus.queue.length < 12 → o.toNat ≠ s.own.val →
        t.page = s.page ∧ t.bus.queue = s.bus.queue ++ [s.newEntry (.answer o n a pager r)]) := by
  have hhand : Beside s (hand (.answer o n a pager r) s) :=
    (Reach.hand (K := pages) trivial _ .refl).beside_of besides_admits_pages
  refine ⟨_, exec_reply hreset .., settings_of_kept (takeReply_kept ..), ?_⟩
  rw [takeReply_taken hactive hgood]
  by_cases hown : o.toNat = s.own.val
  · have hreach : Reach escalations (s.replied pager o n a r)
        (takeAnswer n.toNat a.toNat pager.toNat (r == 0) (s.replied pager o n a r)) :=
      Reach.takeAnswer (fun _ hk => hk) _ _ _ _ .refl
    have hbeside := hreach.beside_of besides_admits_escalations
    rw [if_pos hown]
    exact ⟨hbeside.relay, hbeside.heat.trans hhand.heat, hbeside.prog.trans hhand.prog, hbeside.load.trans hhand.load,
      hbeside.course.trans hhand.course, hreach.ware_escalations.trans (hand_ware ..), fun _ _ hne => absurd hown hne⟩
  · rw [if_neg hown]
    refine ⟨rfl, hhand.heat, hhand.prog, hhand.load, hhand.course, hand_ware .., fun hsends hroom _ => ?_⟩
    have hqueued : hand (.answer o n a pager r) s =
        { s with bus := (s.bus.took (s.bus.queue ++ [s.newEntry (.answer o n a pager r)])).wake } := by
      rw [hand_of_sends hsends, takeNotice_appended (b := .answer o n a pager r) (supersededBy_eq_none fun _ _ _ hkey => nomatch hkey) hroom]
    unfold State.replied
    rw [hqueued]
    exact ⟨rfl, wake_queue _⟩

end Clauses

/-- Settles O60. -/
theorem radioRelay : Obligations.RadioRelay := by
  intro s hreset hsafe sum left offered
  refine ⟨fun bytes hbad => exec_message_discarded hreset (receiveRadio_discarded hbad),
    fun o n a k hsum => exec_message_done hreset (receiveRadio_done hsum),
    fun p1 p0 o n a r k hsum => exec_message_reply hreset (receiveRadio_reply hsum),
    unlessReset_of_not_inReset hreset _, by simp only [exec, execTransmitSent, unlessReset_of_not_inReset hreset],
    fun o n a hkey => ?_,
    fun k o n a hactive hbusy hkey ho hn ha => ?_, fun htimer => exec_completionTimeout_off hreset (.inl htimer),
    fun _ hidle => exec_completionTimeout_off hreset (.inr hidle), completionTimeout_retries hreset hsafe,
    fun htimer hretry => ⟨_, exec_completionTimeout_retry hreset htimer hretry, giveUp_frees hsafe hretry⟩, ?_, ?_, ?_, ?_⟩
  · rw [exec_done hreset]
    refine congrArg _ (if_neg fun h => hkey ?_)
    simp only [Bool.and_eq_true, Option.isSome_iff_exists, beq_iff_eq] at h
    obtain ⟨⟨-, k, hk⟩, hnamed⟩ := h
    obtain ⟨ho, hn, ha⟩ := keyNamed_some (hnamed ▸ hk)
    rw [hk, ho, hn, ha]
    rfl
  · refine ⟨_, exec_done hreset o n a, ?_⟩
    have htaken : takeDone o n a s = { s with relay := s.relay.finish.kick } := by
      rw [← kick_of_active hactive]
      exact if_pos (by simp [hactive, hbusy, hkey, keyNamed_eq ho hn ha])
    rw [htaken]
    exact ⟨rfl, sends_kick_of_safe hsafe.block.finish⟩
  · intro sender seq number attempt group priority code course n cmd bad htakes
    refine ⟨pageHeard_ignored sender seq number attempt group priority code course htakes, fun hgood => ?_⟩
    obtain ⟨r, hr, hexec, hrange⟩ := pageHeard_offers hsafe sender seq number attempt group priority code course htakes hgood
    have hcounted : RelaySafe (s.counted n) := hsafe.of_same rfl rfl
    obtain ⟨hframe, hoffered⟩ := offerRelay_offered hcounted (by rw [hr]) hrange
    refine ⟨_, hexec, hframe, ?_⟩
    rw [← hr]
    exact hoffered
  · exact fun hpages e p haccess hline horphan hbody hp => noticeCompleted_offers hreset hsafe hpages haccess hline horphan hbody hp
  · intro pager o n a r good cleared handed
    have hgood : replyInRange pager o n a r = true ↔ good := replyInRange_iff pager o n a r
    have hmailbox : handed.port.mailbox = s.port.mailbox := hand_port_mailbox _ s
    have hclock : handed.course.clock = s.course.clock := congrArg Course.clock (hand_course _ s)
    refine ⟨fun hbad => ?_, fun hactive h => ⟨fun hown => ?_, fun hown => ?_,
      reply_frame hreset pager o n a r hactive (hgood.mpr h)⟩⟩
    · rw [exec_reply hreset, takeReply_ignored (hbad.imp id fun h => Bool.eq_false_iff.mpr (mt hgood.mp h))]
    · rw [exec_reply hreset, takeReply_taken hactive (hgood.mpr h), if_neg hown]
      rfl
    · have hexec : exec (.reply pager o n a r) s = .next (takeAnswer n.toNat a.toNat pager.toNat (r == 0) handed) := by
        rw [exec_reply hreset, takeReply_taken hactive (hgood.mpr h), if_pos hown]
        rfl
      refine ⟨hexec, fun haccept x hx => ⟨_, hexec, ?_⟩⟩
      subst haccept
      rw [beq_self_eq_true, takeAnswer_accepted hx, ← hmailbox, ← hclock]
      exact ⟨rfl, rfl⟩
  · intro sender seq o n a pager r heard htakes hactive hr ho hown
    refine (hearing_of_takes htakes _).trans ?_
    have hstands : answerPages o n a pager (r.toNat == 0) (s.counted heard) = s.counted heard := if_neg hown
    rw [takeAnswerNotice_eq hr, hstands, answerRelay_eq]
    unfold State.relayAnswered
    rw [if_pos (show (s.counted heard).relayActive = true from hactive)]
    rfl

end Sys2Proof.Proofs

/-! The receiver: discards, repeats and notices heard (R75–R77): O52. -/

namespace Sys2Proof.Machine

section Receiver
variable {k : Kind} {s t : State}

/-- The kinds of move that the receiver's own work and resets of the line are none of. -/
def Taken : Kind → Prop
  | .bus | .left _ _ | .restart | .reset | .leaving | .configure => False
  | _ => True

/-- No move but those of the bus itself and the resets of blocks writes a repeat record (R76). -/
theorem Move.repeats (hk : Taken k) (hmove : Move k s t) : t.bus.repeats = s.bus.repeats := by
  cases hmove
  case take b _ => exact congrArg Steady.repeats (takeNotice_steady b s)
  case release r st isLocal _ _ => exact congrArg Steady.repeats (releaseRec_steady r st isLocal s)
  case bus | left | restart | asserted | released | leaving | configure => exact hk.elim
  all_goals simp

theorem Reach.repeats (h : Reach Taken s t) : t.bus.repeats = s.bus.repeats :=
  h.same (g := fun s => s.bus.repeats) fun hk hmove => hmove.repeats hk

/-- R77: what the blocks make of a notice is none of the receiver's own work. -/
theorem passOn_reach (n : Notice) (s : State) : Reach Taken s (passOn n s) := by
  have hreacts : ∀ c, Admits Taken (firesWith c) := fun c k hk => by cases k <;> first | trivial | exact hk.elim
  have hescalations : Admits Taken escalations := fun k hk => by cases k <;> first | trivial | exact hk.elim
  have hlosses : Admits Taken losses := fun k hk => by
    cases k <;> first | trivial | exact hk.elim id id
  have hloads : Admits Taken loads := fun k hk => by cases k <;> first | trivial | exact hk.elim
  have hwares : Admits Taken wares := fun k hk => by cases k <;> first | trivial | exact hk.elim
  obtain ⟨sender, seq, body⟩ := n
  cases body with
  | leave => exact Reach.losePeer hlosses sender .refl
  | hold c q =>
    refine .ite (fun _ => .refl) fun hfields => ?_
    simp only [not_or] at hfields
    exact Reach.requestHold (firesWith_admits_reactsOn (hreacts _)) (fun _ => ⟨by omega, hfields.1⟩) .refl
  | answer o n a p r => exact Reach.takeAnswerNotice trivial hescalations o n a p r .refl
  | page n a g p m c => exact Reach.takePageNotice trivial sender n a g p m c .refl
  | ware l b c => exact Reach.takeWareNotice hwares sender l b c .refl
  | load q f w d l => exact Reach.takeLoadNotice hloads sender q f w d l .refl
  | course c m fire spare plates warm =>
    unfold passOn takeCourseNotice
    dsimp only
    split
    · exact Reach.takeCourse (hreacts _) .refl
    · exact .refl

theorem exec_heardAs_ignored (hreset : s.inReset = false) {n : Notice} (h : s.accepts = false ∨ s.isRepeat n = true) :
    exec n.heardAs s = .next s := by
  rw [exec_heardAs, unlessReset_of_not_inReset hreset]
  refine congrArg _ (if_pos ?_)
  rcases h with h | h <;> simp [h]

theorem exec_heardAs_taken {n : Notice} (h : s.takesNotice n) : exec n.heardAs s = .next (passOn n (s.counted n)) :=
  (exec_heardAs n s).trans (hearing_of_takes h _)

/-! ### Bytes at the receiver (R75) -/

theorem exec_discarded_off (hreset : s.inReset = false) {bytes : List Byte} (h : s.takes = false) :
    exec (.noticeDiscarded bytes) s = .next s := by
  simp only [exec, execNoticeDiscarded, unlessReset_of_not_inReset hreset]
  unfold receiveBytes
  rw [h]
  rfl

theorem exec_discarded_truncated (hreset : s.inReset = false) {bytes : List Byte} (htakes : s.takes = true)
    (h : receive bytes = .truncated) : exec (.noticeDiscarded bytes) s = .next (bump .truncated s) := by
  simp only [exec, execNoticeDiscarded, unlessReset_of_not_inReset hreset, receiveBytes, htakes, h, Bool.not_true,
    Bool.false_eq_true, if_false]

theorem exec_discarded_badCheck (hreset : s.inReset = false) {bytes : List Byte} (htakes : s.takes = true)
    (h : receive bytes = .badCheck) : exec (.noticeDiscarded bytes) s = .next (bump .badCheck s) := by
  simp only [exec, execNoticeDiscarded, unlessReset_of_not_inReset hreset, receiveBytes, htakes, h, Bool.not_true,
    Bool.false_eq_true, if_false]

theorem exec_discarded_unknown (hreset : s.inReset = false) {bytes : List Byte} (htakes : s.takes = true)
    (h : receive bytes = .unknownKind) : exec (.noticeDiscarded bytes) s = .next s := by
  simp only [exec, execNoticeDiscarded, unlessReset_of_not_inReset hreset, receiveBytes, htakes, h, Bool.not_true,
    Bool.false_eq_true, if_false]

theorem exec_discarded_good (hreset : s.inReset = false) {bytes : List Byte} (htakes : s.takes = true) {n : Notice}
    (h : receive bytes = .good n) : exec (.noticeDiscarded bytes) s = exec n.heardAs s := by
  rw [exec_heardAs]
  simp only [exec, execNoticeDiscarded, unlessReset_of_not_inReset hreset, receiveBytes, htakes, h, Bool.not_true,
    Bool.false_eq_true, if_false]

theorem receive_long {bytes : List Byte} (h : 32 < bytes.length) : receive bytes = .truncated := if_pos h

theorem receive_short {bytes : List Byte} (h : bytes.length < 4) : receive bytes = .badCheck := by
  unfold receive
  rw [if_neg (by omega), if_pos h]

end Receiver

end Sys2Proof.Machine

namespace Sys2Proof.Proofs
open Sys2Proof.Machine

/-- Settles O52. -/
theorem receiver : Obligations.Receiver := by
  refine ⟨fun bytes s hreset => ⟨fun hoff => exec_discarded_off hreset ?_, fun hhears hmark => ?_⟩,
    fun n s hreset => ⟨fun hoff => exec_heardAs_ignored hreset (.inl ?_), fun hsending => exec_heardAs_ignored hreset (.inl ?_),
      fun r hr hseq hcheck hrecent => exec_heardAs_ignored hreset (.inr ?_), fun htakes =>
      ⟨Vector.getElem_set_self .., fun st hst => Vector.getElem_set_ne n.sender.isLt st.isLt fun h => hst (Fin.ext h.symm), State.counter_bump _ _,
        _, exec_heardAs_taken htakes, (passOn_reach n (s.counted n)).repeats⟩⟩⟩
  · rcases hoff with h | h <;> simp [State.takes, h]
  · have htakes : s.takes = true := by simp [State.takes, hhears, hmark]
    exact ⟨fun h => exec_discarded_truncated hreset htakes (receive_long h), exec_discarded_badCheck hreset htakes,
      exec_discarded_unknown hreset htakes, receive_short,
      fun n h => exec_discarded_good hreset htakes (h ▸ receive_bytes n)⟩
  · rcases hoff with h | h <;> simp [State.accepts, State.takes, h]
  · simp [State.accepts, hsending]
  · simp [State.isRepeat, hr, hseq, hcheck, hrecent]

end Sys2Proof.Proofs

/-! The access machine and the head of the queue (R59, R71–R75): O50. -/

namespace Sys2Proof.Machine

section Access
variable {s : State} {q : List TxEntry} {e : TxEntry} {cls : TxClass} {b : Bus}

/-- The first waiting notice of its class. -/
theorem head_waitingOf (h : (waitingOf cls q).head? = some e) : ∃ l1 l2, q = l1 ++ e :: l2 ∧ e.waiting = true ∧ e.body.txClass = cls ∧
    ∀ x ∈ l1, x.waiting = true → x.body.txClass ≠ cls := by
  unfold waitingOf at h
  rw [List.head?_filter, List.find?_eq_some_iff_append] at h
  obtain ⟨hp, l1, l2, hq, hbefore⟩ := h
  simp only [Bool.and_eq_true, beq_iff_eq] at hp
  refine ⟨l1, l2, hq, hp.1, hp.2, fun x hx hw hcls => ?_⟩
  have := hbefore x hx
  simp [hw, hcls] at this

/-- R71: the head of the queue is the first waiting notice of class A, or of B, or of C. -/
theorem headOf_split (h : headOf q = some e) : ∃ l1 l2, q = l1 ++ e :: l2 ∧ e.waiting = true ∧
    (∀ x ∈ l1, x.waiting = true → x.body.txClass ≠ e.body.txClass) ∧
    (∀ x ∈ q, x.waiting = true → x.body.txClass = .a → e.body.txClass = .a) ∧
    (e.body.txClass = .c → ∀ x ∈ q, x.waiting = true → x.body.txClass = .c) := by
  have hnone {c : TxClass} (hc : (waitingOf c q).head? = none) : ∀ x ∈ q, x.waiting = true → x.body.txClass ≠ c :=
    waitingOf_eq_nil_iff.mp (List.head?_eq_none_iff.mp hc)
  unfold headOf at h
  rw [List.head?_append, List.head?_append, Option.or_assoc] at h
  cases ha : (waitingOf .a q).head? with
  | some x =>
    rw [ha, Option.some_or, Option.some.injEq] at h
    obtain ⟨l1, l2, hq, hw, hcls, hbefore⟩ := head_waitingOf (h ▸ ha)
    exact ⟨l1, l2, hq, hw, hcls ▸ hbefore, fun _ _ _ _ => hcls, fun hc => by rw [hcls] at hc; cases hc⟩
  | none =>
  have hnoa := hnone ha
  rw [ha, Option.none_or] at h
  cases hb : (waitingOf .b q).head? with
  | some x =>
    rw [hb, Option.some_or, Option.some.injEq] at h
    obtain ⟨l1, l2, hq, hw, hcls, hbefore⟩ := head_waitingOf (h ▸ hb)
    exact ⟨l1, l2, hq, hw, hcls ▸ hbefore, fun x hx hw ha => absurd ha (hnoa x hx hw), fun hc => by rw [hcls] at hc; cases hc⟩
  | none =>
    have hnob := hnone hb
    rw [hb, Option.none_or] at h
    obtain ⟨l1, l2, hq, hw, hcls, hbefore⟩ := head_waitingOf h
    refine ⟨l1, l2, hq, hw, hcls ▸ hbefore, fun x hx hw ha => absurd ha (hnoa x hx hw), fun _ x hx hw => ?_⟩
    cases hx' : x.body.txClass with
    | a => exact absurd hx' (hnoa x hx hw)
    | b => exact absurd hx' (hnob x hx hw)
    | c => rfl

/-- R71: the gap entered is the class gap of the head and 0 to 7 slots. -/
def GapFor (h : TxEntry) (g : Nat) : Prop := ∃ k, k < 8 ∧ g = h.body.txClass.gapUs + 16 * k

/-- R71–R74: what seeking the line leaves of the access machine. -/
theorem seek_seeks (b : Bus) : (headOf b.queue = none → b.seek.access = .empty) ∧ ∀ h, headOf b.queue = some h →
    (b.lineBusy = true → b.seek.access = .deferred) ∧ (b.lineBusy = false → b.seek.access = .gap ∧ GapFor h b.seek.gapUs) := by
  rcases seek_cases b with ⟨hnone, heq⟩ | ⟨x, hx, ⟨hline, heq⟩ | ⟨hline, heq⟩⟩ <;> rw [heq]
  · refine ⟨fun _ => rfl, fun h hh => ?_⟩
    rw [hnone] at hh
    cases hh
  · refine ⟨fun h => ?_, fun h hh => ⟨fun _ => rfl, fun hidle => ?_⟩⟩
    · rw [hx] at h
      cases h
    · rw [hline] at hidle
      cases hidle
  · refine ⟨fun h => ?_, fun h hh => ⟨fun hbusy => ?_, fun _ => ⟨rfl, Config.draw b.draws % 8, Nat.mod_lt _ (by omega), ?_⟩⟩⟩
    · rw [hx] at h
      cases h
    · rw [hline] at hbusy
      cases hbusy
    · rw [hx, Option.some.injEq] at hh
      rw [hh]

theorem exec_lineIdle (hreset : s.inReset = false) : exec .lineIdle s = .next (lineIdle s) := by
  simp only [exec, execLineIdle, hreset, Bool.false_eq_true, if_false]

theorem setBusy_false (s : State) : setBusy false s = { s with bus := { s.bus with lineBusy := false, startMissed := false } } := rfl

theorem exec_lineBusy (hreset : s.inReset = false) : exec .lineBusy s = .next { s with bus := { s.bus with
    lineBusy := true, startMissed := !s.bus.link.hears,
    access := if s.bus.access = .gap then .deferred else s.bus.access } } := by
  have hbusy : setBusy true s = { s with bus := { s.bus with lineBusy := true, startMissed := !s.bus.link.hears } } := by
    unfold setBusy State.receiverOn
    rw [hreset]
    rfl
  simp only [exec, execLineBusy, hreset, Bool.false_eq_true, if_false, hbusy]
  unfold deferGap
  dsimp only
  split <;> rfl

/-- R71: the head goes into transmission. -/
theorem startSending_head {l1 l2 : List TxEntry} (hhead : headOf s.bus.queue = some e) (hq : s.bus.queue = l1 ++ e :: l2)
    (hids : (s.bus.queue.map (·.id)).Nodup) : startSending s =
      { s with bus := { s.bus with queue := l1 ++ { e with onLine := true } :: l2, access := .sending, lineBusy := true } } := by
  unfold startSending
  rw [hhead]
  dsimp only
  have hnodup := (List.perm_middle.map TxEntry.id).nodup_iff.mp (hq ▸ hids)
  rw [List.map_cons, List.nodup_cons] at hnodup
  have hqueue : (s.bus.queue.map fun x => if x.id = e.id then { x with onLine := true } else x) =
      l1 ++ { e with onLine := true } :: l2 := by
    rw [hq]
    exact map_eq_of_one (if_pos rfl) fun z hz => if_neg fun (heq : z.id = e.id) => hnodup.1 (heq ▸ List.mem_map_of_mem hz)
  rw [hqueue]

end Access

end Sys2Proof.Machine

namespace Sys2Proof.Proofs
open Sys2Proof.Machine

/-- Settles O50. -/
theorem access : Obligations.Access := by
  intro s hreset gapFor seeks
  have hgap (h : TxEntry) (g : Nat) (hg : GapFor h g) : gapFor h g := by
    obtain ⟨k, hk, rfl⟩ := hg
    exact ⟨k, hk, by cases h.body.txClass <;> rfl⟩
  have hseeks (b : Bus) (busy missed : Bool) (hb : b = { s.bus with lineBusy := busy, startMissed := missed }) :
      seeks { s with bus := b.seek } busy missed := by
    subst hb
    obtain ⟨hnone, hsome⟩ := seek_seeks { s.bus with lineBusy := busy, startMissed := missed }
    refine ⟨by rw [seek_eq], hnone, fun h hh => ⟨(hsome h hh).1, fun hidle => ?_⟩⟩
    exact ⟨((hsome h hh).2 hidle).1, hgap h _ ((hsome h hh).2 hidle).2⟩
  refine ⟨⟨_, exec_lineIdle hreset, fun hdeferred => ?_, fun hsending => if_pos hsending, fun hdeferred hsending => ?_⟩,
    exec_lineBusy hreset, fun hno => ?_, fun hyes h hhead hsafe => ?_, fun hno => ?_, fun hyes => ?_⟩
  · unfold lineIdle
    rw [if_neg (by rw [hdeferred]; nofun), if_pos hdeferred]
    exact hseeks _ false false rfl
  · unfold lineIdle
    rw [if_neg hsending, if_neg hdeferred, setBusy_false]
  · exact (unlessReset_of_not_inReset hreset _).trans (congrArg _ (if_neg hno))
  · obtain ⟨l1, l2, hq, hw, hbefore, ha, hc⟩ := headOf_split hhead
    refine ⟨l1, l2, hq, hw, hbefore, ha, hc, ?_⟩
    rw [← startSending_head hhead hq hsafe.ids]
    exact (unlessReset_of_not_inReset hreset _).trans (congrArg _ (if_pos hyes))
  · exact (unlessReset_of_not_inReset hreset _).trans (congrArg _ (if_neg hno))
  · refine ⟨_, (unlessReset_of_not_inReset hreset _).trans (congrArg _ (if_pos hyes)), hseeks s.bus _ _ rfl⟩

end Sys2Proof.Proofs

/-! How a transmission ends, and what entry to LEFT leaves (R70, R72–R74, R79, R80): O51. -/

namespace Sys2Proof.Machine

section Left
variable {s t : State} {e : TxEntry} {k : CounterName} {busy : Bool}

theorem enterLeft_port (s : State) : (enterLeft s).port = (latch .withdrawDone s).port := by
  simp [enterLeft, emptyRelay, emptyRoute, latch]

/-- R79, R80: what entry to LEFT leaves of the state `s` in which a notice ended, with the counter of its end and the line. -/
def LeftBehind (s : State) (k : CounterName) (busy : Bool) (t : State) : Prop :=
  t.settings = s.settings ∧ t.isPending .withdrawDone = true ∧ (∀ j, j ≠ k → t.counter j = s.counter j) ∧
    t.port = { s.port with counters := t.port.counters, latched := t.port.latched } ∧
    t.bus = { s.bus with
      link := .left, lineBusy := busy, startMissed := s.bus.startMissed || busy, access := .empty, queue := [],
      repeats := t.bus.repeats } ∧
    (∀ st : Station, t.bus.repeats[st] = none) ∧
    (∀ z : ZoneNo, t.prog.runs[z] = Run.idle) ∧ (∀ c : CourseNo, t.prog.plates[c] = 0) ∧
    t.heat.step = s.heat.step ∧ t.heat.windowGrant = 0 ∧
    t.heat.draw = (if s.heat.windowGrant = 0 then s.heat.draw
      else (zoneNos.map fun z => t.heat.zones[z].plan.length * s.heat.zones[z].rating).sum / 20) ∧
    (∀ z : ZoneNo, t.heat.zones[z] =
      { s.heat.zones[z] with
        on := false, plan := s.heat.zones[z].plan.filter (· ≤ s.heat.step),
        allot := if s.heat.windowGrant = 0 then s.heat.zones[z].allot else 0 }) ∧
    t.load = { s.load with
      peers := [], grant := 0, applied := 0, expiryGrant := t.load.expiryGrant, clash := false, clashHeard := false,
      mismatch := false, curtailCount := 0, curtailed := false } ∧
    t.course = { s.course with schedule := [], board := [], clearing := [] } ∧
    t.ware = { s.ware with
      enable := false, waiting := 0, racks := [], conveyor := .off, subCause := none, margin := false,
      heldLow := false, levelHigh := false, repeatCount := 0, wash := [] } ∧
    t.route = { s.route with events := [], evaluation := none } ∧ t.page = { s.page with pages := [] } ∧
    t.relay.list = [] ∧ t.relay.exchange = .idle ∧ t.relay.key = none ∧ t.relay.timerOn = false

theorem enterLeft_zone (s : State) (z : ZoneNo) : (enterLeft s).heat.zones[z] =
    { s.heat.zones[z] with
      on := false, plan := s.heat.zones[z].plan.filter (· ≤ s.heat.step),
      allot := if s.heat.windowGrant = 0 then s.heat.zones[z].allot else 0 } := by
  rw [enterLeft_heat, clearBlocks_zone]
  rfl

theorem enterLeft_windowGrant (s : State) : (enterLeft s).heat.windowGrant = 0 := by
  rw [enterLeft_heat, clearBlocks_windowGrant]

theorem enterLeft_draw (s : State) : (enterLeft s).heat.draw = if s.heat.windowGrant = 0 then s.heat.draw
    else (zoneNos.map fun z => (enterLeft s).heat.zones[z].plan.length * s.heat.zones[z].rating).sum / 20 := by
  rw [enterLeft_heat, clearBlocks_draw]

/-- The state in which a notice has ended: out of the queue, its end counted, and the line as it then stands. -/
def State.endedWith (s : State) (k : CounterName) (e : TxEntry) (busy : Bool) : State :=
  bump k { s with bus := { s.bus with queue := withoutId e.id s.bus.queue, lineBusy := busy } }

theorem counter_endedWith (s : State) (k : CounterName) (e : TxEntry) (busy : Bool) :
    (s.endedWith k e busy).counter k = (s.counter k).bump :=
  State.counter_bump k { s with bus := { s.bus with queue := withoutId e.id s.bus.queue, lineBusy := busy } }

theorem leftBehind_enterLeft (s : State) (k : CounterName) (e : TxEntry) (busy : Bool) :
    LeftBehind s k busy (enterLeft (s.endedWith k e busy)) := by
  have hsettings : (enterLeft (s.endedWith k e busy)).settings = s.settings := settings_of_kept (enterLeft_kept _)
  have hcounter (j : CounterName) (hj : j ≠ k) : (enterLeft (s.endedWith k e busy)).counter j = s.counter j := by
    unfold State.counter
    rw [enterLeft_port_counters]
    exact counter_bump_other hj _
  have hpending : (enterLeft (s.endedWith k e busy)).isPending .withdrawDone = true := by
    rw [isPending_of_latched rfl, enterLeft_port, ← isPending_of_latched rfl]
    exact isPending_latch rfl _
  have hport : (enterLeft (s.endedWith k e busy)).port = { s.port with
      counters := (enterLeft (s.endedWith k e busy)).port.counters
      latched := (enterLeft (s.endedWith k e busy)).port.latched } := by
    rw [enterLeft_port]
    rfl
  have hbus := enterLeft_bus (s.endedWith k e busy)
  have hload := enterLeft_load (s.endedWith k e busy)
  have hdraw := enterLeft_draw (s.endedWith k e busy)
  have hrelay := enterLeft_relay (s.endedWith k e busy)
  refine ⟨hsettings, hpending, hcounter, hport, ?_, fun st => ?_, enterLeft_prog_runs _, fun c => ?_, enterLeft_heat_step _,
    enterLeft_windowGrant _, hdraw, enterLeft_zone _, ?_, enterLeft_course _, enterLeft_ware _, enterLeft_route _,
    enterLeft_page _, congrArg Relay.list hrelay, congrArg Relay.exchange hrelay, congrArg Relay.key hrelay,
    congrArg Relay.timerOn hrelay⟩
  · rw [hbus]
    rfl
  · rw [hbus]
    simp
  · rw [enterLeft_prog_plates]
    simp
  · rw [hload]
    rfl

end Left

section Ends
variable {s t : State} {e : TxEntry} {k : CounterName} {busy : Bool}

/-- R70, R73, R79: a notice has left the queue for good, and its end has been counted. -/
def Ended (s : State) (e : TxEntry) (k : CounterName) (busy : Bool) (t : State) : Prop :=
  (¬(e.orphan = false ∧ e.body = .leave) → t.bus.queue = s.bus.queue.filter fun x => x.id != e.id) ∧
    t.counter k = (s.counter k).bump ∧ (e.orphan = false → e.body = .leave → LeftBehind s k busy t) ∧
    (e.orphan = false → e.body ≠ .leave →
      t.bus.link = s.bus.link ∧ t.heat = s.heat ∧ t.prog = s.prog ∧ t.load = s.load ∧ t.course = s.course ∧
        t.ware = s.ware ∧ t.route = s.route ∧ t.page.groups = s.page.groups)

theorem seekLine_queue (s : State) : (seekLine s).bus.queue = s.bus.queue := seek_queue s.bus
theorem seekLine_link (s : State) : (seekLine s).bus.link = s.bus.link := seek_link s.bus

/-- R70, R79: a notice whose end is counted goes without a further effect, or takes the station to LEFT, or its owner is told. -/
theorem ended_of_told {told : State → State} (horphan : e.orphan = true → t = seekLine (s.endedWith k e busy))
    (hleave : e.orphan = false → e.body = .leave → t = enterLeft (s.endedWith k e busy))
    (htold : e.orphan = false → e.body ≠ .leave → t = told (s.endedWith k e busy))
    (hframe : ∀ u, (told u).bus.queue = u.bus.queue ∧ (told u).bus.link = u.bus.link ∧ (told u).port = u.port ∧
      (told u).heat = u.heat ∧ (told u).prog = u.prog ∧ (told u).load = u.load ∧ (told u).course = u.course ∧
      (told u).ware = u.ware ∧ (told u).route = u.route ∧ (told u).page.groups = u.page.groups) : Ended s e k busy t := by
  have hcounted (u : State) (h : u.port.counters = (s.endedWith k e busy).port.counters) : u.counter k = (s.counter k).bump := by
    rw [← counter_endedWith s k e busy]
    unfold State.counter
    rw [h]
  obtain ⟨hqueue, hlink, hport, hheat, hprog, hload, hcourse, hware, hroute, hgroups⟩ := hframe (s.endedWith k e busy)
  cases ho : e.orphan with
  | true =>
    rw [horphan ho]
    refine ⟨fun _ => seekLine_queue _, hcounted _ rfl, fun h => ?_, fun h => ?_⟩ <;>
    · rw [ho] at h
      cases h
  | false =>
    by_cases hl : e.body = .leave
    · rw [hleave ho hl]
      exact ⟨fun h => absurd ⟨ho, hl⟩ h, hcounted _ (enterLeft_port_counters _), fun _ _ => leftBehind_enterLeft s k e busy,
        fun _ h => absurd hl h⟩
    · rw [htold ho hl]
      exact ⟨fun _ => hqueue, hcounted _ (congrArg Port.counters hport), fun _ h => absurd h hl,
        fun _ _ => ⟨hlink, hheat, hprog, hload, hcourse, hware, hroute, hgroups⟩⟩

/-! ### A notice dropped (R70) -/

theorem dropEntry_orphan (h : e.orphan = true) (s : State) :
    dropEntry e s = seekLine { s with bus := { s.bus with queue := withoutId e.id s.bus.queue } } := if_pos h

theorem dropEntry_leave (h : e.orphan = false) (hl : e.body = .leave) (s : State) :
    dropEntry e s = enterLeft { s with bus := { s.bus with queue := withoutId e.id s.bus.queue } } := by
  unfold dropEntry
  rw [h, if_neg Bool.false_ne_true, if_pos hl]

theorem dropEntry_other (h : e.orphan = false) (hl : e.body ≠ .leave) (s : State) :
    dropEntry e s = seekLine (pageNotSent e.id { s with bus := { s.bus with queue := withoutId e.id s.bus.queue } }) := by
  unfold dropEntry
  rw [h, if_neg Bool.false_ne_true, if_neg hl]

/-- R72, R74: a notice dropped has ended, on the line as it stands. -/
theorem ended_dropEntry (s : State) (e : TxEntry) (k : CounterName) : Ended s e k s.bus.lineBusy (dropEntry e (bump k s)) :=
  ended_of_told (told := fun u => seekLine (pageNotSent e.id u)) (fun h => dropEntry_orphan h _) (fun h hl => dropEntry_leave h hl _)
    (fun h hl => dropEntry_other h hl _) fun u => ⟨seekLine_queue _, seekLine_link _, rfl, rfl, rfl, rfl, rfl, rfl, rfl, rfl⟩

theorem dropEntry_not_current (h : e.orphan = false) (hl : e.body ≠ .leave) (s : State) :
    ∀ p ∈ (dropEntry e s).page.pages, p.current ≠ some e.id := by
  rw [dropEntry_other h hl]
  intro p hp
  obtain ⟨q, -, rfl⟩ := List.mem_map.mp hp
  split
  · nofun
  · assumption

/-! ### A notice completed (R73, R146) -/

theorem offerRelay_frame (r : RelayRec) (s : State) : offerRelay r s = { s with relay := (offerRelay r s).relay } := by
  unfold offerRelay kick
  split <;> rfl

/-- R146: what "sent" does is in the page block and the relay alone. -/
theorem pageSent_frame (id : Nat) (s : State) : ∃ pages, pageSent id s =
    { s with page := { s.page with pages := pages }, relay := (pageSent id s).relay } ∧
      ∀ p, s.page.pages.find? (·.current == some id) = some p → pages = s.page.pages.map fun x =>
        if x.number = p.number then { x with state := .sent, current := none, timer := answerTimeout x.priority } else x := by
  unfold pageSent
  split
  next hnone =>
    refine ⟨s.page.pages, rfl, fun p hp => ?_⟩
    rw [hnone] at hp
    cases hp
  next p hp =>
    have hpages (q : Page) (hq : s.page.pages.find? (·.current == some id) = some q) : q = p := by
      rw [hp] at hq
      exact (Option.some.inj hq).symm
    dsimp only
    split
    · rw [offerRelay_frame]
      exact ⟨_, rfl, fun q hq => by rw [hpages q hq]⟩
    · exact ⟨_, rfl, fun q hq => by rw [hpages q hq]⟩

theorem complete_orphan (h : e.orphan = true) (s : State) : complete e s = seekLine (s.endedWith .noticesSent e false) := if_pos h

theorem complete_leave (h : e.orphan = false) (hl : e.body = .leave) (s : State) :
    complete e s = enterLeft (s.endedWith .noticesSent e false) := by
  unfold complete completed
  rw [h, if_neg Bool.false_ne_true, if_pos hl]
  rfl

theorem complete_other (h : e.orphan = false) (hl : e.body ≠ .leave) (s : State) :
    complete e s = pageSent e.id (seekLine (s.endedWith .noticesSent e false)) := by
  unfold complete completed
  rw [h, if_neg Bool.false_ne_true, if_neg hl]
  rfl

/-- R73: a notice that completes has ended, with the line idle. -/
theorem ended_complete (s : State) (e : TxEntry) : Ended s e .noticesSent false (complete e s) := by
  refine ended_of_told (told := fun u => pageSent e.id (seekLine u)) (fun h => complete_orphan h s)
    (fun h hl => complete_leave h hl s) (fun h hl => complete_other h hl s) fun u => ?_
  obtain ⟨pages, heq, -⟩ := pageSent_frame e.id (seekLine u)
  rw [heq]
  exact ⟨seekLine_queue _, seekLine_link _, rfl, rfl, rfl, rfl, rfl, rfl, rfl, rfl⟩

/-- R146: the page whose notice was sent is SENT, with the answer time of its priority. -/
theorem complete_sends {p : Page} (h : e.orphan = false) (hl : e.body ≠ .leave)
    (hp : s.page.pages.find? (fun p => p.current == some e.id) = some p) :
    { p with state := .sent, current := none, timer := answerTimeout p.priority } ∈ (complete e s).page.pages := by
  obtain ⟨pages, heq, hpages⟩ := pageSent_frame e.id (seekLine (s.endedWith .noticesSent e false))
  rw [complete_other h hl, heq]
  show _ ∈ pages
  rw [hpages p hp]
  exact List.mem_map.mpr ⟨p, List.mem_of_find?_eq_some hp, if_pos rfl⟩

/-! ### A collision (R72) -/

theorem exec_collision (hreset : s.inReset = false) (haccess : s.bus.access = .sending) (hline : onLineOf s.bus.queue = some e) :
    exec .collision s = .next (collide e s) := by
  simp only [exec, execCollision, unlessReset_of_not_inReset hreset, haccess, hline]

theorem exec_noticeCompleted (hreset : s.inReset = false) (haccess : s.bus.access = .sending)
    (hline : onLineOf s.bus.queue = some e) : exec .noticeCompleted s = .next (complete e s) := by
  simp only [exec, execNoticeCompleted, unlessReset_of_not_inReset hreset, haccess, hline]

theorem exec_ends_none (hreset : s.inReset = false) (haccess : s.bus.access ≠ .sending) :
    exec .collision s = .next s ∧ exec .noticeCompleted s = .next s := by
  simp only [exec, execCollision, execNoticeCompleted, unlessReset_of_not_inReset hreset]
  cases h : s.bus.access
  case sending => exact absurd h haccess
  all_goals exact ⟨rfl, rfl⟩

theorem collide_orphan (h : e.orphan = true) : collide e s = dropEntry e s := if_pos h

theorem collide_last (h : e.orphan = false) (hlast : 7 ≤ e.attempts) : collide e s = dropEntry e (bump .contentionDrop s) := by
  unfold collide
  rw [h, if_neg Bool.false_ne_true, if_pos (by omega)]

theorem collide_again (h : e.orphan = false) (hmore : e.attempts < 7) : collide e s = { s with
    bus := { s.bus with queue := afterCollision e (e.attempts + 1) s.bus.queue }.backOff (e.attempts + 1) } := by
  unfold collide
  rw [h, if_neg Bool.false_ne_true, if_neg (by omega)]

theorem afterCollision_middle {l1 l2 : List TxEntry} {n : Nat} {q : List TxEntry} (hids : (q.map (·.id)).Nodup)
    (hkeys : ∀ x ∈ q, x.waiting = true → e.body.key.isSome = true → x.body.key ≠ e.body.key) (hq : q = l1 ++ e :: l2) :
    afterCollision e n q = l1 ++ { e with onLine := false, attempts := n } :: l2 := by
  unfold afterCollision
  rw [supersededBy_eq_none hkeys, if_neg (by simp)]
  subst hq
  exact map_id_eq hids fun x => { x with onLine := false, attempts := n }

/-! ### A wait of 500 ms (R74) -/

theorem exec_deferDrop (hreset : s.inReset = false) :
    exec .deferDrop s = .next (if s.bus.brinkDefer then waitMilli s else s) := unlessReset_of_not_inReset hreset _

theorem brinkDefer_of_none (h : s.bus.waiter = none) : s.bus.brinkDefer = false := by
  unfold Bus.brinkDefer
  rw [h]
  rfl

theorem brinkDefer_of_some (h : s.bus.waiter = some e) : s.bus.brinkDefer = decide (499 ≤ e.waitMs) := by
  unfold Bus.brinkDefer
  rw [h]
  rfl

theorem waitMilli_drops (h : s.bus.waiter = some e) (hlate : 499 ≤ e.waitMs) : waitMilli s = dropEntry e (bump .deferDrop s) := by
  unfold waitMilli
  rw [h]
  exact if_pos hlate

end Ends

end Sys2Proof.Machine

namespace Sys2Proof.Proofs
open Sys2Proof.Machine

/-- Settles O51. -/
theorem transmissionEnds : Obligations.TransmissionEnds := by
  intro s hreset hsafe ended
  have hended (e : TxEntry) (k : CounterName) (t : State)
      (h : Ended s e k (if k = .noticesSent then false else s.bus.lineBusy) t) : ended e k t := h
  refine ⟨exec_ends_none hreset, fun hrest => ?_, fun e haccess hline => ⟨?_, fun horphan => ?_, fun horphan hmore => ?_,
    fun horphan hlast => ?_⟩, fun e hwaits hhead => ⟨fun hearly => ?_, fun hlate horphan => ?_⟩⟩
  · rw [exec_deferDrop hreset, brinkDefer_of_none (waiter_eq_none (.inl hrest))]
    rfl
  · refine ⟨_, exec_noticeCompleted hreset haccess hline, hended e _ _ (ended_complete s e), fun horphan hbody p hp hpages => ?_⟩
    exact ⟨_, complete_sends horphan hbody hp, rfl, rfl, rfl, rfl⟩
  · refine ⟨_, exec_collision hreset haccess hline, ?_⟩
    rw [collide_orphan horphan, dropEntry_orphan horphan]
    exact ⟨rfl, seekLine_queue _⟩
  · refine ⟨_, exec_collision hreset haccess hline, ?_⟩
    rw [collide_again horphan hmore]
    exact ⟨rfl, ⟨_, Nat.mod_lt _ (Nat.two_pow_pos _), rfl⟩, fun hkeys l1 l2 hq => afterCollision_middle hsafe.ids hkeys hq⟩
  · refine ⟨_, exec_collision hreset haccess hline, hended e _ _ ?_⟩
    rw [collide_last horphan hlast]
    exact ended_dropEntry s e .contentionDrop
  · rw [exec_deferDrop hreset, brinkDefer_of_some (waiter_eq_some hwaits hhead), decide_eq_false (by omega)]
    rfl
  · have hwaiter := waiter_eq_some hwaits hhead
    refine ⟨_, exec_deferDrop hreset, ?_⟩
    rw [brinkDefer_of_some hwaiter, decide_eq_true hlate, if_pos rfl, waitMilli_drops hwaiter hlate]
    exact ⟨hended e _ _ (ended_dropEntry s e .deferDrop), fun hbody => dropEntry_not_current horphan hbody _⟩

end Sys2Proof.Proofs

/-! SUPPORT. What the changes of runs and courses leave of the zones: their settings and samples stand, a zone whose run leaves the
active states leaves the window, the events join the queue in order, and a run changes only where the course block asks for it. -/

namespace Sys2Proof.Machine

/-- The zone has left the window at the step given: its output is off, and its plan holds no further step (R16). -/
def Zone.Closed (step : Nat) (zn : Zone) : Prop := zn.on = false ∧ zn.plan.filter (· ≤ step) = zn.plan

/-- A zone whose settings, samples and plan steps begun stand, which stays out of the window once it has left it. -/
structure Zone.Steered (step : Nat) (a b : Zone) : Prop where
  alike : a.Alike b
  begun : b.plan.filter (· ≤ step) = a.plan.filter (· ≤ step)
  closed : a.Closed step → b.on = false ∧ b.plan = a.plan
  on : b.on = true → a.on = true

section Zones
variable {a b c : Zone} {step : Nat}

theorem Zone.Steered.refl (step : Nat) (a : Zone) : a.Steered step a := ⟨.refl a, rfl, fun h => ⟨h.1, rfl⟩, id⟩

theorem Zone.Steered.trans (h : a.Steered step b) (h' : b.Steered step c) : a.Steered step c where
  alike := h.alike.trans h'.alike
  begun := h'.begun.trans h.begun
  closed hclosed := by
    obtain ⟨hoff, hplan⟩ := h.closed hclosed
    obtain ⟨hoff', hplan'⟩ := h'.closed ⟨hoff, by rw [hplan]; exact hclosed.2⟩
    exact ⟨hoff', hplan'.trans hplan⟩
  on := h.on ∘ h'.on

theorem Zone.filter_leaves (a : Zone) (step : Nat) : (a.leaves step).plan.filter (· ≤ step) = (a.leaves step).plan := by
  show (a.plan.filter (· ≤ step)).filter (· ≤ step) = a.plan.filter (· ≤ step)
  rw [List.filter_filter]
  simp only [Bool.and_self]

theorem Zone.leaves_closed (a : Zone) (step : Nat) : (a.leaves step).Closed step := ⟨rfl, a.filter_leaves step⟩

theorem Zone.leaves_steered (a : Zone) (step : Nat) : a.Steered step (a.leaves step) :=
  ⟨a.leaves_alike step, a.filter_leaves step, fun h => ⟨rfl, h.2⟩, nofun⟩

/-- R18: a re-allotment adds only steps that follow the one in progress, and none to a plan that holds no further one. -/
theorem Zone.replan_steered (a : Zone) (step allot : Nat) : a.Steered step (a.replan step allot) := by
  refine ⟨(a.replan_stays step allot).alike, ?_, fun h => ⟨h.1, ?_⟩, (a.replan_stays step allot).on⟩
  · show (a.plan.filter (· ≤ step) ++ _).filter (· ≤ step) = _
    rw [List.filter_append, List.filter_filter]
    have hnone (l : List Nat) : ((l.map (step + 1 + ·)).filter (· < 20)).filter (· ≤ step) = [] := by
      rw [List.filter_eq_nil_iff]
      intro k hk
      obtain ⟨hk, -⟩ := List.mem_filter.mp hk
      obtain ⟨i, -, rfl⟩ := List.mem_map.mp hk
      simp
      omega
    rw [hnone, List.append_nil]
    simp only [Bool.and_self]
  · show a.plan.filter (· ≤ step) ++ _ = _
    rw [h.2, Nat.sub_eq_zero_of_le (Nat.min_le_right _ _)]
    exact List.append_nil _

end Zones

/-! ### The relation along a chain -/

/-- R128: the events of a queue stand first in a later one, unless that has filled, and none has gone since. -/
def Extends (q q' : List Event) : Prop := (q <+: q' ∨ 16 ≤ q'.length) ∧ q.length ≤ q'.length

theorem Extends.refl (q : List Event) : Extends q q := ⟨.inl List.prefix_rfl, Nat.le_refl _⟩

theorem Extends.trans {q q' q'' : List Event} (h : Extends q q') (h' : Extends q' q'') : Extends q q'' := by
  refine ⟨?_, h.2.trans h'.2⟩
  rcases h'.1 with hpre' | hfull
  · exact h.1.imp (fun hpre => hpre.trans hpre') fun hfull => hfull.trans h'.2
  · exact .inr hfull

theorem extends_queueEvent (q : List Event) (e : Event) : Extends q (queueEvent q e) := by
  unfold queueEvent
  split
  · exact ⟨.inl (List.prefix_append ..), by simp⟩
  next hfull =>
    have hlen : 16 ≤ q.length := Nat.not_lt.mp hfull
    split
    · split
      next i hi =>
        have hlt : i < q.length := (List.findIdx?_eq_some_iff_getElem.mp hi).1
        have heq : (q.eraseIdx i ++ [e]).length = q.length := by
          rw [List.length_append, List.length_eraseIdx_of_lt hlt, List.length_singleton]
          omega
        exact ⟨.inr (heq ▸ hlen), heq.ge⟩
      · exact .refl q
    · exact .refl q

/-- What a change of runs and courses leaves of the zones, the step, the link and the order of events. -/
structure Steers (s t : State) : Prop where
  step : t.heat.step = s.heat.step
  link : t.bus.link = s.bus.link
  oe : t.oe = s.oe
  zone : ∀ z : ZoneNo, s.heat.zones[z].Steered s.heat.step t.heat.zones[z]
  out : ∀ z : ZoneNo, s.prog.runs[z].state.active = true → t.prog.runs[z].state.active = false →
    t.heat.zones[z].on = false ∧ t.heat.zones[z].plan = s.heat.zones[z].plan.filter (· ≤ s.heat.step)
  events : Extends s.route.events t.route.events

/-- The kinds of such a change. -/
def steering : Kind → Prop
  | .event | .report | .latch | .count | .take | .given _ | .record _ | .enterReleased _ | .release _ | .add _ | .clearing
  | .run _ | .done _ | .grant | .drive => True
  | _ => False

section Steers
variable {s t u : State} {k : Kind} {K : Kind → Prop}

theorem Steers.refl (s : State) : Steers s s :=
  ⟨rfl, rfl, rfl, fun _ => .refl _ _, fun _ h h' => (Bool.false_ne_true (h'.symm.trans h)).elim, .refl _⟩

theorem Steers.trans (h : Steers s t) (h' : Steers t u) : Steers s u where
  step := h'.step.trans h.step
  link := h'.link.trans h.link
  oe := h'.oe.trans h.oe
  zone z := (h.zone z).trans (h.step ▸ h'.zone z)
  out z hactive hnot := by
    cases hmid : t.prog.runs[z].state.active with
    | false =>
      obtain ⟨hoff, hplan⟩ := h.out z hactive hmid
      have hclosed : t.heat.zones[z].Closed t.heat.step := ⟨hoff, by
        rw [hplan, h.step]
        exact s.heat.zones[z].filter_leaves s.heat.step⟩
      obtain ⟨hoff', hplan'⟩ := (h'.zone z).closed hclosed
      exact ⟨hoff', hplan'.trans hplan⟩
    | true =>
      obtain ⟨hoff, hplan⟩ := h'.out z hmid hnot
      rw [h.step, (h.zone z).begun] at hplan
      exact ⟨hoff, hplan⟩
  events := h.events.trans h'.events

/-- The same zones and runs, and events that only join. -/
theorem Steers.of_same (hheat : t.heat = s.heat) (hlink : t.bus.link = s.bus.link) (hoe : t.oe = s.oe)
    (hruns : t.prog.runs = s.prog.runs) (hevents : Extends s.route.events t.route.events) : Steers s t where
  step := by rw [hheat]
  link := hlink
  oe := hoe
  zone z := by rw [hheat]; exact .refl _ _
  out z h h' := by
    rw [hruns, h] at h'
    cases h'
  events := hevents

theorem raise_events (e : Event) (s : State) : Extends s.route.events (raise e s).route.events := by
  unfold raise
  dsimp only
  split
  · exact extends_queueEvent _ e
  · exact .refl _

theorem steers_raise (e : Event) (s : State) : Steers s (raise e s) := .of_same rfl rfl rfl rfl (raise_events e s)

theorem steers_setRun (z : ZoneNo) (r : Run) (s : State) : Steers s (setRun z r s) where
  step := setRun_heat_step z r s
  link := rfl
  oe := rfl
  zone y := by
    rw [setRun_zone]
    split
    · exact Zone.leaves_steered _ _
    · exact .refl _ _
  out y h h' := by
    rw [setRun_runs] at h'
    rw [setRun_zone]
    split at h'
    next heq =>
      subst heq
      rw [if_pos ⟨rfl, h, h'⟩]
      exact ⟨rfl, rfl⟩
    next =>
      rw [h] at h'
      cases h'
  events := .refl _

theorem applyGrant_steered (g : Nat) (s : State) (z : ZoneNo) :
    s.heat.zones[z].Steered s.heat.step (applyGrant g s).heat.zones[z] := by
  rcases applyGrant_cases g s with ⟨-, h⟩ | ⟨-, h⟩ <;> rw [h]
  · exact .refl _ _
  · rw [reallot_zone]
    exact Zone.replan_steered _ _ _

theorem steers_lowerGrant (m : Nat) (s : State) : Steers s (lowerGrant m s) where
  step := lowerGrant_heat_step m s
  link := by rw [lowerGrant_bus]
  oe := lowerGrant_oe m s
  zone z := by
    unfold lowerGrant
    split
    · exact applyGrant_steered m s z
    · exact .refl _ _
  out z h h' := by
    rw [lowerGrant_prog, h] at h'
    cases h'
  events := by rw [lowerGrant_route]; exact .refl _

theorem steers_driveConveyor (s : State) : Steers s (driveConveyor s) := by
  unfold driveConveyor
  dsimp only
  split
  · exact (Steers.of_same (s := s) (t := mapWare (·.move s.conveyorTarget) s) rfl rfl rfl rfl (.refl _)).trans (steers_raise _ _)
  · exact .of_same rfl rfl rfl rfl (.refl _)

theorem steers_addRec (r : CourseRec) (s : State) : Steers s (addRec r s) :=
  .of_same (by simp) (by simp) (by simp) (by simp) (by simpa using .refl _)

theorem Move.steers (hsingle : k.single) (hk : steering k) (hmove : Move k s t) : Steers s t := by
  cases hmove
  case event e => exact steers_raise e s
  case take b _ => exact .of_same (takeNotice_heat b s) (by simp) (by simp) (by simp) (by simpa using .refl _)
  case add => exact steers_addRec _ s
  case run z r _ => exact steers_setRun z r s
  case done z _ => exact steers_setRun z _ s
  case grant m => exact steers_lowerGrant m s
  case drive => exact steers_driveConveyor s
  case report | latch | count | given | record | enterReleased | clearing => exact .of_same rfl rfl rfl rfl (.refl _)
  case release => exact hsingle.elim
  all_goals exact hk.elim

theorem whole_steering : Whole steering where
  release _ _ k hk := by cases k <;> first | trivial | exact hk.elim
  leaving h := h.elim

/-- R16: what a chain of such changes leaves of the zones. -/
theorem Reach.steers (hK : Admits steering K) (h : Reach K s t) : Steers s t :=
  (h.mono (K' := steering) fun _ hk => hK hk).keepsWhole (P := Steers s) whole_steering
    (fun hsingle hk hmove hs => hs.trans (hmove.steers hsingle hk)) (.refl s)

/-- The samples stand (R4–R6). -/
theorem Steers.samples (h : Steers s t) : t.samples = s.samples := by
  unfold State.samples
  refine List.map_congr_left fun z _ => ?_
  have halike := (h.zone z).alike
  rw [halike.temp, halike.probe, halike.age, halike.isOver]

theorem Steers.hasLeft (h : Steers s t) {z : ZoneNo} (hactive : s.prog.runs[z].state.active = true)
    (hnot : t.prog.runs[z].state.active = false) : t.hasLeft s z := by
  obtain ⟨hoff, hplan⟩ := h.out z hactive hnot
  exact ⟨hoff, by rw [hplan, h.step]⟩

/-- What has left the window stays out of it. -/
theorem State.hasLeft.steered {z : ZoneNo} (h : t.hasLeft s z) (h' : Steers t u) : u.hasLeft s z := by
  obtain ⟨hoff, hplan⟩ := h
  have hclosed : t.heat.zones[z].Closed t.heat.step := ⟨hoff, by
    rw [hplan]
    exact s.heat.zones[z].filter_leaves t.heat.step⟩
  obtain ⟨hoff', hplan'⟩ := (h'.zone z).closed hclosed
  exact ⟨hoff', by rw [hplan', hplan, h'.step]⟩

/-! ### Events that join first -/

/-- R128: exactly the events given have joined the queue, unless it has filled. -/
def Joins (s : State) (es : List Event) (t : State) : Prop :=
  t.bus.link = s.bus.link ∧
    (s.bus.link.takesEvents = true → t.route.events = s.route.events ++ es ∨ 16 ≤ t.route.events.length)

theorem Joins.of_same (hlink : t.bus.link = s.bus.link) (h : t.route.events = s.route.events) : Joins s [] t :=
  ⟨hlink, fun _ => .inl (by rw [h, List.append_nil])⟩

theorem Joins.raise {es : List Event} (h : Joins s es t) (e : Event) : Joins s (es ++ [e]) (raise e t) := by
  refine ⟨h.1, fun htakes => ?_⟩
  have htakes' : t.bus.link.takesEvents = true := by rw [h.1, htakes]
  by_cases hroom : t.route.events.length < 16
  · rw [raise_of_room htakes' hroom]
    rcases h.2 htakes with heq | hfull
    · exact .inl (by rw [heq, List.append_assoc])
    · omega
  · exact .inr ((Nat.not_lt.mp hroom).trans (raise_events e t).2)

theorem Joins.same {es : List Event} (h : Joins s es t) (hlink : u.bus.link = t.bus.link) (hevents : u.route.events = t.route.events) :
    Joins s es u := ⟨hlink.trans h.1, fun htakes => by rw [hevents]; exact h.2 htakes⟩

/-- The events that joined first stay first. -/
theorem Joins.queuesFirst {es : List Event} (h : Joins s es t) (h' : Steers t u) : u.queuesFirst s es := fun htakes =>
  (h.2 htakes).elim (fun heq => h'.events.1.imp_left fun hpre => heq ▸ hpre) fun hfull => .inr (hfull.trans h'.events.2)

end Steers

end Sys2Proof.Machine

/-! SUPPORT. What the course block's own work leaves of the runs: each stands, or a release has made it DONE (R34); and the heater
outputs of the runs that stay active stand. -/

namespace Sys2Proof.Machine

/-- The kinds of move by which runs change only as releases of the courses given have it. -/
def settling (D : CourseNo → Prop) : Kind → Prop
  | .done d | .release d | .enterReleased d => D d
  | .run _ => False
  | k => steering k

/-- The runs stand but for releases of the courses given. -/
structure Follows (D : CourseNo → Prop) (s t : State) : Prop where
  run : ∀ z : ZoneNo, t.prog.runs[z] = s.prog.runs[z] ∨ s.prog.runs[z].state.live = true ∧ D s.prog.runs[z].course ∧
    t.prog.runs[z] = { s.prog.runs[z] with state := .done, late := false }
  on : ∀ z : ZoneNo, t.prog.runs[z].state.active = true → t.heat.zones[z].on = s.heat.zones[z].on

section Follows
variable {D : CourseNo → Prop} {s t u : State} {k : Kind} {K : Kind → Prop}

theorem Follows.refl (s : State) : Follows D s s := ⟨fun _ => .inl rfl, fun _ _ => rfl⟩

/-- A run that the later state has active was so before, and stands. -/
theorem Follows.active (h : Follows D s t) {z : ZoneNo} (hactive : t.prog.runs[z].state.active = true) :
    t.prog.runs[z] = s.prog.runs[z] := by
  rcases h.run z with heq | ⟨-, -, heq⟩
  · exact heq
  · rw [heq] at hactive
    cases hactive

/-- A run that is not live stands. -/
theorem Follows.stands (h : Follows D s t) {z : ZoneNo} (hdead : s.prog.runs[z].state.live = false) :
    t.prog.runs[z] = s.prog.runs[z] := by
  rcases h.run z with heq | ⟨hlive, -, -⟩
  · exact heq
  · rw [hdead] at hlive
    cases hlive

theorem Follows.trans (h : Follows D s t) (h' : Follows D t u) : Follows D s u where
  run z := by
    rcases h.run z with heq | ⟨hlive, hcourse, heq⟩
    · rw [← heq]
      exact h'.run z
    · refine .inr ⟨hlive, hcourse, (h'.stands ?_).trans heq⟩
      rw [heq]
      rfl
  on z hactive := by
    have hmid : t.prog.runs[z].state.active = true := by
      rw [← h'.active hactive]
      exact hactive
    exact (h'.on z hactive).trans (h.on z hmid)

theorem Follows.of_same (hheat : t.heat = s.heat) (hruns : t.prog.runs = s.prog.runs) : Follows D s t :=
  ⟨fun z => .inl (by rw [hruns]), fun z _ => by rw [hheat]⟩

theorem follows_lowerGrant (m : Nat) (s : State) : Follows D s (lowerGrant m s) where
  run z := .inl (by rw [lowerGrant_prog])
  on z _ := by
    unfold lowerGrant
    split
    · rcases applyGrant_cases m s with ⟨-, h⟩ | ⟨-, h⟩ <;> rw [h]
      rw [reallot_zone]
      rfl
    · rfl

theorem follows_done {z : ZoneNo} (hlive : s.prog.runs[z].state.live = true) (hcourse : D s.prog.runs[z].course) :
    Follows D s (setRun z { s.prog.runs[z] with state := .done, late := false } s) where
  run y := by
    rw [setRun_runs]
    split
    next heq =>
      subst heq
      exact .inr ⟨hlive, hcourse, rfl⟩
    · exact .inl rfl
  on y hactive := by
    rw [setRun_runs] at hactive
    split at hactive
    · cases hactive
    next hne => rw [setRun_zone, if_neg fun h => hne h.1]

theorem Move.follows (hsingle : k.single) (hk : settling D k) (hmove : Move k s t) : Follows D s t := by
  cases hmove
  case take b _ => exact .of_same (takeNotice_heat b s) (by simp)
  case add => exact .of_same (by simp) (by simp)
  case done z hlive => exact follows_done hlive hk
  case grant m => exact follows_lowerGrant m s
  case drive =>
    unfold driveConveyor
    dsimp only
    split <;> exact .of_same rfl rfl
  case event | report | latch | count | given | record | enterReleased | clearing => exact .of_same rfl rfl
  case release => exact hsingle.elim
  all_goals exact hk.elim

theorem whole_settling : Whole (settling D) where
  release c hc k hk := by
    cases k
    case enterReleased d | done d => exact hk ▸ hc
    all_goals first | trivial | exact hk.elim
  leaving h := h.elim

/-- R34: the runs after a chain that sets none. -/
theorem Reach.follows (hK : Admits (settling D) K) (h : Reach K s t) : Follows D s t :=
  (h.mono (K' := settling D) fun _ hk => hK hk).keepsWhole (P := Follows D s) whole_settling
    (fun hsingle hk hmove hs => hs.trans (hmove.follows hsingle hk)) (.refl s)

theorem steering_admits_settling : Admits steering (settling D) := fun k hk => by
  cases k <;> first | trivial | exact hk.elim

theorem settling_admits_reacts : Admits (settling fun _ => True) reacts := fun k hk => by
  cases k <;> first | trivial | exact hk.elim

theorem settling_admits_reactsOn {c : CourseNo} : Admits (settling (· = c)) (reactsOn c) := fun k hk => by
  cases k <;> first | exact hk | trivial

theorem Follows.mono {D' : CourseNo → Prop} (hle : ∀ c, D c → D' c) (h : Follows D s t) : Follows D' s t :=
  ⟨fun z => (h.run z).imp_right fun ⟨hlive, hcourse, heq⟩ => ⟨hlive, hle _ hcourse, heq⟩, h.on⟩

/-- What a change of zones brings to the other blocks (R37, R55, R115). -/
theorem zonesChanged_reach (s : State) : Reach (settling fun _ => True) s (zonesChanged s) :=
  Reach.zonesChanged settling_admits_reacts trivial trivial .refl

theorem steers_zonesChanged (s : State) : Steers s (zonesChanged s) := (zonesChanged_reach s).steers steering_admits_settling

theorem follows_zonesChanged (s : State) : Follows (fun _ => True) s (zonesChanged s) :=
  (zonesChanged_reach s).follows fun _ hk => hk

end Follows

/-! ### Faults (R7) -/

section Faults
variable {s t u : State} {z : ZoneNo}

/-- R7: the event of a fault of the run `r` in the zone `zn` of number `z`. -/
def faultEvent (z : ZoneNo) (r : Run) (zn : Zone) : Event :=
  { kind := if zn.isOver then .zoneOver else .zoneStale, course := r.course, zone := some z, station := none,
    value := BitVec.ofInt 16 zn.eventTemp }

theorem faultCheck_faults (h : (s.prog.runs[z].state.active && (s.heat.zones[z].isOver || s.heat.zones[z].stale)) = true) :
    faultCheck z s = raise (faultEvent z s.prog.runs[z] s.heat.zones[z]) (setRun z { s.prog.runs[z] with state := .fault } s) :=
  if_pos h

theorem faultCheck_stands (h : (s.prog.runs[z].state.active && (s.heat.zones[z].isOver || s.heat.zones[z].stale)) = false) :
    faultCheck z s = s := by
  unfold faultCheck
  dsimp only
  rw [h]
  exact if_neg Bool.false_ne_true

theorem faultCheck_runs (z y : ZoneNo) (s : State) : (faultCheck z s).prog.runs[y] =
    if z = y ∧ (s.prog.runs[y].state.active && (s.heat.zones[y].isOver || s.heat.zones[y].stale)) = true then
      { s.prog.runs[y] with state := .fault } else s.prog.runs[y] := by
  cases h : (s.prog.runs[z].state.active && (s.heat.zones[z].isOver || s.heat.zones[z].stale)) with
  | true =>
    rw [faultCheck_faults h, raise_prog, setRun_runs]
    by_cases heq : z = y
    · subst heq
      rw [if_pos rfl, if_pos ⟨rfl, h⟩]
    · rw [if_neg heq, if_neg fun hc => heq hc.1]
  | false =>
    rw [faultCheck_stands h, if_neg]
    rintro ⟨rfl, hyes⟩
    rw [h] at hyes
    cases hyes

theorem steers_faultCheck (z : ZoneNo) (s : State) : Steers s (faultCheck z s) := by
  cases h : (s.prog.runs[z].state.active && (s.heat.zones[z].isOver || s.heat.zones[z].stale)) with
  | true =>
    rw [faultCheck_faults h]
    exact (steers_setRun z _ s).trans (steers_raise _ _)
  | false =>
    rw [faultCheck_stands h]
    exact .refl s

/-- R7, R128: the events of the faults of the zones given, as the zones stand. -/
def State.faultsOf (s : State) (zs : List ZoneNo) : List Event :=
  (zs.filter fun z => s.prog.runs[z].state.active && (s.heat.zones[z].isOver || s.heat.zones[z].stale)).map fun z =>
    faultEvent z s.prog.runs[z] s.heat.zones[z]

theorem faultsOf_singleton (z : ZoneNo) (s : State) : s.faultsOf [z] =
    if (s.prog.runs[z].state.active && (s.heat.zones[z].isOver || s.heat.zones[z].stale)) = true then
      [faultEvent z s.prog.runs[z] s.heat.zones[z]] else [] := by
  unfold State.faultsOf
  rw [List.filter_singleton]
  split
  next h =>
    rw [h]
    rfl
  next h =>
    rw [Bool.eq_false_iff.mpr h]
    rfl

theorem Joins.faultCheck {es : List Event} (h : Joins s es t) (z : ZoneNo) :
    Joins s (es ++ t.faultsOf [z]) (faultCheck z t) := by
  rw [faultsOf_singleton]
  cases hf : (t.prog.runs[z].state.active && (t.heat.zones[z].isOver || t.heat.zones[z].stale)) with
  | true =>
    rw [faultCheck_faults hf, if_pos rfl]
    exact Joins.raise (h.same (u := setRun z { t.prog.runs[z] with state := .fault } t) rfl rfl) _
  | false =>
    rw [faultCheck_stands hf, if_neg Bool.false_ne_true, List.append_nil]
    exact h

/-- The faults of other zones leave those of the zones to come. -/
theorem faultsOf_faultCheck {zs : List ZoneNo} (hz : z ∉ zs) (s : State) : (faultCheck z s).faultsOf zs = s.faultsOf zs := by
  have hrun (y : ZoneNo) (hy : y ∈ zs) : (faultCheck z s).prog.runs[y] = s.prog.runs[y] := by
    rw [faultCheck_runs, if_neg]
    rintro ⟨rfl, -⟩
    exact hz hy
  have halike (y : ZoneNo) : s.heat.zones[y].Alike (faultCheck z s).heat.zones[y] := ((steers_faultCheck z s).zone y).alike
  have hevent (y : ZoneNo) (hy : y ∈ zs) : faultEvent y (faultCheck z s).prog.runs[y] (faultCheck z s).heat.zones[y] =
      faultEvent y s.prog.runs[y] s.heat.zones[y] := by
    rw [hrun y hy]
    unfold faultEvent Zone.eventTemp
    rw [(halike y).isOver, (halike y).temp]
  unfold State.faultsOf
  have hfilter : (zs.filter fun y => (faultCheck z s).prog.runs[y].state.active &&
      ((faultCheck z s).heat.zones[y].isOver || (faultCheck z s).heat.zones[y].stale)) =
      zs.filter fun y => s.prog.runs[y].state.active && (s.heat.zones[y].isOver || s.heat.zones[y].stale) :=
    List.filter_congr fun y hy => by rw [hrun y hy, (halike y).isOver, (halike y).stale]
  rw [hfilter]
  exact List.map_congr_left fun y hy => hevent y (List.mem_filter.mp hy).1

/-- R7: the faults of several zones, one after another. -/
theorem Joins.faultChecks {es : List Event} {zs : List ZoneNo} (hnodup : zs.Nodup) (h : Joins s es t) :
    Joins s (es ++ t.faultsOf zs) (zs.foldl (fun s z => Machine.faultCheck z s) t) := by
  induction zs generalizing es t with
  | nil => simpa [State.faultsOf] using h
  | cons z zs ih =>
    obtain ⟨hz, hzs⟩ := List.nodup_cons.mp hnodup
    have hnext := ih hzs (h.faultCheck z)
    rw [faultsOf_faultCheck hz, List.append_assoc] at hnext
    have hsplit : t.faultsOf (z :: zs) = t.faultsOf [z] ++ t.faultsOf zs := by
      unfold State.faultsOf
      rw [← List.map_append, ← List.filter_append]
      rfl
    rw [hsplit]
    exact hnext

theorem steers_faultChecks (zs : List ZoneNo) (s : State) : Steers s (zs.foldl (fun s z => faultCheck z s) s) :=
  foldl_inv (P := Steers s) _ (fun u z hu => hu.trans (steers_faultCheck z u)) zs s (.refl s)

/-- R7: the runs after the faults of several zones. -/
theorem faultChecks_runs (zs : List ZoneNo) (s : State) (y : ZoneNo) :
    (zs.foldl (fun s z => faultCheck z s) s).prog.runs[y] =
      if y ∈ zs ∧ (s.prog.runs[y].state.active && (s.heat.zones[y].isOver || s.heat.zones[y].stale)) = true then
        { s.prog.runs[y] with state := .fault } else s.prog.runs[y] := by
  induction zs generalizing s with
  | nil => rw [List.foldl_nil, if_neg]; exact fun h => absurd h.1 List.not_mem_nil
  | cons z zs ih =>
    have halike := ((steers_faultCheck z s).zone y).alike
    rw [List.foldl_cons, ih, faultCheck_runs, halike.isOver, halike.stale]
    by_cases hyes : (s.prog.runs[y].state.active && (s.heat.zones[y].isOver || s.heat.zones[y].stale)) = true
    · by_cases hz : z = y
      · subst hz
        rw [if_pos (⟨rfl, hyes⟩ : z = z ∧ _), if_pos (⟨List.mem_cons_self .., hyes⟩ : z ∈ z :: zs ∧ _), if_neg]
        rintro ⟨-, hno⟩
        cases hno
      · have hmem : y ∈ z :: zs ↔ y ∈ zs := by simp [Ne.symm hz]
        simp only [hmem, hz, false_and, if_false]
    · have hinner : ¬(z = y ∧ (s.prog.runs[y].state.active && (s.heat.zones[y].isOver || s.heat.zones[y].stale)) = true) :=
        fun h => hyes h.2
      rw [if_neg hinner, if_neg fun h => hyes h.2, if_neg fun h => hyes h.2]

/-- The events of R7 as the statements write them. -/
theorem faultEvents_eq {zs : List ZoneNo} (hruns : ∀ z ∈ zs, u.prog.runs[z] = s.prog.runs[z])
    (hzones : ∀ z ∈ zs, u.heat.zones[z].Alike t.heat.zones[z]) : t.faultEvents s zs = u.faultsOf zs := by
  unfold State.faultEvents State.faultsOf
  have hfilter : (zs.filter fun z => s.prog.runs[z].state.active && (t.heat.zones[z].isOver || 6 ≤ t.heat.zones[z].age)) =
      zs.filter fun z => u.prog.runs[z].state.active && (u.heat.zones[z].isOver || u.heat.zones[z].stale) :=
    List.filter_congr fun z hz => by rw [hruns z hz, (hzones z hz).isOver, ← (hzones z hz).stale]; rfl
  rw [hfilter]
  refine List.map_congr_left fun z hz => ?_
  have hz := (List.mem_filter.mp hz).1
  unfold faultEvent Zone.eventTemp
  rw [hruns z hz, (hzones z hz).isOver, (hzones z hz).temp]

end Faults

end Sys2Proof.Machine

/-! ABORT and the ticks of one run (R29, R30, R32, R33, R35): O36, O37. -/

namespace Sys2Proof.Machine

section Runs
variable {s t u : State} {z : ZoneNo} {r : Run} {zn : Zone}

/-- R37, R55: what follows a change of runs. -/
theorem settled_reach (s : State) : Reach (settling fun _ => True) s (followDemand (deriveAll s)) :=
  Reach.followDemand trivial (Reach.deriveAll settling_admits_reacts .refl)

theorem derived_reach (cs : List CourseNo) (s : State) :
    Reach (settling fun _ => True) s (followDemand (cs.foldl (fun s c => derive c s) s)) :=
  Reach.followDemand trivial (Reach.foldl (fun _ _ _ hu => hu.derive fun _ hk => settling_admits_reacts (reactsOn_le_reacts hk)) .refl)

/-! ### ABORT (R35) -/

theorem steers_setRuns (zs : List ZoneNo) (r : Run) (s : State) : Steers s (overZones zs (fun z => setRun z r) s) :=
  foldl_inv (P := Steers s) _ (fun u z hu => hu.trans (steers_setRun z r u)) zs s (.refl s)

theorem setRuns_runs (zs : List ZoneNo) (r : Run) (s : State) (z : ZoneNo) :
    (overZones zs (fun z => setRun z r) s).prog.runs[z] = if z ∈ zs then r else s.prog.runs[z] := by
  unfold overZones
  induction zs generalizing s with
  | nil => rw [List.foldl_nil, if_neg List.not_mem_nil]
  | cons y zs ih =>
    rw [List.foldl_cons, ih, setRun_runs]
    by_cases hz : z ∈ zs
    · rw [if_pos hz, if_pos (List.mem_cons_of_mem _ hz)]
    · rw [if_neg hz]
      by_cases hy : y = z
      · rw [if_pos hy, if_pos (hy ▸ List.mem_cons_self ..)]
      · rw [if_neg hy, if_neg]
        simp [hz, Ne.symm hy]

/-- R35: the runs and the zones after an ABORT. -/
theorem abort_follows (zs : List ZoneNo) (s : State) :
    Steers s (abort zs s) ∧ Follows (fun _ => True) (overZones zs (fun z => setRun z Run.idle) s) (abort zs s) := by
  have hreach := derived_reach (courseNos.filter fun c => zs.any fun z => s.prog.runs[z].course == c)
    (overZones zs (fun z => setRun z Run.idle) s)
  exact ⟨(steers_setRuns zs Run.idle s).trans (hreach.steers steering_admits_settling), hreach.follows fun _ hk => hk⟩

/-! ### Entering a stage (R29) -/

/-- R29: a HOLD stage does not end. -/
theorem endsOn_hold {st : Stage} (h : st.kind = .hold) (zn : Zone) : st.endsOn zn = false := by
  unfold Stage.endsOn
  rw [h]
  cases zn.stale <;> rfl

/-- R29: the stages passed over end on the samples, and the one at which the run comes to rest does not. -/
theorem restingStage_rests (zn : Zone) (l : List Stage) (k : Nat) (hhold : ∃ st ∈ l, st.kind = .hold) :
    ∃ n st, restingStage zn l k = k + n ∧ l[n]? = some st ∧ st.endsOn zn = false ∧
      ∀ j < n, ∃ st', l[j]? = some st' ∧ st'.endsOn zn = true := by
  induction l generalizing k with
  | nil =>
    obtain ⟨st, hmem, -⟩ := hhold
    cases hmem
  | cons st l ih =>
    cases hends : st.endsOn zn with
    | false => exact ⟨0, st, by simp [restingStage, hends], rfl, hends, fun j hj => absurd hj (Nat.not_lt_zero j)⟩
    | true =>
      have hrest : ∃ st' ∈ l, st'.kind = .hold := by
        obtain ⟨st', hmem, hkind⟩ := hhold
        rcases List.mem_cons.mp hmem with rfl | hmem
        · rw [endsOn_hold hkind] at hends
          cases hends
        · exact ⟨st', hmem, hkind⟩
      obtain ⟨n, st', heq, hst', hnot, hbefore⟩ := ih (k + 1) hrest
      refine ⟨n + 1, st', by simp only [restingStage, hends, if_true, heq]; omega, hst', hnot, fun j hj => ?_⟩
      cases j with
      | zero => exact ⟨st, rfl, hends⟩
      | succ j => exact hbefore j (by omega)

/-- R29: a run with a HOLD stage ahead comes to rest at the first stage, from the one it enters, that the samples do not end. -/
theorem enter_rests (r : Run) (zn : Zone) (k : Nat) (hhold : ∃ st ∈ r.body.stages.drop k, st.kind = .hold) :
    ∃ n st, k ≤ n ∧ r.body.stages[n]? = some st ∧ st.endsOn zn = false ∧
      (∀ j < n, k ≤ j → ∃ st', r.body.stages[j]? = some st' ∧ st'.endsOn zn = true) ∧
      r.enter zn k = { r with state := st.kind.runState, stage := n, elapsed := 0, late := false } := by
  obtain ⟨n, st, heq, hst, hnot, hbefore⟩ := restingStage_rests zn (r.body.stages.drop k) k hhold
  rw [List.getElem?_drop] at hst
  refine ⟨k + n, st, Nat.le_add_right .., hst, hnot, fun j hj hk => ?_, ?_⟩
  · obtain ⟨st', hst', hends⟩ := hbefore (j - k) (by omega)
    rw [List.getElem?_drop, Nat.add_sub_cancel' hk] at hst'
    exact ⟨st', hst', hends⟩
  · unfold Run.enter
    dsimp only
    rw [heq, hst]

theorem runState_active (k : StageKind) : k.runState.active = true := by cases k <;> rfl

/-- R29, R7: the run of a zone enters a stage, and may fault at once. -/
theorem enterStage_run (k : Nat) (z : ZoneNo) (s : State) : (enterStage k z s).prog.runs[z] =
    let r := s.prog.runs[z].enter s.heat.zones[z] k
    if (r.state.active && (s.heat.zones[z].isOver || s.heat.zones[z].stale)) = true then { r with state := .fault } else r := by
  unfold enterStage
  have halike := ((steers_setRun z (s.prog.runs[z].enter s.heat.zones[z] k) s).zone z).alike
  rw [faultCheck_runs, setRun_runs, if_pos rfl, halike.isOver, halike.stale]
  simp only [true_and]

theorem enterStage_other {y : ZoneNo} (k : Nat) (hne : z ≠ y) (s : State) : (enterStage k z s).prog.runs[y] = s.prog.runs[y] := by
  unfold enterStage
  rw [faultCheck_runs, if_neg fun h => hne h.1, setRun_runs, if_neg hne]

theorem steers_enterStage (k : Nat) (z : ZoneNo) (s : State) : Steers s (enterStage k z s) :=
  (steers_setRun z _ s).trans (steers_faultCheck z _)

/-- R29: a run that goes on to a stage has its counts clear there, and is active, or has faulted at once. -/
theorem enterStage_enters {k : Nat} (hhold : ∃ st ∈ s.prog.runs[z].body.stages.drop k, st.kind = .hold) :
    k ≤ (enterStage k z s).prog.runs[z].stage ∧ (enterStage k z s).prog.runs[z].elapsed = 0 ∧
      (enterStage k z s).prog.runs[z].late = false ∧ (enterStage k z s).prog.runs[z].state.entered := by
  obtain ⟨n, st, hk, -, -, -, henter⟩ := enter_rests s.prog.runs[z] s.heat.zones[z] k hhold
  rw [enterStage_run, henter]
  dsimp only
  split
  · exact ⟨hk, rfl, rfl, .inr (.inl rfl)⟩
  · exact ⟨hk, rfl, rfl, .inl (runState_active _)⟩

/-- R34: a run that a release may make DONE keeps its stage and its count there. -/
theorem Follows.entered {D : CourseNo → Prop} (h : Follows D s t) (z : ZoneNo) :
    t.prog.runs[z].stage = s.prog.runs[z].stage ∧ t.prog.runs[z].elapsed = s.prog.runs[z].elapsed ∧
      t.prog.runs[z].holdElapsed = s.prog.runs[z].holdElapsed ∧ t.prog.runs[z].holdOver = s.prog.runs[z].holdOver ∧
      (s.prog.runs[z].late = false → t.prog.runs[z].late = false) ∧
      (s.prog.runs[z].state.entered → t.prog.runs[z].state.entered) := by
  rcases h.run z with heq | ⟨-, -, heq⟩ <;> rw [heq]
  · exact ⟨rfl, rfl, rfl, rfl, id, id⟩
  · exact ⟨rfl, rfl, rfl, rfl, fun _ => rfl, fun _ => .inr (.inr rfl)⟩

/-! ### The ticks of one run (R30, R32, R33) -/

theorem timedEnds_iff (r : Run) : r.timedEnds = true ↔ r.state = .cooking ∧ ∃ st, r.body.stages[r.stage]? = some st ∧
    st.kind = .timed ∧ st.param ≤ (r.elapsed + 1 : Nat) := by
  unfold Run.timedEnds Run.stageNow
  cases hstate : r.state <;> cases hstage : r.body.stages[r.stage]? <;> simp

theorem becomesLate_iff (r : Run) : r.becomesLate = true ↔
    r.state = .heating ∧ r.late = false ∧ r.body.heatLimit < r.elapsed + 1 := by
  simp [Run.becomesLate, and_assoc]

theorem becomesHoldOver_iff (r : Run) : r.becomesHoldOver = true ↔
    r.state = .holding ∧ r.holdOver = false ∧ r.body.holdLimit < r.holdElapsed + 1 := by
  simp [Run.becomesHoldOver, and_assoc]

theorem exec_timedStageEnd (hreset : s.inReset = false) :
    exec (.timedStageEnd z) s = .next (if s.prog.runs[z].timedEnds then runTick z s else s) := unlessReset_of_not_inReset hreset _
theorem exec_zoneLate (hreset : s.inReset = false) :
    exec (.zoneLate z) s = .next (if s.prog.runs[z].becomesLate then runTick z s else s) := unlessReset_of_not_inReset hreset _
theorem exec_holdOver (hreset : s.inReset = false) :
    exec (.holdOver z) s = .next (if s.prog.runs[z].becomesHoldOver then runTick z s else s) := unlessReset_of_not_inReset hreset _

theorem runTick_follows (z : ZoneNo) (s : State) :
    Steers (tickRun z s) (runTick z s) ∧ Follows (fun _ => True) (tickRun z s) (runTick z s) :=
  ⟨(settled_reach _).steers steering_admits_settling, (settled_reach _).follows fun _ hk => hk⟩

/-- A run's tick that raises its event: the run counts, and its event joins the queue. -/
theorem tickRun_event {e : Event} (hends : s.prog.runs[z].timedEnds = false)
    (hevent : ∀ u, runEvent z s.prog.runs[z] s.heat.zones[z] u = raise e u)
    (hcounted : s.prog.runs[z].counted.state = s.prog.runs[z].state) :
    Joins s [e] (tickRun z s) ∧ Steers s (tickRun z s) ∧ (tickRun z s).prog.runs[z] = s.prog.runs[z].counted := by
  have heq : tickRun z s = raise e (setRun z s.prog.runs[z].counted s) := by
    unfold tickRun
    dsimp only
    rw [hends, if_neg Bool.false_ne_true, hevent]
  rw [heq]
  refine ⟨Joins.raise (es := []) (.of_same rfl rfl) e, (steers_setRun z _ s).trans (steers_raise e _), ?_⟩
  rw [raise_prog, setRun_runs, if_pos rfl]

/-- What a run's tick leaves of the station. -/
theorem runTick_frame (z : ZoneNo) (s : State) (h : Steers s (tickRun z s)) : (runTick z s).settings = s.settings ∧
    (runTick z s).steady = s.steady ∧ (runTick z s).samples = s.samples :=
  ⟨settings_of_kept (runTick_kept z s), runTick_steady z s, (h.trans (runTick_follows z s).1).samples⟩

end Runs

end Sys2Proof.Machine

namespace Sys2Proof.Proofs
open Sys2Proof.Machine

/-- Settles O36. -/
theorem abort : Obligations.Abort := by
  intro p s hup hlen zs
  have hok : (p.length == 1) = true := by simp [hlen]
  refine ⟨fun hnone => exec_refused hup.1 hok (.inr hup.2) (if_pos (by simpa using hnone)), fun hsome => ?_⟩
  obtain ⟨hsteers, hfollows⟩ := abort_follows zs s
  have hruns := setRuns_runs zs Run.idle s
  have htaken : exec (.abort p) s = .next (answerFrame s.statusByte [] .ok (Machine.abort zs s)) :=
    exec_taken hup.1 hok (.inr hup.2) (if_neg (by simpa using hsome))
  refine ⟨_, htaken, rfl, rfl, settings_of_kept (t := Machine.abort zs s) (abort_kept zs s), abort_steady zs s, hsteers.samples,
    fun z hz => ?_, fun z hactive hnot => hsteers.hasLeft hactive hnot, fun z hz => ?_⟩
  · have hidle := (hruns z).trans (if_pos hz)
    exact (hfollows.stands (by rw [hidle]; rfl)).trans hidle
  · have hsame := (hruns z).trans (if_neg hz)
    rcases hfollows.run z with heq | ⟨hlive, -, heq⟩
    · exact .inl (heq.trans hsame)
    · exact .inr ⟨congrArg Run.state heq, hsame ▸ hlive⟩

/-- Settles O37. -/
theorem runTicks : Obligations.RunTicks := by
  intro z s hreset r stage ends late overdue event
  have hends : r.timedEnds = true ↔ ends := timedEnds_iff r
  have hlate : r.becomesLate = true ↔ late := becomesLate_iff r
  have hover : r.becomesHoldOver = true ↔ overdue := becomesHoldOver_iff r
  obtain ⟨hsteers, hfollows⟩ := runTick_follows z s
  obtain ⟨hstage, helapsed, hholdElapsed, hholdOver, hnotLate, hentered⟩ := hfollows.entered z
  refine ⟨fun h => (exec_timedStageEnd hreset).trans (congrArg _ (if_neg (mt hends.mp h))), fun h => ?_,
    fun h => (exec_zoneLate hreset).trans (congrArg _ (if_neg (mt hlate.mp h))), fun h => ?_,
    fun h => (exec_holdOver hreset).trans (congrArg _ (if_neg (mt hover.mp h))), fun h => ?_⟩
  · have htick : tickRun z s = enterStage (r.stage + 1) z s := if_pos (hends.mpr h)
    obtain ⟨hsettings, hsteady, hsamples⟩ := runTick_frame z s (htick ▸ steers_enterStage (r.stage + 1) z s)
    refine ⟨_, (exec_timedStageEnd hreset).trans (congrArg _ (if_pos (hends.mpr h))), hsettings, hsteady, hsamples, fun hhold => ?_⟩
    have henters := enterStage_enters hhold
    rw [← htick] at henters
    obtain ⟨hk, hzero, hfalse, hin⟩ := henters
    exact ⟨by rw [hstage]; exact hk, helapsed.trans hzero, hnotLate hfalse, hentered hin⟩
  · have hstate := h.1
    have hnotEnds : r.timedEnds = false := Bool.eq_false_iff.mpr fun hyes => by
      have := (hends.mp hyes).1
      rw [hstate] at this
      cases this
    have hcounted : r.counted = { r with elapsed := min 7200 (r.elapsed + 1), late := r.late || r.becomesLate } := by
      unfold Run.counted
      rw [hstate]
    obtain ⟨hjoins, hsteers', hrun⟩ := tickRun_event (z := z) (s := s) hnotEnds (fun u => if_pos (hlate.mpr h))
      (congrArg Run.state hcounted :)
    have hrun := hrun.trans hcounted
    obtain ⟨hsettings, hsteady, hsamples⟩ := runTick_frame z s hsteers'
    refine ⟨_, (exec_zoneLate hreset).trans (congrArg _ (if_pos (hlate.mpr h))), hsettings, hsteady, hsamples,
      hjoins.queuesFirst hsteers, ?_, ?_, ?_⟩
    · rw [helapsed, hrun]
    · rw [hstage, hrun]
    · rcases hfollows.run z with heq | ⟨-, -, heq⟩
      · rw [heq, hrun]
        exact .inl ⟨hstate, by rw [hlate.mpr h, Bool.or_true]⟩
      · exact .inr (congrArg Run.state heq)
  · have hstate := h.1
    have hnotEnds : r.timedEnds = false := Bool.eq_false_iff.mpr fun hyes => by
      have := (hends.mp hyes).1
      rw [hstate] at this
      cases this
    have hnotLate' : ¬r.becomesLate = true := fun hyes => by
      have := (hlate.mp hyes).1
      rw [hstate] at this
      cases this
    have hcounted : r.counted = { r with holdElapsed := min 3601 (r.holdElapsed + 1), holdOver := r.holdOver || r.becomesHoldOver } := by
      unfold Run.counted
      rw [hstate]
    obtain ⟨hjoins, hsteers', hrun⟩ := tickRun_event (z := z) (s := s) hnotEnds
      (fun u => (if_neg hnotLate').trans (if_pos (hover.mpr h))) (congrArg Run.state hcounted :)
    have hrun := hrun.trans hcounted
    obtain ⟨hsettings, hsteady, hsamples⟩ := runTick_frame z s hsteers'
    refine ⟨_, (exec_holdOver hreset).trans (congrArg _ (if_pos (hover.mpr h))), hsettings, hsteady, hsamples,
      hjoins.queuesFirst hsteers, ?_, ?_, ?_⟩
    · rw [hholdElapsed, hrun]
    · rw [hholdOver, hrun, hover.mpr h, Bool.or_true]
    · rcases hfollows.run z with heq | ⟨-, -, heq⟩
      · rw [heq, hrun]
        exact .inl hstate
      · exact .inr (congrArg Run.state heq)

end Sys2Proof.Proofs

/-! Step boundaries and the ageing of the samples (R5, R7, R14, R16): O31. -/

namespace Sys2Proof.Machine

/-! ### Zones changed one after another -/

section Folds
variable {α : Type} {s t u : State} {z : ZoneNo}

/-- Only the zones of the two states differ, and those not at all in what a fold does not name. -/
structure OnlyZones (s t : State) : Prop where
  same : t = { s with heat := { s.heat with zones := t.heat.zones } }

theorem OnlyZones.refl (s : State) : OnlyZones s s := ⟨rfl⟩

theorem OnlyZones.trans (h : OnlyZones s t) (h' : OnlyZones t u) : OnlyZones s u := ⟨by rw [h'.same, h.same]⟩

theorem onlyZones_mapZone (z : ZoneNo) (f : Zone → Zone) (s : State) : OnlyZones s (mapZone z f s) := ⟨rfl⟩

/-- Zones changed one after another, each but once and by a function of its own and the step in progress. -/
theorem foldl_mapZone (f : State → α → State) (key : α → ZoneNo) (F : α → Nat → Zone → Zone)
    (hf : ∀ s a, f s a = mapZone (key a) (fun _ => F a s.heat.step s.heat.zones[key a]) s) (l : List α) (s : State) :
    OnlyZones s (l.foldl f s) ∧ (∀ z : ZoneNo, z ∉ l.map key → (l.foldl f s).heat.zones[z] = s.heat.zones[z]) ∧
      ((l.map key).Nodup → ∀ a ∈ l, (l.foldl f s).heat.zones[key a] = F a s.heat.step s.heat.zones[key a]) := by
  induction l generalizing s with
  | nil => exact ⟨.refl s, fun _ _ => rfl, fun _ _ h => absurd h List.not_mem_nil⟩
  | cons a l ih =>
    obtain ⟨hsame, hother, hown⟩ := ih (f s a)
    have hzone (z : ZoneNo) : (f s a).heat.zones[z] =
        if key a = z then F a s.heat.step s.heat.zones[key a] else s.heat.zones[z] := by rw [hf, mapZone_zone]
    have hstep : (f s a).heat.step = s.heat.step := by rw [hf]; rfl
    refine ⟨OnlyZones.trans (by rw [hf]; exact onlyZones_mapZone _ _ _) hsame, fun z hz => ?_, fun hnodup b hb => ?_⟩
    · rw [List.map_cons, List.mem_cons, not_or] at hz
      rw [List.foldl_cons, hother z hz.2, hzone, if_neg (Ne.symm hz.1)]
    · rw [List.map_cons, List.nodup_cons] at hnodup
      rw [List.foldl_cons]
      rcases List.mem_cons.mp hb with rfl | hb
      · rw [hother _ hnodup.1, hzone, if_pos rfl]
      · have hne : key a ≠ key b := fun heq => hnodup.1 (heq ▸ List.mem_map_of_mem hb)
        rw [hown hnodup.2 b hb, hzone, if_neg hne, hstep]

theorem OnlyZones.step (h : OnlyZones s t) : t.heat.step = s.heat.step := by rw [h.same]
theorem OnlyZones.prog (h : OnlyZones s t) : t.prog = s.prog := by rw [h.same]
theorem OnlyZones.bus (h : OnlyZones s t) : t.bus = s.bus := by rw [h.same]
theorem OnlyZones.oe (h : OnlyZones s t) : t.oe = s.oe := by rw [h.same]
theorem OnlyZones.route (h : OnlyZones s t) : t.route = s.route := by rw [h.same]

theorem OnlyZones.joins (h : OnlyZones s t) : Joins s [] t := .of_same (by rw [h.bus]) (by rw [h.route])

/-- The faults that follow a change of zones, and what they leave. -/
theorem OnlyZones.faultChecks (h : OnlyZones s t) {zs : List ZoneNo} (hnodup : zs.Nodup) :
    Joins s (t.faultsOf zs) (zs.foldl (fun s z => faultCheck z s) t) := by
  have hjoins := h.joins.faultChecks hnodup
  rwa [List.nil_append] at hjoins

end Folds

/-! ### Ages (R5) -/

section Ages
variable {s t u : State} {z : ZoneNo}

/-- R5, R16: a zone after its age has risen. -/
def Zone.agedAt (step : Nat) (zn : Zone) : Zone := if zn.aged.stale ∧ !zn.stale then zn.aged.leaves step else zn.aged

theorem ageZone_eq (z : ZoneNo) (s : State) :
    ageZone z s = mapZone z (fun _ => s.heat.zones[z].agedAt s.heat.step) s := rfl

theorem Zone.agedAt_fields (step : Nat) (zn : Zone) : (zn.agedAt step).age = min 6 (zn.age + 1) ∧ (zn.agedAt step).temp = zn.temp ∧
    (zn.agedAt step).probe = zn.probe ∧ (zn.agedAt step).isOver = zn.isOver ∧
    (zn.agedAt step).plan.filter (· ≤ step) = zn.plan.filter (· ≤ step) := by
  unfold Zone.agedAt
  split
  · exact ⟨rfl, rfl, rfl, rfl, zn.filter_leaves step⟩
  · exact ⟨rfl, rfl, rfl, rfl, rfl⟩

theorem Zone.agedAt_stale {zn : Zone} (h : zn.age = 5) (step : Nat) : zn.agedAt step = zn.aged.leaves step := by
  unfold Zone.agedAt
  exact if_pos (by simp [Zone.stale, Zone.aged, h])

theorem zoneNos_nodup : zoneNos.Nodup := by decide

/-- R5: the zones after every age has risen. -/
theorem ageAll_zones (s : State) : OnlyZones s (zoneNos.foldl (fun s z => ageZone z s) s) ∧
    ∀ z : ZoneNo, (zoneNos.foldl (fun s z => ageZone z s) s).heat.zones[z] = s.heat.zones[z].agedAt s.heat.step := by
  have h := foldl_mapZone (fun s z => ageZone z s) id (fun _ step zn => zn.agedAt step) (fun s z => ageZone_eq z s) zoneNos s
  obtain ⟨hsame, -, hown⟩ := h
  exact ⟨hsame, fun z => hown (by rw [List.map_id]; exact zoneNos_nodup) z (mem_zoneNos z)⟩

/-! ### Outputs (R16) -/

/-- R16: the outputs of `s` are those of the step in progress. -/
def OutputsSet (s : State) : Prop := ∀ z : ZoneNo, s.heat.zones[z].on = s.outputAt z

theorem outputAt_iff (s : State) (z : ZoneNo) : s.outputAt z = true ↔ s.heat.step ∈ s.heat.zones[z].plan ∧
    s.prog.runs[z].state.active = true ∧ s.heat.zones[z].age < 6 ∧ s.heat.zones[z].isOver = false ∧ s.oe = true ∧
    (s.bus.link = .listen ∨ s.bus.link = .joined ∨ s.bus.link = .alone) := by
  have hlink : s.bus.link.heats = true ↔ s.bus.link = .listen ∨ s.bus.link = .joined ∨ s.bus.link = .alone := by
    cases s.bus.link <;> simp [LinkState.heats]
  unfold State.outputAt State.outputsAllowed Zone.stale
  simp only [Bool.and_eq_true, List.contains_iff_mem, Bool.not_eq_true', decide_eq_false_iff_not, Nat.not_le, hlink, and_assoc]

theorem outputsSet_setOutputs (s : State) : OutputsSet (setOutputs s) := fun z => by
  have hzone (y : ZoneNo) : (setOutputs s).heat.zones[y] = { s.heat.zones[y] with on := s.outputAt y } := by
    rw [setOutputs, mapZones_zone]
  have hout : (setOutputs s).outputAt z = s.outputAt z := by
    unfold State.outputAt
    dsimp only
    rw [hzone]
    rfl
  rw [hout, hzone]

/-- R16: outputs that are those of the step stay so as runs end: a zone whose run is no longer active has left the window. -/
theorem OutputsSet.follows (h : OutputsSet s) (hsteers : Steers s t) {D : CourseNo → Prop} (hfollows : Follows D s t) :
    OutputsSet t := fun z => by
  have hzone := hsteers.zone z
  have hplan : t.heat.step ∈ t.heat.zones[z].plan ↔ s.heat.step ∈ s.heat.zones[z].plan := by
    have hmem (l : List Nat) : s.heat.step ∈ l ↔ s.heat.step ∈ l.filter (· ≤ s.heat.step) := by simp
    rw [hsteers.step, hmem t.heat.zones[z].plan, hzone.begun, ← hmem]
  have hrest : t.prog.runs[z].state.active = true → (t.outputAt z = true ↔ s.outputAt z = true) := fun hactive => by
    rw [outputAt_iff, outputAt_iff, hplan, hfollows.active hactive, hzone.alike.age, hzone.alike.isOver, hsteers.oe, hsteers.link]
  rw [Bool.eq_iff_iff]
  cases hactive : t.prog.runs[z].state.active with
  | true => rw [hfollows.on z hactive, h z, hrest hactive]
  | false =>
    have hoff : t.heat.zones[z].on = false := by
      cases hwas : s.prog.runs[z].state.active with
      | true => exact (hsteers.out z hwas hactive).1
      | false =>
        have hsoff : s.heat.zones[z].on = false := by
          rw [h z]
          exact Bool.eq_false_iff.mpr fun hon => by
            have := ((outputAt_iff s z).mp hon).2.1
            rw [hwas] at this
            cases this
        exact Bool.eq_false_iff.mpr fun hon => by
          rw [hzone.on hon] at hsoff
          cases hsoff
    rw [hoff, outputAt_iff, hactive]
    simp

/-! ### A step boundary -/

/-- The step boundary before anything has aged but the repeat records. -/
def State.begunStep (s : State) : State := nextStep (ageRepeats RepeatRec.half s)

theorem begunStep_zone (s : State) (z : ZoneNo) : s.begunStep.heat.zones[z] = s.heat.zones[z] := by
  simp only [State.begunStep, nextStep, ageRepeats]
theorem begunStep_step (s : State) : s.begunStep.heat.step = (s.heat.step + 1) % 20 := by
  simp only [State.begunStep, nextStep, ageRepeats]
theorem begunStep_prog (s : State) : s.begunStep.prog = s.prog := by
  simp only [State.begunStep, nextStep, ageRepeats]
theorem begunStep_link (s : State) : s.begunStep.bus.link = s.bus.link := by
  simp only [State.begunStep, nextStep, ageRepeats]
theorem begunStep_oe (s : State) : s.begunStep.oe = s.oe := by
  simp only [State.begunStep, nextStep, ageRepeats]
theorem begunStep_route (s : State) : s.begunStep.route = s.route := by
  simp only [State.begunStep, nextStep, ageRepeats]
theorem begunStep_steady (s : State) : s.begunStep.steady =
    { s.steady with step := (s.heat.step + 1) % 20, repeats := s.begunStep.bus.repeats } := by
  simp only [State.steady, State.begunStep, nextStep, ageRepeats]

/-- The zones aged at a step boundary. -/
def State.agedStep (s : State) : State := zoneNos.foldl (fun s z => ageZone z s) s.begunStep

/-- The state after the faults of a step boundary, the demand followed. -/
def State.faultedStep (s : State) : State := followDemand (zoneNos.foldl (fun s z => faultCheck z s) s.agedStep)

/-- The state after a step boundary's plans and outputs. -/
def State.plannedStep (s : State) : State :=
  setOutputs (if s.faultedStep.heat.step = 0 then windowStart s.faultedStep else s.faultedStep)

theorem stepBoundary_eq (s : State) : stepBoundary s = zonesChanged s.plannedStep := by
  unfold stepBoundary ageZones State.plannedStep State.faultedStep State.agedStep State.begunStep
  with_reducible rfl

theorem agedStep_onlyZones (s : State) : OnlyZones s.begunStep s.agedStep := by
  unfold State.agedStep
  exact (ageAll_zones s.begunStep).1

theorem agedStep_zone (s : State) (z : ZoneNo) : s.agedStep.heat.zones[z] = s.heat.zones[z].agedAt ((s.heat.step + 1) % 20) := by
  unfold State.agedStep
  rw [(ageAll_zones s.begunStep).2 z, begunStep_zone, begunStep_step]

theorem agedStep_step (s : State) : s.agedStep.heat.step = (s.heat.step + 1) % 20 := by
  rw [(agedStep_onlyZones s).step, begunStep_step]

theorem agedStep_prog (s : State) : s.agedStep.prog = s.prog := by
  rw [(agedStep_onlyZones s).prog, begunStep_prog]

theorem agedStep_link (s : State) : s.agedStep.bus.link = s.bus.link := by
  rw [(agedStep_onlyZones s).bus, begunStep_link]

theorem agedStep_oe (s : State) : s.agedStep.oe = s.oe := by
  rw [(agedStep_onlyZones s).oe, begunStep_oe]

theorem agedStep_route (s : State) : s.agedStep.route = s.route := by
  rw [(agedStep_onlyZones s).route, begunStep_route]

theorem agedStep_joins (s : State) : Joins s [] s.agedStep :=
  .of_same (agedStep_link s) (congrArg Route.events (agedStep_route s))

theorem steers_faultedStep (s : State) : Steers s.agedStep s.faultedStep := by
  unfold State.faultedStep followDemand
  exact (steers_faultChecks zoneNos s.agedStep).trans (steers_lowerGrant _ _)

theorem faultedStep_runs (s : State) (z : ZoneNo) : s.faultedStep.prog.runs[z] =
    if (s.prog.runs[z].state.active && (s.agedStep.heat.zones[z].isOver || s.agedStep.heat.zones[z].stale)) = true then
      { s.prog.runs[z] with state := .fault } else s.prog.runs[z] := by
  have h := faultChecks_runs zoneNos s.agedStep z
  rw [agedStep_prog] at h
  simp only [mem_zoneNos, true_and] at h
  unfold State.faultedStep followDemand
  rw [lowerGrant_prog]
  exact h

theorem plannedStep_prog (s : State) : s.plannedStep.prog = s.faultedStep.prog := by
  unfold State.plannedStep
  generalize s.faultedStep = u
  split <;> rfl
theorem plannedStep_step (s : State) : s.plannedStep.heat.step = s.faultedStep.heat.step := by
  unfold State.plannedStep
  generalize s.faultedStep = u
  split <;> rfl
theorem plannedStep_route (s : State) : s.plannedStep.route = s.faultedStep.route := by
  unfold State.plannedStep
  generalize s.faultedStep = u
  split <;> rfl
theorem plannedStep_bus (s : State) : s.plannedStep.bus = s.faultedStep.bus := by
  unfold State.plannedStep
  generalize s.faultedStep = u
  split <;> rfl
theorem plannedStep_oe (s : State) : s.plannedStep.oe = s.faultedStep.oe := by
  unfold State.plannedStep
  generalize s.faultedStep = u
  split <;> rfl

theorem plannedStep_alike (s : State) (z : ZoneNo) : s.faultedStep.heat.zones[z].Alike s.plannedStep.heat.zones[z] := by
  unfold State.plannedStep
  split
  · exact (windowStart_alike _ z).trans (setOutputs_alike _ z)
  · exact setOutputs_alike _ z

/-- R16: but at a window start the plans stand at a step boundary. -/
theorem plannedStep_plan (s : State) (h : s.faultedStep.heat.step ≠ 0) (z : ZoneNo) :
    s.plannedStep.heat.zones[z].plan = s.faultedStep.heat.zones[z].plan := by
  unfold State.plannedStep
  rw [if_neg h, setOutputs, mapZones_zone]

theorem outputsSet_plannedStep (s : State) : OutputsSet s.plannedStep := outputsSet_setOutputs _

theorem steers_stepBoundary (s : State) : Steers s.plannedStep (stepBoundary s) := by
  rw [stepBoundary_eq]
  exact steers_zonesChanged s.plannedStep

theorem follows_stepBoundary (s : State) : Follows (fun _ => True) s.plannedStep (stepBoundary s) := by
  rw [stepBoundary_eq]
  exact follows_zonesChanged s.plannedStep

/-- The zones' samples after a step boundary. -/
theorem stepBoundary_alike (s : State) (z : ZoneNo) : s.agedStep.heat.zones[z].Alike (stepBoundary s).heat.zones[z] :=
  ((steers_faultedStep s).zone z).alike.trans ((plannedStep_alike s z).trans ((steers_stepBoundary s).zone z).alike)

theorem stepBoundary_step (s : State) : (stepBoundary s).heat.step = (s.heat.step + 1) % 20 := by
  rw [(steers_stepBoundary s).step, plannedStep_step, (steers_faultedStep s).step, agedStep_step]

theorem plannedStep_steady (s : State) : s.plannedStep.steady = s.begunStep.steady := by
  have hfaulted : s.faultedStep.steady = s.begunStep.steady := by
    unfold State.faultedStep State.agedStep
    rw [followDemand_steady]
    exact ageZones_steady s.begunStep
  rw [← hfaulted]
  unfold State.plannedStep
  rw [setOutputs_steady]
  generalize s.faultedStep = u
  split
  · exact windowStart_steady u
  · rfl

theorem steady_repeats (s : State) : s.steady.repeats = s.bus.repeats := rfl

theorem stepBoundary_steady (s : State) : (stepBoundary s).steady =
    { s.steady with step := (stepBoundary s).heat.step, repeats := (stepBoundary s).bus.repeats } := by
  have h : (stepBoundary s).steady = s.begunStep.steady := by
    rw [stepBoundary_eq, zonesChanged_steady, plannedStep_steady]
  have hrepeats : (stepBoundary s).bus.repeats = s.begunStep.bus.repeats := by
    rw [← steady_repeats, h, steady_repeats]
  rw [h, stepBoundary_step, hrepeats, begunStep_steady]

/-- R7, R128: the faults of a step boundary have their events first in the queue. -/
theorem stepBoundary_queues (s : State) : (stepBoundary s).queuesFirst s ((stepBoundary s).faultEvents s zoneNos) := by
  have hevents : (stepBoundary s).faultEvents s zoneNos = s.agedStep.faultsOf zoneNos :=
    faultEvents_eq (fun z _ => by rw [agedStep_prog]) fun z _ => stepBoundary_alike s z
  have hjoins := (agedStep_joins s).faultChecks zoneNos_nodup
  rw [List.nil_append] at hjoins
  have hplanned : Joins s (s.agedStep.faultsOf zoneNos) s.plannedStep :=
    hjoins.same (by rw [plannedStep_bus, State.faultedStep, followDemand, lowerGrant_bus])
      (by rw [plannedStep_route, State.faultedStep, followDemand, lowerGrant_route])
  rw [hevents]
  exact hplanned.queuesFirst (steers_stepBoundary s)

/-- R7: a run that faults at a step boundary stays in FAULT. -/
theorem stepBoundary_faults (hactive : s.prog.runs[z].state.active = true)
    (h : 5 ≤ s.heat.zones[z].age ∨ s.heat.zones[z].isOver = true) : (stepBoundary s).prog.runs[z].state = .fault := by
  obtain ⟨hage, -, -, hover, -⟩ := Zone.agedAt_fields ((s.heat.step + 1) % 20) s.heat.zones[z]
  have hyes : (s.prog.runs[z].state.active && (s.agedStep.heat.zones[z].isOver || s.agedStep.heat.zones[z].stale)) = true := by
    rw [agedStep_zone]
    rw [Bool.and_eq_true, Bool.or_eq_true]
    refine ⟨hactive, h.symm.imp (fun h => hover.trans h) fun h => decide_eq_true ?_⟩
    rw [hage]
    omega
  have hfault : s.plannedStep.prog.runs[z] = { s.prog.runs[z] with state := .fault } := by
    rw [plannedStep_prog, faultedStep_runs, if_pos hyes]
  rw [(follows_stepBoundary s).stands (by rw [hfault]; rfl), hfault]

/-- R16: a zone out of its outputs' conditions at a step boundary, with no plan step left but those begun, has left the window. -/
theorem plannedStep_hasLeft (hstep : s.faultedStep.heat.step ≠ 0) (hoff : s.plannedStep.outputAt z = false)
    (hplan : s.faultedStep.heat.zones[z].plan = s.heat.zones[z].plan.filter (· ≤ (s.heat.step + 1) % 20)) :
    (stepBoundary s).hasLeft s z := by
  have hleft : s.plannedStep.hasLeft s z := by
    refine ⟨(outputsSet_plannedStep s z).trans hoff, ?_⟩
    rw [plannedStep_plan s hstep, hplan, plannedStep_step, (steers_faultedStep s).step, agedStep_step]
  exact hleft.steered (steers_stepBoundary s)

/-- R5, R16: a zone that becomes stale at a step boundary leaves the window. -/
theorem stepBoundary_stale_leaves (hstep : (stepBoundary s).heat.step ≠ 0) (hage : s.heat.zones[z].age = 5) :
    (stepBoundary s).hasLeft s z := by
  have haged : s.agedStep.heat.zones[z] = s.heat.zones[z].aged.leaves ((s.heat.step + 1) % 20) := by
    rw [agedStep_zone, Zone.agedAt_stale hage]
  have hsteers := steers_faultedStep s
  have hclosed := (hsteers.zone z).closed (by rw [haged, agedStep_step]; exact Zone.leaves_closed _ _)
  have hstep' : s.faultedStep.heat.step ≠ 0 := by
    rwa [hsteers.step, agedStep_step, ← stepBoundary_step]
  refine plannedStep_hasLeft hstep' (Bool.eq_false_iff.mpr fun hon => ?_) (hclosed.2.trans (by rw [haged]; rfl))
  have hfresh := ((outputAt_iff _ z).mp hon).2.2.1
  have hsix : s.agedStep.heat.zones[z].age = 6 := by
    rw [haged]
    show min 6 (s.heat.zones[z].age + 1) = 6
    omega
  rw [(plannedStep_alike s z).age, (hsteers.zone z).alike.age, hsix] at hfresh
  exact absurd hfresh (Nat.lt_irrefl 6)

/-- R16: a zone whose run leaves the active states at a step boundary leaves the window. -/
theorem stepBoundary_ended_leaves (hstep : (stepBoundary s).heat.step ≠ 0) (hactive : s.prog.runs[z].state.active = true)
    (hnot : (stepBoundary s).prog.runs[z].state.active = false) : (stepBoundary s).hasLeft s z := by
  have hsteers := steers_faultedStep s
  have hstep' : s.faultedStep.heat.step ≠ 0 := by
    rwa [hsteers.step, agedStep_step, ← stepBoundary_step]
  have hbegun : s.agedStep.heat.zones[z].plan.filter (· ≤ (s.heat.step + 1) % 20) =
      s.heat.zones[z].plan.filter (· ≤ (s.heat.step + 1) % 20) := by
    rw [agedStep_zone]
    exact (Zone.agedAt_fields _ _).2.2.2.2
  cases hmid : s.faultedStep.prog.runs[z].state.active with
  | false =>
    obtain ⟨-, hplan⟩ := hsteers.out z (by rw [agedStep_prog]; exact hactive) hmid
    rw [agedStep_step, hbegun] at hplan
    refine plannedStep_hasLeft hstep' (Bool.eq_false_iff.mpr fun hon => ?_) hplan
    have := ((outputAt_iff _ z).mp hon).2.1
    rw [plannedStep_prog, hmid] at this
    cases this
  | true =>
    obtain ⟨hoff, hplan⟩ := (steers_stepBoundary s).out z (by rw [plannedStep_prog]; exact hmid) hnot
    have hb := (hsteers.zone z).begun
    rw [agedStep_step, hbegun] at hb
    refine ⟨hoff, ?_⟩
    rw [stepBoundary_step]
    rw [plannedStep_plan s hstep', plannedStep_step, hsteers.step, agedStep_step, hb] at hplan
    exact hplan

theorem stepBoundary_outputs (s : State) : OutputsSet (stepBoundary s) :=
  (outputsSet_plannedStep s).follows (steers_stepBoundary s) (follows_stepBoundary s)

theorem stepBoundary_link (s : State) : (stepBoundary s).bus.link = s.bus.link ∧ (stepBoundary s).oe = s.oe := by
  have hsteers := steers_stepBoundary s
  rw [hsteers.link, hsteers.oe, plannedStep_bus, plannedStep_oe, (steers_faultedStep s).link, (steers_faultedStep s).oe]
  exact ⟨agedStep_link s, agedStep_oe s⟩

/-! ### SAMPLE_STALE (R5) -/

/-- The zone of a SAMPLE_STALE after its ageing. -/
theorem exec_sampleStale (hreset : s.inReset = false) (z : ZoneNo) : exec (.sampleStale z) s =
    .next (if s.heat.zones[z].age = 5 then zonesChanged (faultCheck z (ageZone z s)) else s) := unlessReset_of_not_inReset hreset _

theorem ageZone_zone (z y : ZoneNo) (s : State) : (ageZone z s).heat.zones[y] =
    if z = y then s.heat.zones[z].agedAt s.heat.step else s.heat.zones[y] := by
  rw [ageZone_eq, mapZone_zone]

/-- What follows the ageing of one zone. -/
theorem steers_staled (z : ZoneNo) (s : State) : Steers (ageZone z s) (zonesChanged (faultCheck z (ageZone z s))) :=
  (steers_faultCheck z _).trans (steers_zonesChanged _)

end Ages

end Sys2Proof.Machine

namespace Sys2Proof.Proofs
open Sys2Proof.Machine

/-- Settles O31. -/
theorem stepBoundary : Obligations.StepBoundary := by
  intro s hreset
  refine ⟨⟨_, unlessReset_of_not_inReset hreset _, stepBoundary_step s, settings_of_kept (stepBoundary_kept s), stepBoundary_steady s,
    stepBoundary_queues s, fun z => ?_⟩, fun z => ⟨fun hage => (exec_sampleStale hreset z).trans (congrArg _ (if_neg hage)), fun hage => ?_⟩⟩
  · have halike := stepBoundary_alike s z
    obtain ⟨hage, htemp, hprobe, hover, -⟩ := Zone.agedAt_fields ((s.heat.step + 1) % 20) s.heat.zones[z]
    rw [agedStep_zone] at halike
    refine ⟨halike.age.trans hage, halike.temp.trans htemp, halike.probe.trans hprobe, halike.isOver.trans hover,
      stepBoundary_faults, stepBoundary_stale_leaves, stepBoundary_ended_leaves, ?_⟩
    rw [stepBoundary_outputs s z, outputAt_iff, (stepBoundary_link s).1, (stepBoundary_link s).2]
  · have hsteers := steers_staled z s
    have hprog : (ageZone z s).prog = s.prog := rfl
    have haged : (ageZone z s).heat.zones[z] = s.heat.zones[z].aged.leaves s.heat.step := by
      rw [ageZone_zone, if_pos rfl, Zone.agedAt_stale hage]
    have halike := (hsteers.zone z).alike
    have hsix : (ageZone z s).heat.zones[z].age = 6 := by
      rw [haged]
      show min 6 (s.heat.zones[z].age + 1) = 6
      omega
    have hleft : (ageZone z s).hasLeft s z := by
      unfold State.hasLeft
      rw [haged]
      exact ⟨rfl, rfl⟩
    have hfollows := follows_zonesChanged (faultCheck z (ageZone z s))
    have hrun := faultCheck_runs z z (ageZone z s)
    have hstale : (ageZone z s).heat.zones[z].stale = true := by
      unfold Zone.stale
      rw [hsix]
      rfl
    rw [hstale, Bool.or_true, Bool.and_true, hprog] at hrun
    refine ⟨_, (exec_sampleStale hreset z).trans (congrArg _ (if_pos hage)), halike.age.trans hsix, halike.stale.trans hstale,
      hleft.steered hsteers, ?_, ?_, ?_, ?_, fun hactive => ?_, fun hactive hfault => ?_, fun y hy => ?_⟩
    · rw [halike.temp, haged]
      rfl
    · exact settings_of_kept ((zonesChanged_kept _).trans ((faultCheck_kept z _).trans (ageZone_kept z s)))
    · exact (zonesChanged_steady _).trans ((faultCheck_steady z _).trans (ageZone_steady z s))
    · have hevents : (zonesChanged (faultCheck z (ageZone z s))).faultEvents s [z] = (ageZone z s).faultsOf [z] :=
        faultEvents_eq (fun y _ => rfl) fun y _ => (hsteers.zone y).alike
      rw [hevents]
      exact Joins.queuesFirst (Joins.faultCheck (es := []) (Joins.of_same (t := ageZone z s) rfl rfl) z) (steers_zonesChanged _)
    · rw [if_pos ⟨rfl, hactive⟩] at hrun
      rw [hfollows.stands (by rw [hrun]; rfl), hrun]
    · rw [if_neg fun h => Bool.false_ne_true (hactive.symm.trans h.2)] at hrun
      rcases hfollows.run z with heq | ⟨-, -, heq⟩
      · rw [heq, hrun] at hfault
        exact hfault
      · rw [heq] at hfault
        cases hfault
    · have hother : (ageZone z s).heat.zones[y] = s.heat.zones[y] := by rw [ageZone_zone, if_neg (Ne.symm hy)]
      have hya := (hsteers.zone y).alike
      refine ⟨by rw [hya.age, hother], by rw [hya.temp, hother], fun hactive hnot => ?_⟩
      obtain ⟨hoff, hplan⟩ := hsteers.out y hactive hnot
      exact ⟨hoff, by rw [hplan, hother, hsteers.step]⟩

end Sys2Proof.Proofs

/-! ZONE SET (R1, R2, R6, R7): O32. -/

namespace Sys2Proof.Machine

section ZoneSet
variable {s t u : State} {z : ZoneNo} {x : ZoneSettings}

theorem maskZones_nodup (m : Byte) : (maskZones m).Nodup := zoneNos_nodup.filter _

/-- R1, R2: a zone after its settings are taken. -/
def Zone.setAt (x : ZoneSettings) (step : Nat) (zn : Zone) : Zone :=
  if x.rating ≠ zn.rating ∨ ((zn.withSettings x).isOver ∧ !zn.isOver) then (zn.withSettings x).leaves step else zn.withSettings x

theorem Zone.setAt_alike (x : ZoneSettings) (step : Nat) (zn : Zone) : (zn.withSettings x).Alike (zn.setAt x step) := by
  unfold Zone.setAt
  split
  · exact Zone.leaves_alike _ _
  · exact .refl _

theorem Zone.setAt_begun (x : ZoneSettings) (step : Nat) (zn : Zone) :
    (zn.setAt x step).plan.filter (· ≤ step) = zn.plan.filter (· ≤ step) := by
  unfold Zone.setAt
  split
  · exact (zn.withSettings x).filter_leaves step
  · rfl

theorem Zone.setAt_leaves {step : Nat} {zn : Zone} (h : x.rating ≠ zn.rating ∨ ((zn.withSettings x).isOver = true ∧ zn.isOver = false)) :
    zn.setAt x step = (zn.withSettings x).leaves step := if_pos (by simpa using h)

theorem setZone_eq (x : ZoneSettings) (z : ZoneNo) (s : State) :
    setZone x z s = mapZone z (fun _ => s.heat.zones[z].setAt x s.heat.step) s := rfl

/-- The state with the settings taken, before the faults. -/
def State.setWith (s : State) (x : ZoneSettings) (zs : List ZoneNo) : State := overZones zs (setZone x) s

theorem setWith_zones (x : ZoneSettings) {zs : List ZoneNo} (hnodup : zs.Nodup) (s : State) : OnlyZones s (s.setWith x zs) ∧
    ∀ z : ZoneNo, (s.setWith x zs).heat.zones[z] =
      if z ∈ zs then s.heat.zones[z].setAt x s.heat.step else s.heat.zones[z] := by
  have h := foldl_mapZone (fun s z => setZone x z s) id (fun _ step zn => zn.setAt x step) (fun s z => setZone_eq x z s) zs s
  rw [List.map_id] at h
  obtain ⟨hsame, hother, hown⟩ := h
  refine ⟨hsame, fun z => ?_⟩
  split
  next hz => exact hown hnodup z hz
  next hz => exact hother z hz

/-- R16: a zone whose run leaves the active states after a change of zones that leaves the plan steps begun. -/
theorem OnlyZones.ends (h : OnlyZones s u) (hbegun : u.heat.zones[z].plan.filter (· ≤ s.heat.step) =
    s.heat.zones[z].plan.filter (· ≤ s.heat.step)) (hsteers : Steers u t) (hactive : s.prog.runs[z].state.active = true)
    (hnot : t.prog.runs[z].state.active = false) : t.hasLeft s z := by
  obtain ⟨hoff, hplan⟩ := hsteers.out z (by rw [h.prog]; exact hactive) hnot
  rw [h.step, hbegun] at hplan
  exact ⟨hoff, by rw [hplan, hsteers.step, h.step]⟩

/-- R16: a zone out of the window before the faults has left it after them. -/
theorem OnlyZones.leaves (h : OnlyZones s u) {zn : Zone} (hzone : u.heat.zones[z] = zn.leaves s.heat.step)
    (hplan : zn.plan = s.heat.zones[z].plan) (hsteers : Steers u t) : t.hasLeft s z := by
  have hleft : u.hasLeft s z := by
    unfold State.hasLeft
    rw [hzone, h.step, ← hplan]
    exact ⟨rfl, rfl⟩
  exact hleft.steered hsteers

theorem OnlyZones.settings (h : OnlyZones s u) : u.settings = { s.settings with zones := u.settings.zones } := by
  rw [h.same]
  rfl

/-- What follows the settings taken. -/
theorem setZones_reach (x : ZoneSettings) (zs : List ZoneNo) (s : State) :
    Steers (s.setWith x zs) (setZones x zs s) ∧
      Follows (fun _ => True) (overZones zs faultCheck (s.setWith x zs)) (setZones x zs s) := by
  have hreach := settled_reach (overZones zs faultCheck (s.setWith x zs))
  exact ⟨(steers_faultChecks zs (s.setWith x zs)).trans (hreach.steers steering_admits_settling), hreach.follows fun _ hk => hk⟩

end ZoneSet

end Sys2Proof.Machine

namespace Sys2Proof.Proofs
open Sys2Proof.Machine

/-- Settles O32. -/
theorem zoneSet : Obligations.ZoneSet := by
  intro p s hreset hlen zs clears
  have hok : (p.length == 7) = true := by simp [hlen]
  refine ⟨fun hnone => exec_refused hreset hok (.inl rfl) (if_pos (by simpa using hnone)), fun hsome hclears => ?_,
    fun hsome hnot => ?_⟩
  · refine exec_refused hreset hok (.inl rfl) ((if_neg (by simpa using hsome)).trans (if_pos ?_))
    obtain ⟨hzero, z, hz, hlive⟩ := hclears
    simp only [Bool.and_eq_true, beq_iff_eq, List.any_eq_true]
    exact ⟨hzero, z, hz, hlive⟩
  have hact : ¬((byteAt p 1 == 0 && (zonesAt p).any fun z => s.prog.runs[z].state.live) = true) := fun h => hnot (by
    simp only [Bool.and_eq_true, beq_iff_eq, List.any_eq_true] at h
    obtain ⟨hzero, z, hz, hlive⟩ := h
    exact ⟨hzero, z, hz, hlive⟩)
  have htaken : exec (.zoneSet p) s = .next (answerFrame s.statusByte [] .ok (setZones (zoneSettingsOf p) zs s)) :=
    exec_taken hreset hok (.inl rfl) ((if_neg (by simpa using hsome)).trans (if_neg hact))
  have hnodup : zs.Nodup := maskZones_nodup _
  obtain ⟨honly, hzones⟩ := setWith_zones (zoneSettingsOf p) hnodup s
  obtain ⟨hsteers, hfollows⟩ := setZones_reach (zoneSettingsOf p) zs s
  have hruns := faultChecks_runs zs (s.setWith (zoneSettingsOf p) zs)
  have hbegun (z : ZoneNo) : (s.setWith (zoneSettingsOf p) zs).heat.zones[z].plan.filter (· ≤ s.heat.step) =
      s.heat.zones[z].plan.filter (· ≤ s.heat.step) := by
    rw [hzones]
    split
    · exact Zone.setAt_begun _ _ _
    · rfl
  have hsettings : (setZones (zoneSettingsOf p) zs s).settings = (s.setWith (zoneSettingsOf p) zs).settings :=
    settings_of_kept ((followDemand_kept _).trans ((deriveAll_kept _).trans (foldl_keeps State.kept _ (fun _ _ => faultCheck_kept _ _) zs _)))
  have hsteady := setZones_steady (zoneSettingsOf p) zs s
  have hqueues : (setZones (zoneSettingsOf p) zs s).queuesFirst s ((setZones (zoneSettingsOf p) zs s).faultEvents s zs) := by
    have hevents : (setZones (zoneSettingsOf p) zs s).faultEvents s zs = (s.setWith (zoneSettingsOf p) zs).faultsOf zs :=
      faultEvents_eq (fun z _ => by rw [honly.prog]) fun z _ => (hsteers.zone z).alike
    rw [hevents]
    exact (honly.faultChecks hnodup).queuesFirst ((settled_reach _).steers steering_admits_settling)
  generalize setZones (zoneSettingsOf p) zs s = t at *
  refine ⟨_, htaken, rfl, rfl, hsteady, ?_, hqueues, fun z hz => ?_, fun z hactive hnot => honly.ends (t := t) (hbegun z) hsteers hactive hnot,
    fun z hz => ?_⟩
  · have h := honly.settings
    rw [← hsettings] at h
    exact h
  · have hzone := (hzones z).trans (if_pos hz)
    have halike := (Zone.setAt_alike (zoneSettingsOf p) s.heat.step s.heat.zones[z]).trans (hzone ▸ (hsteers.zone z).alike)
    have hleaves (h : (zoneSettingsOf p).rating ≠ s.heat.zones[z].rating ∨
        ((s.heat.zones[z].withSettings (zoneSettingsOf p)).isOver = true ∧ s.heat.zones[z].isOver = false)) : t.hasLeft s z :=
      honly.leaves (hzone.trans (Zone.setAt_leaves h)) rfl hsteers
    refine ⟨?_, halike.temp, halike.age, halike.probe, ?_, fun h => hleaves (.inl h),
      fun hover hcool => hleaves (.inr ⟨halike.isOver ▸ hover, hcool⟩), fun hactive hbad => ?_⟩
    · show Zone.settings t.heat.zones[z] = _
      unfold Zone.settings
      rw [halike.rating, halike.band, halike.limit, halike.floor, halike.probeFitted]
      rfl
    · refine halike.isOver.trans ?_
      show Zone.overTest _ = _
      unfold Zone.overTest
      have hlimit : (answerFrame s.statusByte [] .ok t).heat.zones[z].limit = (zoneSettingsOf p).limit := halike.limit
      rw [hlimit] <;> rfl
    · have hyes : ((s.setWith (zoneSettingsOf p) zs).prog.runs[z].state.active &&
          ((s.setWith (zoneSettingsOf p) zs).heat.zones[z].isOver || (s.setWith (zoneSettingsOf p) zs).heat.zones[z].stale)) = true := by
        rw [honly.prog, Bool.and_eq_true, Bool.or_eq_true]
        exact ⟨hactive, hbad.imp (fun h => (hsteers.zone z).alike.isOver ▸ h) fun h => (hsteers.zone z).alike.stale ▸ h⟩
      have hrun := (hruns z).trans (if_pos ⟨hz, hyes⟩)
      rw [answerFrame_prog, hfollows.stands (by unfold overZones; rw [hrun]; rfl)]
      unfold overZones
      rw [hrun]
  · have hzone := (hzones z).trans (if_neg hz)
    have halike : s.heat.zones[z].Alike t.heat.zones[z] := hzone ▸ (hsteers.zone z).alike
    refine ⟨?_, halike.temp, halike.probe, halike.age, halike.isOver⟩
    show Zone.settings t.heat.zones[z] = _
    unfold Zone.settings
    rw [halike.rating, halike.band, halike.limit, halike.floor, halike.probeFitted]

end Sys2Proof.Proofs

/-! SAMPLE (R4–R7, R29, R30): O33. -/

namespace Sys2Proof.Machine

/-! ### The readings (R4) -/

section Readings
variable {fitted : ZoneNo → Bool} {zs : List ZoneNo} {rest : List Byte}

/-- R4: the bytes that a zone's reading takes. -/
def readingWidth (fitted : ZoneNo → Bool) (z : ZoneNo) : Nat := if fitted z then 4 else 2

/-- R4: where a zone's reading begins: after those of the zones before it. -/
def readingAt (fitted : ZoneNo → Bool) (zs : List ZoneNo) (z : ZoneNo) : Nat :=
  ((zs.filter (· < z)).map (readingWidth fitted)).sum

/-- R4: the reading of a zone, clamped, with its probe's where that is fitted. -/
def readingOf (fitted : ZoneNo → Bool) (rest : List Byte) (z : ZoneNo) (i : Nat) : ZoneNo × Int × Option Int :=
  (z, clampTemp (signedAt rest i), if fitted z then some (clampTemp (signedAt rest (i + 2))) else none)

theorem readingAt_head {z : ZoneNo} (h : ∀ y ∈ zs, z < y) : readingAt fitted (z :: zs) z = 0 := by
  have hnone : (z :: zs).filter (· < z) = [] := by
    rw [List.filter_eq_nil_iff]
    intro y hy hlt
    rcases List.mem_cons.mp hy with rfl | hy
    · simp at hlt
    · have := h y hy
      simp at hlt
      exact absurd hlt (not_lt.mpr this.le)
  unfold readingAt
  rw [hnone]
  rfl

theorem readingAt_tail {z y : ZoneNo} (h : z < y) : readingAt fitted (z :: zs) y = readingWidth fitted z + readingAt fitted zs y := by
  unfold readingAt
  rw [List.filter_cons_of_pos (by simpa using h), List.map_cons, List.sum_cons]

theorem signedAt_drop (front p : List Byte) (i : Nat) : signedAt (front ++ p) (front.length + i) = signedAt p i := by
  unfold signedAt
  have hget (k : Nat) : (front ++ p).getD (front.length + k) 0 = p.getD k 0 := by
    simp [List.getElem?_append_right]
  rw [hget, Nat.add_assoc, hget]

theorem readingOf_drop (front p : List Byte) (z : ZoneNo) (i : Nat) :
    readingOf fitted (front ++ p) z (front.length + i) = readingOf fitted p z i := by
  unfold readingOf
  rw [signedAt_drop, Nat.add_assoc, signedAt_drop]

/-- R4: the readings of a frame whose length fits. -/
theorem readings_eq (hsorted : zs.Pairwise (· < ·)) (hlen : rest.length = (zs.map (readingWidth fitted)).sum) :
    readings fitted zs rest = some (zs.map fun z => readingOf fitted rest z (readingAt fitted zs z)) := by
  induction zs generalizing rest with
  | nil =>
    rw [List.length_eq_zero_iff.mp hlen]
    rfl
  | cons z zs ih =>
    obtain ⟨hz, hzs⟩ := List.pairwise_cons.mp hsorted
    have hmap (front p : List Byte) (hfront : front.length = readingWidth fitted z) :
        ((z :: zs).map fun y => readingOf fitted (front ++ p) y (readingAt fitted (z :: zs) y)) =
          readingOf fitted (front ++ p) z 0 :: zs.map fun y => readingOf fitted p y (readingAt fitted zs y) := by
      rw [List.map_cons, readingAt_head hz]
      refine congrArg _ (List.map_congr_left fun y hy => ?_)
      rw [readingAt_tail (hz y hy), ← hfront, readingOf_drop]
    rw [List.map_cons, List.sum_cons] at hlen
    unfold readingWidth at hlen
    cases hfit : fitted z with
    | true =>
      rw [hfit, if_pos rfl] at hlen
      match rest, hlen with
      | a :: b :: c :: d :: p, hlen =>
        have hp : p.length = (zs.map (readingWidth fitted)).sum := by
          simp only [List.length_cons] at hlen
          unfold readingWidth
          omega
        have h := hmap [a, b, c, d] p (by simp [readingWidth, hfit])
        simp only [List.cons_append, List.nil_append] at h
        rw [h]
        simp only [readings, hfit, if_true, ih hzs hp, Option.map_some]
        simp [readingOf, hfit, signedAt]
      | [], hlen | [_], hlen | [_, _], hlen | [_, _, _], hlen =>
        simp only [List.length_cons, List.length_nil] at hlen
        omega
    | false =>
      rw [hfit, if_neg Bool.false_ne_true] at hlen
      match rest, hlen with
      | a :: b :: p, hlen =>
        have hp : p.length = (zs.map (readingWidth fitted)).sum := by
          simp only [List.length_cons] at hlen
          unfold readingWidth
          omega
        have h := hmap [a, b] p (by simp [readingWidth, hfit])
        simp only [List.cons_append, List.nil_append] at h
        rw [h]
        simp only [readings, hfit, Bool.false_eq_true, if_false, ih hzs hp, Option.map_some]
        simp [readingOf, hfit, signedAt]
      | [], hlen | [_], hlen =>
        simp only [List.length_cons, List.length_nil] at hlen
        omega

theorem maskZones_sorted (m : Byte) : (maskZones m).Pairwise (· < ·) :=
  List.Pairwise.filter _ (by decide : zoneNos.Pairwise (· < ·))

end Readings

/-! ### A zone's sample and its run -/

section Samples
variable {s t u : State} {z : ZoneNo} {r : Run} {a b : Zone}

/-- R4–R6, R16: a zone after its reading is taken. -/
def Zone.sampledAt (step : Nat) (x : ZoneNo × Int × Option Int) (zn : Zone) : Zone :=
  if (zn.sampled x.2.1 x.2.2).isOver ∧ !zn.isOver then (zn.sampled x.2.1 x.2.2).leaves step else zn.sampled x.2.1 x.2.2

theorem storeSample_eq (x : ZoneNo × Int × Option Int) (s : State) :
    storeSample x s = mapZone x.1 (fun _ => s.heat.zones[x.1].sampledAt s.heat.step x) s := rfl

theorem Zone.sampledAt_alike (step : Nat) (x : ZoneNo × Int × Option Int) (zn : Zone) :
    (zn.sampled x.2.1 x.2.2).Alike (zn.sampledAt step x) := by
  unfold Zone.sampledAt
  split
  · exact Zone.leaves_alike _ _
  · exact .refl _

theorem Zone.sampledAt_begun (step : Nat) (x : ZoneNo × Int × Option Int) (zn : Zone) :
    (zn.sampledAt step x).plan.filter (· ≤ step) = zn.plan.filter (· ≤ step) := by
  unfold Zone.sampledAt
  split
  · exact (zn.sampled x.2.1 x.2.2).filter_leaves step
  · rfl

theorem Zone.sampledAt_leaves {step : Nat} {x : ZoneNo × Int × Option Int} {zn : Zone}
    (hover : (zn.sampled x.2.1 x.2.2).isOver = true) (hcool : zn.isOver = false) :
    zn.sampledAt step x = (zn.sampled x.2.1 x.2.2).leaves step := if_pos (by simp [hover, hcool])

/-- R7, R30: the run of a zone after a sample: it faults over or stale, goes on where its stage has ended, and otherwise stands. -/
def Run.sampled (r : Run) (zn : Zone) : Run :=
  if (r.state.active && (zn.isOver || zn.stale)) = true then { r with state := .fault }
  else if r.state.active = true ∧ ∃ st, r.body.stages[r.stage]? = some st ∧ st.endsOn zn = true then r.enter zn (r.stage + 1)
  else r

theorem endsOn_alike (h : a.Alike b) (st : Stage) : st.endsOn b = st.endsOn a := by
  unfold Stage.endsOn
  rw [h.stale, h.temp, h.probe]

theorem restingStage_alike (h : a.Alike b) (l : List Stage) (k : Nat) : restingStage b l k = restingStage a l k := by
  induction l generalizing k with
  | nil => rfl
  | cons st l ih => simp only [restingStage, endsOn_alike h, ih]

theorem enter_alike (h : a.Alike b) (r : Run) (k : Nat) : r.enter b k = r.enter a k := by
  unfold Run.enter
  rw [restingStage_alike h]

theorem sampled_alike (h : a.Alike b) (r : Run) : r.sampled b = r.sampled a := by
  unfold Run.sampled
  simp only [h.isOver, h.stale, endsOn_alike h, enter_alike h]

theorem sampleStage_ends {st : Stage} (hactive : s.prog.runs[z].state.active = true)
    (hstage : s.prog.runs[z].body.stages[s.prog.runs[z].stage]? = some st) (hends : st.endsOn s.heat.zones[z] = true) :
    sampleStage z s = enterStage (s.prog.runs[z].stage + 1) z s := by
  unfold sampleStage Run.stageNow
  dsimp only
  rw [hactive, hstage]
  exact if_pos hends

theorem sampleStage_stands (h : ¬(s.prog.runs[z].state.active = true ∧
    ∃ st, s.prog.runs[z].body.stages[s.prog.runs[z].stage]? = some st ∧ st.endsOn s.heat.zones[z] = true)) :
    sampleStage z s = s := by
  unfold sampleStage Run.stageNow
  dsimp only
  split
  next st hactive hstage => exact if_neg fun hends => h ⟨hactive, st, hstage, hends⟩
  · rfl

/-- R30: a sample's stage test raises nothing in a zone that is neither over nor stale. -/
theorem enterStage_quiet (k : Nat) (h : (s.heat.zones[z].isOver || s.heat.zones[z].stale) = false) :
    enterStage k z s = setRun z (s.prog.runs[z].enter s.heat.zones[z] k) s := by
  have halike := ((steers_setRun z (s.prog.runs[z].enter s.heat.zones[z] k) s).zone z).alike
  refine faultCheck_stands ?_
  rw [halike.isOver, halike.stale, h, Bool.and_false]

theorem steers_sampleStage (z : ZoneNo) (s : State) : Steers s (sampleStage z s) := by
  by_cases h : s.prog.runs[z].state.active = true ∧
    ∃ st, s.prog.runs[z].body.stages[s.prog.runs[z].stage]? = some st ∧ st.endsOn s.heat.zones[z] = true
  · obtain ⟨hactive, st, hstage, hends⟩ := h
    rw [sampleStage_ends hactive hstage hends]
    exact steers_enterStage _ z s
  · rw [sampleStage_stands h]
    exact .refl s

theorem steers_sampleRun (z : ZoneNo) (s : State) : Steers s (sampleRun z s) :=
  (steers_faultCheck z s).trans (steers_sampleStage z _)

/-- What a sample's run does: the run as R7 and R30 have it, and the events of its fault alone. -/
theorem sampleRun_cases (z : ZoneNo) (s : State) :
    (sampleRun z s).prog.runs[z] = s.prog.runs[z].sampled s.heat.zones[z] ∧ (sampleRun z s).route = (faultCheck z s).route ∧
      (sampleRun z s).bus.link = (faultCheck z s).bus.link ∧ ∀ y : ZoneNo, z ≠ y → (sampleRun z s).prog.runs[y] = s.prog.runs[y] := by
  have hother (y : ZoneNo) (hy : z ≠ y) : (faultCheck z s).prog.runs[y] = s.prog.runs[y] := by
    rw [faultCheck_runs, if_neg fun h => hy h.1]
  unfold sampleRun Run.sampled
  cases hf : (s.prog.runs[z].state.active && (s.heat.zones[z].isOver || s.heat.zones[z].stale)) with
  | true =>
    have hrun : (faultCheck z s).prog.runs[z] = { s.prog.runs[z] with state := .fault } := by
      rw [faultCheck_runs, if_pos ⟨rfl, hf⟩]
    have hstands : sampleStage z (faultCheck z s) = faultCheck z s := sampleStage_stands fun h => by
      rw [hrun] at h
      cases h.1
    rw [hstands, if_pos rfl]
    exact ⟨hrun, rfl, rfl, hother⟩
  | false =>
    rw [faultCheck_stands hf, if_neg Bool.false_ne_true]
    by_cases h : s.prog.runs[z].state.active = true ∧
      ∃ st, s.prog.runs[z].body.stages[s.prog.runs[z].stage]? = some st ∧ st.endsOn s.heat.zones[z] = true
    · rw [if_pos h]
      obtain ⟨hactive, st, hstage, hends⟩ := h
      rw [hactive, Bool.true_and] at hf
      rw [sampleStage_ends hactive hstage hends, enterStage_quiet _ hf]
      exact ⟨by rw [setRun_runs, if_pos rfl], rfl, rfl, fun y hy => by rw [setRun_runs, if_neg hy]⟩
    · rw [sampleStage_stands h, if_neg h]
      exact ⟨rfl, rfl, rfl, fun _ _ => rfl⟩

/-- The runs after the samples of several zones. -/
theorem sampleRuns_runs {zs : List ZoneNo} (hnodup : zs.Nodup) (s : State) (z : ZoneNo) : (overZones zs sampleRun s).prog.runs[z] =
    if z ∈ zs then s.prog.runs[z].sampled s.heat.zones[z] else s.prog.runs[z] := by
  unfold overZones
  induction zs generalizing s with
  | nil => rw [List.foldl_nil, if_neg List.not_mem_nil]
  | cons y zs ih =>
    obtain ⟨hy, hzs⟩ := List.nodup_cons.mp hnodup
    obtain ⟨hrun, -, -, hother⟩ := sampleRun_cases y s
    rw [List.foldl_cons, ih hzs]
    by_cases heq : y = z
    · subst heq
      rw [if_neg hy, if_pos (List.mem_cons_self ..), hrun]
    · have hmem : z ∈ y :: zs ↔ z ∈ zs := by simp [Ne.symm heq]
      rw [hother z heq, sampled_alike ((steers_sampleRun y s).zone z).alike]
      simp only [hmem]

theorem steers_sampleRuns (zs : List ZoneNo) (s : State) : Steers s (overZones zs sampleRun s) :=
  foldl_inv (P := Steers s) _ (fun u z hu => hu.trans (steers_sampleRun z u)) zs s (.refl s)

theorem faultsOf_sampleRun {zs : List ZoneNo} (hz : z ∉ zs) (s : State) : (sampleRun z s).faultsOf zs = s.faultsOf zs := by
  obtain ⟨-, -, -, hother⟩ := sampleRun_cases z s
  have hrun (y : ZoneNo) (hy : y ∈ zs) : (sampleRun z s).prog.runs[y] = s.prog.runs[y] := hother y fun h => hz (h ▸ hy)
  have halike (y : ZoneNo) : s.heat.zones[y].Alike (sampleRun z s).heat.zones[y] := ((steers_sampleRun z s).zone y).alike
  unfold State.faultsOf
  have hfilter : (zs.filter fun y => (sampleRun z s).prog.runs[y].state.active &&
      ((sampleRun z s).heat.zones[y].isOver || (sampleRun z s).heat.zones[y].stale)) =
      zs.filter fun y => s.prog.runs[y].state.active && (s.heat.zones[y].isOver || s.heat.zones[y].stale) :=
    List.filter_congr fun y hy => by rw [hrun y hy, (halike y).isOver, (halike y).stale]
  rw [hfilter]
  refine List.map_congr_left fun y hy => ?_
  unfold faultEvent Zone.eventTemp
  rw [hrun y (List.mem_filter.mp hy).1, (halike y).isOver, (halike y).temp]

/-- R7: the faults of the samples of several zones, one after another. -/
theorem Joins.sampleRuns {es : List Event} {zs : List ZoneNo} (hnodup : zs.Nodup) (h : Joins s es t) :
    Joins s (es ++ t.faultsOf zs) (overZones zs sampleRun t) := by
  unfold overZones
  induction zs generalizing es t with
  | nil => simpa [State.faultsOf] using h
  | cons z zs ih =>
    obtain ⟨hz, hzs⟩ := List.nodup_cons.mp hnodup
    obtain ⟨-, hroute, hlink, -⟩ := sampleRun_cases z t
    have hnext := ih hzs ((h.faultCheck z).same (u := sampleRun z t) hlink (congrArg Route.events hroute))
    rw [faultsOf_sampleRun hz, List.append_assoc] at hnext
    have hsplit : t.faultsOf (z :: zs) = t.faultsOf [z] ++ t.faultsOf zs := by
      unfold State.faultsOf
      rw [← List.map_append, ← List.filter_append]
      rfl
    rw [hsplit]
    exact hnext

/-- What follows the runs of a SAMPLE. -/
theorem takeSamples_reach (xs : List (ZoneNo × Int × Option Int)) (s : State) : Reach (settling fun _ => True)
    (overZones (xs.map (·.1)) sampleRun (xs.foldl (fun s x => storeSample x s) s)) (takeSamples xs s) :=
  Reach.evalConveyor trivial (settled_reach _)

theorem exec_sample (hup : s.isUp) {p : List Byte} {xs : List (ZoneNo × Int × Option Int)} (hread : s.readingsOf p = some xs)
    (hne : xs ≠ []) : exec (.sample p) s = .next (answerFrame s.statusByte [] .ok (takeSamples xs s)) := by
  cases xs with
  | nil => exact absurd rfl hne
  | cons x xs => exact exec_taken hup.1 (by rw [hread]; rfl) (.inr hup.2) (by simp only [hread])

theorem exec_sample_none (hup : s.isUp) {p : List Byte} (hread : s.readingsOf p = some []) :
    exec (.sample p) s = .next (s.refusedWith .invalid) :=
  exec_refused hup.1 (by rw [hread]; rfl) (.inr hup.2) (by simp only [hread])

theorem endsOn_fresh {zn : Zone} (h : zn.stale = false) (st : Stage) : st.endsOn zn = st.reached zn.temp zn.probe := by
  unfold Stage.endsOn Stage.reached
  rw [h]
  cases st.kind <;> cases zn.temp <;> cases zn.probe <;> simp

/-- R7, R30: what becomes of the run of a zone that has taken a fresh reading, with the releases that follow. -/
theorem Run.sampled_outcome {r' : Run} (hfresh : b.stale = false)
    (hrun : r' = r.sampled b ∨ (r.sampled b).state.live = true ∧ r' = { r.sampled b with state := .done, late := false }) :
    let ends := fun k : Nat => (r.body.stages[k]?.map fun st => st.reached b.temp b.probe) = some true
    let stands := r' = r ∨ r' = { r with state := .done, late := false }
    (r.state.active = true → b.isOver = true → r'.state = .fault) ∧
      (r.state.active = true → b.isOver = false → ¬ ends r.stage → stands) ∧
      (r.state.active = true → b.isOver = false → ends r.stage →
          (∃ st ∈ r.body.stages.drop (r.stage + 1), st.kind = .hold) →
        r.stage < r'.stage ∧ (∀ k < r'.stage, r.stage < k → ends k) ∧ ¬ ends r'.stage ∧ r'.elapsed = 0 ∧
          r'.late = false ∧ r'.state.entered) ∧
      (r.state.active = false → stands) := by
  intro ends stands
  have hends (k : Nat) : ends k ↔ ∃ st, r.body.stages[k]? = some st ∧ st.endsOn b = true := by
    simp only [ends, Option.map_eq_some_iff, endsOn_fresh hfresh]
  have hstands (heq : r.sampled b = r) : stands := by
    rw [heq] at hrun
    exact hrun.imp id And.right
  have hcool (hover : b.isOver = false) : r.sampled b =
      if r.state.active = true ∧ ∃ st, r.body.stages[r.stage]? = some st ∧ st.endsOn b = true then r.enter b (r.stage + 1) else r :=
    if_neg (by simp [hover, hfresh])
  refine ⟨fun hactive hover => ?_, fun hactive hover hnot => hstands ?_, fun hactive hover hend hhold => ?_, fun hnot => hstands ?_⟩
  · have heq : r.sampled b = { r with state := .fault } := if_pos (by simp [hactive, hover])
    rw [heq] at hrun
    rcases hrun with rfl | ⟨hlive, -⟩
    · rfl
    · cases hlive
  · rw [hcool hover, if_neg fun h => hnot ((hends _).mpr h.2)]
  · obtain ⟨n, st, hle, hst, hrests, hbefore, henter⟩ := enter_rests r b (r.stage + 1) hhold
    rw [hcool hover, if_pos ⟨hactive, (hends _).mp hend⟩, henter] at hrun
    have hentered : st.kind.runState.entered := .inl (by cases st.kind <;> rfl)
    have hlast : ¬ ends n := fun h => by
      obtain ⟨st', hst', hend'⟩ := (hends n).mp h
      rw [hst] at hst'
      cases hst'
      rw [hrests] at hend'
      cases hend'
    have hpast (k : Nat) (hk : k < n) (hlt : r.stage < k) : ends k := (hends k).mpr (hbefore k hk hlt)
    rcases hrun with rfl | ⟨-, rfl⟩
    · exact ⟨hle, hpast, hlast, rfl, rfl, hentered⟩
    · exact ⟨hle, hpast, hlast, rfl, rfl, .inr (.inr rfl)⟩
  · unfold Run.sampled
    rw [if_neg (by simp [hnot]), if_neg (by simp [hnot])]

/-- R4: where a zone's reading begins in a SAMPLE of a mask, by the probe fitted settings of the station. -/
def State.readingPlace (s : State) (m : Byte) (z : ZoneNo) : Nat :=
  ((zoneNos.filter fun y => y < z && m.getLsbD y).map fun y => if s.heat.zones[y].probeFitted then 4 else 2).sum

theorem readingPlace_eq (s : State) (m : Byte) (z : ZoneNo) :
    readingAt (fun z => s.heat.zones[z].probeFitted) (maskZones m) z = s.readingPlace m z := by
  unfold readingAt maskZones
  rw [List.filter_filter]
  rfl

/-- R4: the reading of a zone in a SAMPLE. -/
def State.readingIn (s : State) (m : Byte) (rest : List Byte) (z : ZoneNo) : ZoneNo × Int × Option Int :=
  readingOf (fun z => s.heat.zones[z].probeFitted) rest z (s.readingPlace m z)

theorem readingsOf_eq {s : State} {m : Byte} {rest : List Byte} (hlen : rest.length = s.sampleLength m) :
    s.readingsOf (m :: rest) = some ((maskZones m).map (s.readingIn m rest)) := by
  refine (readings_eq (maskZones_sorted m) hlen).trans (congrArg some (List.map_congr_left fun z _ => ?_))
  rw [readingPlace_eq]
  rfl

theorem probe_readingIn (s : State) (m : Byte) (rest : List Byte) (z : ZoneNo) :
    (s.heat.zones[z].sampled (s.readingIn m rest z).2.1 (s.readingIn m rest z).2.2).probe =
      if s.heat.zones[z].probeFitted then some (clampTemp (signedAt rest (s.readingPlace m z + 2))) else s.heat.zones[z].probe := by
  unfold Zone.sampled State.readingIn readingOf
  dsimp only
  split
  · rfl
  · rfl

/-- R4: the samples stored, before the runs follow them. -/
def State.sampledBy (s : State) (xs : List (ZoneNo × Int × Option Int)) : State := xs.foldl (fun s x => storeSample x s) s

theorem sampledBy_zones (xs : List (ZoneNo × Int × Option Int)) (s : State) : OnlyZones s (s.sampledBy xs) ∧
    (∀ z : ZoneNo, z ∉ xs.map (·.1) → (s.sampledBy xs).heat.zones[z] = s.heat.zones[z]) ∧
    ((xs.map (·.1)).Nodup → ∀ x ∈ xs, (s.sampledBy xs).heat.zones[x.1] = s.heat.zones[x.1].sampledAt s.heat.step x) :=
  foldl_mapZone (fun s x => storeSample x s) (·.1) (fun x step zn => zn.sampledAt step x) (fun s x => storeSample_eq x s) xs s

/-- What follows the samples stored. -/
theorem takeSamples_follows (xs : List (ZoneNo × Int × Option Int)) (s : State) :
    Steers (s.sampledBy xs) (takeSamples xs s) ∧
      Follows (fun _ => True) (overZones (xs.map (·.1)) sampleRun (s.sampledBy xs)) (takeSamples xs s) := by
  have hreach := takeSamples_reach xs s
  exact ⟨(steers_sampleRuns _ _).trans (hreach.steers steering_admits_settling), hreach.follows fun _ hk => hk⟩

theorem takeSamples_events {xs : List (ZoneNo × Int × Option Int)} (hnodup : (xs.map (·.1)).Nodup) (s : State) :
    (takeSamples xs s).queuesFirst s ((takeSamples xs s).faultEvents s (xs.map (·.1))) := by
  obtain ⟨honly, -, -⟩ := sampledBy_zones xs s
  obtain ⟨hsteers, -⟩ := takeSamples_follows xs s
  have hevents : (takeSamples xs s).faultEvents s (xs.map (·.1)) = (s.sampledBy xs).faultsOf (xs.map (·.1)) :=
    faultEvents_eq (fun z _ => by rw [honly.prog]) fun z _ => (hsteers.zone z).alike
  rw [hevents]
  exact (Joins.sampleRuns hnodup honly.joins).queuesFirst ((takeSamples_reach xs s).steers steering_admits_settling)

theorem takeSamples_run {xs : List (ZoneNo × Int × Option Int)} (hnodup : (xs.map (·.1)).Nodup) (s : State) (z : ZoneNo) :
    (takeSamples xs s).prog.runs[z] =
        (if z ∈ xs.map (·.1) then s.prog.runs[z].sampled (takeSamples xs s).heat.zones[z] else s.prog.runs[z]) ∨
      (if z ∈ xs.map (·.1) then s.prog.runs[z].sampled (takeSamples xs s).heat.zones[z] else s.prog.runs[z]).state.live = true ∧
        (takeSamples xs s).prog.runs[z] =
          { (if z ∈ xs.map (·.1) then s.prog.runs[z].sampled (takeSamples xs s).heat.zones[z] else s.prog.runs[z]) with
            state := .done, late := false } := by
  obtain ⟨honly, -, -⟩ := sampledBy_zones xs s
  obtain ⟨hsteers, hfollows⟩ := takeSamples_follows xs s
  have hrun := sampleRuns_runs hnodup (s.sampledBy xs) z
  rw [honly.prog, ← sampled_alike (hsteers.zone z).alike] at hrun
  rw [← hrun]
  exact (hfollows.run z).imp id fun ⟨hlive, _, heq⟩ => ⟨hlive, heq⟩

end Samples

end Sys2Proof.Machine

namespace Sys2Proof.Proofs
open Sys2Proof.Machine

/-- Settles O33: the samples stored, the runs of the selected zones each as R7 and R30 have it, then what follows them. -/
theorem sample : Obligations.Sample := by
  intro m rest s hup hlen
  have hread := readingsOf_eq hlen
  refine ⟨fun hnone => exec_sample_none hup (by rw [hread, hnone]; rfl), fun hsome => ?_⟩
  obtain ⟨xs, hxs, hmem, hread⟩ : ∃ xs : List (ZoneNo × Int × Option Int), xs.map (·.1) = maskZones m ∧
      (∀ z ∈ maskZones m, s.readingIn m rest z ∈ xs) ∧ s.readingsOf (m :: rest) = some xs :=
    ⟨_, by rw [List.map_map]; exact List.map_id _, fun z hz => List.mem_map_of_mem hz, hread⟩
  have hne : xs ≠ [] := fun h => hsome (by rw [← hxs, h]; rfl)
  have hnodup : (xs.map (·.1)).Nodup := hxs ▸ maskZones_nodup m
  obtain ⟨honly, hother, hown⟩ := sampledBy_zones xs s
  obtain ⟨hsteers, -⟩ := takeSamples_follows xs s
  have hevents := takeSamples_events hnodup s
  have hruns := takeSamples_run hnodup s
  rw [hxs] at hevents
  simp only [hxs] at hruns
  have hsettings : (takeSamples xs s).settings = s.settings := settings_of_kept (takeSamples_kept xs s)
  have hsteady := takeSamples_steady xs s
  have hmask (z : ZoneNo) : z ∈ maskZones m ↔ m.getLsbD z = true := by simp [maskZones]
  have hown (z : ZoneNo) (hz : z ∈ maskZones m) : (s.sampledBy xs).heat.zones[z] =
      s.heat.zones[z].sampledAt s.heat.step (s.readingIn m rest z) := hown hnodup _ (hmem z hz)
  have hbegun (z : ZoneNo) : (s.sampledBy xs).heat.zones[z].plan.filter (· ≤ s.heat.step) =
      s.heat.zones[z].plan.filter (· ≤ s.heat.step) := by
    by_cases hz : z ∈ maskZones m
    · rw [hown z hz]
      exact Zone.sampledAt_begun _ _ _
    · rw [hother z (hxs ▸ hz)]
  have htaken := exec_sample hup hread hne
  generalize takeSamples xs s = t at *
  refine ⟨_, htaken, rfl, rfl, hsteady, hsettings, hevents,
    fun z hactive hnot => honly.ends (t := t) (hbegun z) hsteers hactive hnot, fun z => ?_⟩
  specialize hruns z
  dsimp only
  rw [answerFrame_prog, answerFrame_heat]
  by_cases hz : m.getLsbD z = true
  · rw [if_pos ((hmask z).mpr hz)] at hruns
    rw [if_pos hz]
    have hzone := hown z ((hmask z).mpr hz)
    have halike := (Zone.sampledAt_alike s.heat.step _ s.heat.zones[z]).trans (hzone ▸ (hsteers.zone z).alike)
    have hfresh : t.heat.zones[z].stale = false := by
      rw [halike.stale]
      rfl
    obtain ⟨hfault, hnotyet, hnext, hidle⟩ := Run.sampled_outcome hfresh hruns
    refine ⟨halike.temp, ?_, halike.age, halike.isOver, hfault, fun hover hcool => ?_, hnotyet, hnext, hidle⟩
    · exact halike.probe.trans (probe_readingIn s m rest z)
    · exact honly.leaves (t := t) (hzone.trans (Zone.sampledAt_leaves (halike.isOver ▸ hover) hcool)) rfl hsteers
  · rw [if_neg fun h => hz ((hmask z).mp h)] at hruns
    rw [if_neg hz]
    have hzone := hother z (hxs ▸ fun h => hz ((hmask z).mp h))
    have halike : s.heat.zones[z].Alike t.heat.zones[z] := hzone ▸ (hsteers.zone z).alike
    exact ⟨halike.temp, halike.probe, halike.age, halike.isOver, hruns.imp id And.right⟩

end Sys2Proof.Proofs

/-! Statements that fail: O38, O42, O45. Each says that a notice handed still waits in the queue as its command ends, in every state.
But a notice taken supersedes by identity (R67), and the statement does not ask that identities differ (`TxSafe`): in a queue that
holds a waiting notice with the identity that a notice about to be handed takes, a later notice that supersedes the one takes the
place of the other too. No reset station reaches such a queue (O9). -/

namespace Sys2Proof.Machine

/-- A queue entry of station 1 that waits, with the identity given. -/
def waitingEntry (id : Nat) (b : Body) : TxEntry :=
  { id := id, notice := { sender := 1, seq := 0, body := b }, attempts := 0, waitMs := 0, onLine := false, orphan := false }

/-- Station 1, configured and JOINED, with the runs, the board and the queue given. -/
def joinedWith (runs : Vector Run 8) (board : List CourseRec) (queue : List TxEntry) : State :=
  { State.reset with
    prog := { State.reset.prog with runs := runs }
    course := { State.reset.course with board := board }
    bus := { State.reset.bus with link := .joined, queue := queue }
    port := { State.reset.port with configured := true } }

/-- A HEATING run on a course, at its heat limit of 30 s. -/
def heatingRun (c : CourseNo) (late : Bool) : Run :=
  { Run.fresh c 0 { heatLimit := 30, holdLimit := 60, plate := false, stages := [] } with
    state := .heating, elapsed := 30, late := late }

/-- The answer is a next state in whose queue a notice of the kind given waits. -/
def leavesWaiting (f : Body → Bool) : Answer → Bool
  | .next t => t.bus.queue.any fun e => e.waiting && f e.body
  | _ => false

theorem leavesWaiting_next {f : Body → Bool} {a : Answer} {t : State} (h : a = .next t)
    (hwaits : ∃ e ∈ t.bus.queue, e.waiting = true ∧ f e.body = true) : leavesWaiting f a = true := by
  obtain ⟨e, he, hwaiting, hf⟩ := hwaits
  rw [h]
  exact List.any_eq_true.mpr ⟨e, he, by rw [hwaiting, hf]; rfl⟩

/-- A late run on course 3, its record open, and a HOLD of course 3 waiting with the identity that the COURSE is about to take. -/
def platesClash : State :=
  joinedWith (State.reset.prog.runs.set 0 (heatingRun 3 true)) [CourseRec.new 3] [waitingEntry 0 (.hold 3 0)]

/-- Runs on courses 3 and 5, that on 3 about to be late, their records open, and a COURSE of course 5 waiting with the identity that the
HOLD of course 3 is about to take. -/
def lateClash : State :=
  joinedWith ((State.reset.prog.runs.set 0 (heatingRun 3 false)).set 1 (heatingRun 5 false)) [CourseRec.new 3, CourseRec.new 5]
    [waitingEntry 1 (.course 5 0 false 0 none none)]

/-- The COURSE of course 3 and the WARE both due again, and a WARE waiting with the identity that the COURSE is about to take. -/
def repeatClash : State :=
  let s := joinedWith State.reset.prog.runs
    [{ CourseRec.new 3 with
       repeatCount := 3, members := [{ station := 1, standing := .armed, warm := 0, fireSeen := false }] }]
    [waitingEntry 0 (.ware 0 0 0)]
  { s with
    ware := { s.ware with repeatCount := 9 }
    port := { s.port with straps := { s.port.straps with conveyor := true } } }

theorem lateClash_board : BoardSafe lateClash := by constructor <;> decide +kernel
theorem repeatClash_board : BoardSafe repeatClash := by constructor <;> decide +kernel
theorem repeatClash_pages : PagesSafe repeatClash := by constructor <;> decide +kernel

/-- The HOLD of the late run takes the place of the COURSE handed just before it. -/
theorem platesClash_loses :
    leavesWaiting (fun b => b.key == some (.course 3)) (exec (.plates [3, 0, 5]) platesClash) = false := by decide +kernel

/-- The COURSE of course 5 takes the place of the HOLD of course 3. -/
theorem lateClash_loses : leavesWaiting (· == .hold 3 0) (exec (.zoneLate 0) lateClash) = false := by decide +kernel

/-- The WARE takes the place of every COURSE. -/
theorem repeatClash_loses :
    leavesWaiting (fun b => b.key == some (.course 3)) (exec .serviceClockTick repeatClash) = false := by decide +kernel

end Sys2Proof.Machine

namespace Sys2Proof.Proofs
open Sys2Proof.Machine

/-- Refutes O38: PLATES on `platesClash` leaves no COURSE of course 3 waiting, the HOLD of R97 having taken its place. -/
theorem not_courseTables : ¬ Obligations.CourseTables := by
  unfold Obligations.CourseTables
  intro h
  obtain ⟨hplates, -⟩ := (h.2 [3, 0, 5] platesClash ⟨rfl, rfl⟩).2 3 (by decide) rfl
  obtain ⟨t, ht, -, -, -, hset, -, -, -, -, hrec⟩ := hplates rfl
  rw [hset] at hrec
  obtain ⟨r', -, -, hwaits⟩ := hrec (CourseRec.new 3) rfl (by decide +kernel)
  obtain ⟨e, he, hwaiting, hkey⟩ := hwaits nofun (by decide +kernel) rfl (by decide)
  have hyes := leavesWaiting_next (f := fun b => b.key == some (.course 3)) ht ⟨e, he, hwaiting, beq_iff_eq.mpr hkey⟩
  rw [platesClash_loses] at hyes
  cases hyes

/-- Refutes O42: ZONE_LATE on `lateClash` leaves no HOLD of course 3 waiting, the COURSE of course 5 having taken its place. -/
theorem not_holdRequests : ¬ Obligations.HoldRequests := by
  unfold Obligations.HoldRequests
  intro h
  obtain ⟨-, -, -, hlate⟩ := h
  obtain ⟨t, ht, -, -, hwaits⟩ := hlate 0 lateClash rfl lateClash_board rfl rfl (by decide) (by decide) (CourseRec.new 3) rfl nofun
    rfl nofun (by decide +kernel)
  obtain ⟨e, he, hwaiting, hbody⟩ := hwaits rfl (by decide)
  have hyes := leavesWaiting_next (f := (· == .hold 3 0)) ht ⟨e, he, hwaiting, beq_iff_eq.mpr hbody⟩
  rw [lateClash_loses] at hyes
  cases hyes

/-- Refutes O45: a tick of `repeatClash` leaves no COURSE of course 3 waiting, the WARE having taken its place. -/
theorem not_serviceClockTick : ¬ Obligations.ServiceClockTick := by
  unfold Obligations.ServiceClockTick
  intro h
  obtain ⟨t, ht, -, -, -, -, -, -, -, -, -, -, hmanual, -⟩ := h repeatClash rfl repeatClash_pages repeatClash_board
  obtain ⟨-, -, hrepeat⟩ := hmanual nofun (.inl rfl)
  obtain ⟨r', hr', -, hwaits⟩ := hrepeat _ (List.mem_singleton_self _) (by decide)
  obtain ⟨e, he, hwaiting, hbody⟩ := hwaits (by decide) ⟨rfl, by decide⟩
  have hcourse : r'.course = 3 := (recOf_some hr').2
  have hkey : e.body.key = some (.course 3) := by
    rw [hbody]
    unfold State.tells
    rw [hcourse]
    rfl
  have hyes := leavesWaiting_next (f := fun b => b.key == some (.course 3)) ht ⟨e, he, hwaiting, beq_iff_eq.mpr hkey⟩
  rw [repeatClash_loses] at hyes
  cases hyes

end Sys2Proof.Proofs

/-! SUPPORT. What the course block's operations leave of one record: its figures and the other stations' member entries stand, an OPEN
record stays OPEN, and a fired one stays fired or is released; the readiness that an evaluation leaves; and the room that the notices
of one course take in the transmit queue. -/

namespace Sys2Proof.Machine

/-! ### One record -/

/-- The member entries of the other stations. -/
def CourseRec.others (r : CourseRec) (own : Station) : List Member := r.members.filter (·.station != own)

/-- R85: the member entries in ascending station number. -/
def CourseRec.Ordered (r : CourseRec) : Prop := r.members.Pairwise fun a b => a.station < b.station

/-- What a change of the own entry, of a hold or of readiness leaves of a record. -/
structure CourseRec.Tends (own : Station) (r r' : CourseRec) : Prop where
  plates : r'.plates = r.plates
  auto : r'.auto = r.auto
  clearDelay : r'.clearDelay = r.clearDelay
  others : r.Ordered → r'.Ordered ∧ r'.others own = r.others own
  member : ∀ st, st ≠ own → r'.member st = r.member st
  opened : r.state = .opened → r'.state = .opened
  released : r.state = .released → r'.state = .released
  fired : r.state.isFired = true → r'.state.isFired = true ∨ r'.state = .released

section OneRecord
variable {own : Station} {r r' r'' : CourseRec}

theorem CourseRec.Tends.refl (r : CourseRec) : r.Tends own r := ⟨rfl, rfl, rfl, fun h => ⟨h, rfl⟩, fun _ _ => rfl, id, id, .inl⟩

theorem CourseRec.Tends.trans (h : r.Tends own r') (h' : r'.Tends own r'') : r.Tends own r'' where
  plates := h'.plates.trans h.plates
  auto := h'.auto.trans h.auto
  clearDelay := h'.clearDelay.trans h.clearDelay
  others hr := by
    obtain ⟨hr', heq⟩ := h.others hr
    obtain ⟨hr'', heq'⟩ := h'.others hr'
    exact ⟨hr'', heq'.trans heq⟩
  member st hst := (h'.member st hst).trans (h.member st hst)
  opened := h'.opened ∘ h.opened
  released := h'.released ∘ h.released
  fired hf := (h.fired hf).elim h'.fired fun hr => .inr (h'.released hr)

/-- Entries changed without their keys, those of other stations standing. -/
theorem filter_map_own {f : Member → Member} (hf : ∀ x, x.station ≠ own → f x = x) (hs : ∀ x, (f x).station = x.station)
    (l : List Member) : (l.map f).filter (·.station != own) = l.filter (·.station != own) := by
  induction l with
  | nil => rfl
  | cons x l ih =>
    by_cases hx : x.station = own
    · rw [List.map_cons, List.filter_cons_of_neg (by simp [hs, hx]), List.filter_cons_of_neg (by simp [hx]), ih]
    · rw [List.map_cons, hf x hx, List.filter_cons_of_pos (by simpa using hx), List.filter_cons_of_pos (by simpa using hx), ih]

/-- A sorted list without one key is the entries below it and those above it. -/
theorem filter_ne_of_pairwise {l : List Member} (h : l.Pairwise fun a b => a.station < b.station) :
    l.filter (·.station != own) = l.filter (·.station < own) ++ l.filter (own < ·.station) := by
  induction l with
  | nil => rfl
  | cons x l ih =>
    obtain ⟨hx, hl⟩ := List.pairwise_cons.mp h
    rcases lt_trichotomy x.station own with hlt | heq | hgt
    · rw [List.filter_cons_of_pos (by simpa using hlt.ne), List.filter_cons_of_pos (by simpa using hlt),
        List.filter_cons_of_neg (by simpa using hlt.le), ih hl, List.cons_append]
    · rw [List.filter_cons_of_neg (by simp [heq]), List.filter_cons_of_neg (by simp [heq]), List.filter_cons_of_neg (by simp [heq]), ih hl]
    · have hnone : l.filter (·.station < own) = [] := by
        rw [List.filter_eq_nil_iff]
        intro y hy
        simpa using (hgt.trans (hx y hy)).le
      have hall : l.filter (·.station != own) = l.filter (own < ·.station) := by rw [ih hl, hnone, List.nil_append]
      rw [List.filter_cons_of_pos (by simpa using hgt.ne'), List.filter_cons_of_neg (by simpa using hgt.le),
        List.filter_cons_of_pos (by simpa using hgt), hnone, hall, List.nil_append]

/-- R87: the own entry put in its place leaves the others. -/
theorem putMember_others {l : List Member} (m : Member) (h : l.Pairwise fun a b => a.station < b.station) :
    (putMember m l).filter (·.station != m.station) = l.filter (·.station != m.station) := by
  unfold putMember
  split
  · refine filter_map_own (fun x hx => if_neg hx) (fun x => ?_) l
    split
    next hx => exact hx.symm
    · rfl
  · rw [filter_ne_of_pairwise h, List.filter_append, List.filter_cons_of_neg (by simp), List.filter_filter, List.filter_filter]
    congr 1 <;> refine List.filter_congr fun x _ => ?_
    · by_cases hx : x.station < m.station
      · simp [hx, hx.ne]
      · simp [hx]
    · by_cases hx : m.station < x.station
      · simp [hx, hx.ne']
      · simp [hx]

/-- A record with its state and figures, whose member entries change in the own alone. -/
theorem CourseRec.Tends.of_members {l : List Member} (h : r.Ordered → (l.Pairwise fun a b => a.station < b.station) ∧
    l.filter (·.station != own) = r.members.filter (·.station != own))
    (hmember : ∀ st, st ≠ own → l.find? (·.station == st) = r.members.find? (·.station == st)) : r.Tends own { r with members := l } :=
  ⟨rfl, rfl, rfl, h, hmember, id, id, .inl⟩

/-- An entry looked up in a list where only entries of other stations change. -/
theorem find_map_own {f : Member → Member} {st : Station} (hst : st ≠ own) (hf : ∀ x, x.station ≠ own → f x = x)
    (hs : ∀ x, (f x).station = x.station) (l : List Member) :
    (l.map f).find? (·.station == st) = l.find? (·.station == st) := by
  induction l with
  | nil => rfl
  | cons x l ih =>
    by_cases hx : x.station = st
    · have hown : x.station ≠ own := fun h => hst (hx.symm.trans h)
      rw [List.map_cons, List.find?_cons_of_pos (by simpa [hs] using hx), List.find?_cons_of_pos (by simpa using hx), hf x hown]
    · rw [List.map_cons, List.find?_cons_of_neg (by simpa [hs] using hx), List.find?_cons_of_neg (by simpa using hx), ih]

/-- R85, R87: an entry put in its place is found, and no other is lost. -/
theorem find_putMember {st : Station} {m : Member} (hst : st ≠ m.station) (l : List Member) :
    (putMember m l).find? (·.station == st) = l.find? (·.station == st) := by
  have hside (p : Member → Bool) (hp : ∀ x : Member, x.station = st → p x = true) :
      (l.filter p).find? (·.station == st) = l.find? (·.station == st) := by
    rw [List.find?_filter]
    refine congrArg (fun q => l.find? q) (funext fun x => ?_)
    cases hx : (x.station == st) with
    | true => simp [hp x (by simpa using hx)]
    | false => simp
  have hother (p : Member → Bool) (hp : ∀ x : Member, x.station = st → p x = false) :
      (l.filter p).find? (·.station == st) = none := by
    rw [List.find?_eq_none]
    intro x hx heq
    have hyes := (List.mem_filter.mp hx).2
    rw [hp x (by simpa using heq)] at hyes
    cases hyes
  unfold putMember
  split
  · refine find_map_own hst (fun x hx => if_neg hx) (fun x => ?_) l
    split
    next hx => exact hx.symm
    · rfl
  · rw [List.find?_append, List.find?_cons_of_neg (by simpa using Ne.symm hst)]
    rcases lt_or_gt_of_ne hst with hlt | hgt
    · rw [hside (·.station < m.station) (fun x hx => by simp [hx, hlt]),
        hother (m.station < ·.station) (fun x hx => by simp [hx, hlt.le]), Option.or_none]
    · rw [hother (·.station < m.station) (fun x hx => by simp [hx, hgt.le]),
        hside (m.station < ·.station) (fun x hx => by simp [hx, hgt]), Option.none_or]

theorem find_dropMember {st o : Station} (hst : st ≠ o) (l : List Member) :
    (dropMember o l).find? (·.station == st) = l.find? (·.station == st) := by
  unfold dropMember
  rw [List.find?_filter]
  refine congrArg (fun q => l.find? q) (funext fun x => ?_)
  by_cases hx : x.station = st
  · simp [hx, hst]
  · simp [hx]

/-- A record whose member entries and figures stand, and whose state moves among the fired ones. -/
theorem CourseRec.Tends.of_state (hplates : r'.plates = r.plates) (hauto : r'.auto = r.auto) (hdelay : r'.clearDelay = r.clearDelay)
    (hmembers : r'.members = r.members) (hstate : r'.state = r.state ∨ r.state.isFired = true ∧ (r'.state.isFired = true ∨ r'.state = .released)) :
    r.Tends own r' := by
  refine ⟨hplates, hauto, hdelay, fun h => ?_, fun st _ => ?_, fun h => ?_, fun h => ?_, fun h => ?_⟩
  · unfold CourseRec.Ordered CourseRec.others
    rw [hmembers]
    exact ⟨h, rfl⟩
  · unfold CourseRec.member
    rw [hmembers]
  · rcases hstate with heq | ⟨hf, -⟩
    · exact heq.trans h
    · rw [h] at hf
      cases hf
  · rcases hstate with heq | ⟨hf, -⟩
    · exact heq.trans h
    · rw [h] at hf
      cases hf
  · rcases hstate with heq | ⟨-, hf⟩
    · exact .inl (heq ▸ h)
    · exact hf

/-- R87: the record with the own entry as the program block gives it. -/
def CourseRec.withOwn (r : CourseRec) (own : Station) (given : Option (Standing × Nat)) : CourseRec :=
  { r with members :=
      match given with
      | some (st, warm) => putMember { station := own, standing := st, warm := warm, fireSeen := false } r.members
      | none => dropMember own r.members }

theorem CourseRec.withOwn_tends (r : CourseRec) (given : Option (Standing × Nat)) : r.Tends own (r.withOwn own given) := by
  cases given with
  | none =>
    refine .of_members (fun h => ⟨List.Pairwise.filter _ h, ?_⟩) fun st hst => find_dropMember hst _
    show (r.members.filter _).filter _ = _
    rw [List.filter_filter]
    simp only [Bool.and_self]
  | some x =>
    exact .of_members (fun h => ⟨putMember_pairwise _ h,
      putMember_others { station := own, standing := x.1, warm := x.2, fireSeen := false } h⟩) fun st hst => find_putMember hst _

/-- R91, R87: the record as its COURSE notice is handed. -/
def CourseRec.told (r : CourseRec) (own : Station) (fire : Bool) : CourseRec :=
  { r with
    repeatCount := 0
    members := r.members.map fun m => if fire ∧ m.station = own then { m with fireSeen := true } else m }

theorem CourseRec.told_tends (r : CourseRec) (fire : Bool) : r.Tends own (r.told own fire) := by
  have hkey (m : Member) : (if fire = true ∧ m.station = own then { m with fireSeen := true } else m).station = m.station := by
    split <;> rfl
  exact ⟨rfl, rfl, rfl, fun h => ⟨pairwise_map_of_key Member.station hkey h,
    filter_map_own (fun x hx => if_neg fun hc => hx hc.2) hkey r.members⟩,
    fun st hst => find_map_own hst (fun x hx => if_neg fun hc => hx hc.2) hkey r.members, id, id, .inl⟩

theorem CourseRec.told_quiet (r : CourseRec) : r.told own false = { r with repeatCount := 0 } := by
  unfold CourseRec.told
  simp

/-- R101: the release of a record, whose own entry then follows. -/
theorem CourseRec.releasedAt_tends (clock order : Nat) (hstate : r.state.isFired = true) : r.Tends own (r.releasedAt clock order) :=
  .of_state rfl rfl rfl rfl (.inr ⟨hstate, .inr rfl⟩)

/-- R98: the record once its readiness has been evaluated, before an auto-release. -/
def CourseRec.evaluated (r : CourseRec) : CourseRec :=
  if r.state = .fired ∧ r.isReady = true then { r with state := .ready, readyRaised := true }
  else if r.state = .ready ∧ r.isReady = false then { r with state := .fired, readyRaised := false }
  else r

theorem CourseRec.isReady_iff (r : CourseRec) : r.isReady = true ↔ r.state.isFired = true ∧ r.meetsReady := by
  unfold CourseRec.isReady CourseRec.meetsReady CourseRec.warm
  simp only [Bool.and_eq_true, Bool.or_eq_true, beq_iff_eq, Bool.not_eq_true', List.isEmpty_eq_false_iff, List.all_eq_true,
    decide_eq_true_eq]
  tauto

/-- R98: an evaluation leaves a record settled. -/
theorem CourseRec.evaluated_settled (r : CourseRec) : r.evaluated.settled := by
  unfold CourseRec.evaluated
  split
  next h => exact ⟨nofun, fun _ => ((CourseRec.isReady_iff r).mp h.2).2⟩
  next h =>
    split
    next h' =>
      refine ⟨fun _ hmeets => ?_, nofun⟩
      have hyes : r.isReady = true := (CourseRec.isReady_iff r).mpr ⟨by rw [h'.1]; rfl, hmeets⟩
      rw [h'.2] at hyes
      cases hyes
    next h' =>
      refine ⟨fun hf hmeets => h ⟨hf, (CourseRec.isReady_iff r).mpr ⟨by rw [hf]; rfl, hmeets⟩⟩, fun hr => ?_⟩
      have hyes : r.isReady = true := by
        cases hready : r.isReady with
        | true => rfl
        | false => exact absurd ⟨hr, hready⟩ h'
      exact ((CourseRec.isReady_iff r).mp hyes).2

theorem CourseRec.evaluated_tends (r : CourseRec) : r.Tends own r.evaluated := by
  unfold CourseRec.evaluated
  split
  next h => exact .of_state rfl rfl rfl rfl (.inr ⟨by rw [h.1]; rfl, .inl rfl⟩)
  · split
    next h => exact .of_state rfl rfl rfl rfl (.inr ⟨by rw [h.1]; rfl, .inl rfl⟩)
    · exact .refl r

end OneRecord

/-! ### The records of a station -/

/-- What changes of own entries, holds and readiness leave of the board. -/
structure Tends (s t : State) : Prop where
  straps : t.port.straps = s.port.straps
  courses : t.course.board.map (·.course) = s.course.board.map (·.course)
  record : ∀ c r, s.recOf c = some r → ∃ r', t.recOf c = some r' ∧ r.Tends s.own r'

section Records
variable {s t u : State} {c d : CourseNo} {r : CourseRec}

theorem recOf_eq_none_iff : s.recOf c = none ↔ c ∉ s.course.board.map (·.course) := by
  unfold State.recOf
  simp [List.find?_eq_none]

theorem Tends.none (h : Tends s t) (hnone : s.recOf c = none) : t.recOf c = none := by
  rw [recOf_eq_none_iff] at hnone ⊢
  rw [h.courses]
  exact hnone

theorem own_of_straps (h : t.port.straps = s.port.straps) : t.own = s.own := congrArg Straps.number h

theorem straps_of_kept (h : t.kept = s.kept) : t.port.straps = s.port.straps := congrArg Settings.straps (settings_of_kept h)

theorem own_of_kept (h : t.kept = s.kept) : t.own = s.own := own_of_straps (straps_of_kept h)

theorem isPass_of_kept (h : t.kept = s.kept) : t.isPass = s.isPass := congrArg Straps.pass (straps_of_kept h)

theorem Tends.refl (s : State) : Tends s s := ⟨rfl, rfl, fun _ r h => ⟨r, h, .refl r⟩⟩

theorem Tends.trans (h : Tends s t) (h' : Tends t u) : Tends s u where
  straps := h'.straps.trans h.straps
  courses := h'.courses.trans h.courses
  record c r hr := by
    obtain ⟨r', hr', htends⟩ := h.record c r hr
    obtain ⟨r'', hr'', htends'⟩ := h'.record c r' hr'
    rw [own_of_straps h.straps] at htends'
    exact ⟨r'', hr'', htends.trans htends'⟩

theorem recOf_of_board (h : t.course.board = s.course.board) (c : CourseNo) : t.recOf c = s.recOf c := by
  unfold State.recOf
  rw [h]

theorem Tends.of_board (hboard : t.course.board = s.course.board) (hkept : t.kept = s.kept) : Tends s t where
  straps := straps_of_kept hkept
  courses := by rw [hboard]
  record c r hr := ⟨r, (recOf_of_board hboard c).trans hr, .refl r⟩

theorem courses_mapRec {f : CourseRec → CourseRec} (hf : ∀ r, (f r).course = r.course) (s : State) :
    (mapRec c f s).course.board.map (·.course) = s.course.board.map (·.course) := by
  unfold mapRec
  rw [List.map_map]
  refine List.map_congr_left fun r _ => ?_
  show (if r.course = c then f r else r).course = r.course
  split
  · exact hf r
  · rfl

theorem tends_mapRec {f : CourseRec → CourseRec} (hf : ∀ r, (f r).course = r.course)
    (h : ∀ r, s.recOf c = some r → r.Tends s.own (f r)) : Tends s (mapRec c f s) where
  straps := rfl
  courses := courses_mapRec hf s
  record d r hr := by
    by_cases hd : d = c
    · subst hd
      refine ⟨f r, ?_, h r hr⟩
      rw [recOf_mapRec hf, hr]
      rfl
    · exact ⟨r, (recOf_mapRec_ne hf hd s).trans hr, .refl r⟩

/-! ### COURSE notices -/

/-- What a notice handed changes: the queue, a page that awaits another, and a count. -/
theorem hand_frame (b : Body) (s : State) : hand b s = { s with
    bus := (hand b s).bus, page := (hand b s).page, port := { s.port with counters := (hand b s).port.counters } } := by
  rcases hand_cases b s with ⟨-, h⟩ | ⟨-, ⟨old, -, h⟩ | ⟨-, ⟨-, h⟩ | ⟨-, ⟨v, -, h⟩ | ⟨-, h⟩⟩⟩⟩ <;> rw [h] <;> rfl

theorem handCourse_eq (release fire : Bool) (hrec : s.recOf c = some r) : handCourse c release fire s =
    hand (s.courseNotice r release fire) (mapRec c (·.told s.own fire) s) := by
  unfold handCourse
  rw [hrec]
  rfl

theorem handCourse_none (release fire : Bool) (hrec : s.recOf c = none) : handCourse c release fire s = s := by
  unfold handCourse
  rw [hrec]

theorem recOf_handCourse (release fire : Bool) (s : State) :
    (handCourse c release fire s).recOf c = (s.recOf c).map (·.told s.own fire) := by
  cases hrec : s.recOf c with
  | none => rw [handCourse_none release fire hrec, hrec]; rfl
  | some r =>
    rw [handCourse_eq release fire hrec, recOf_of_board (congrArg Course.board (hand_course _ _)),
      recOf_mapRec (f := (·.told s.own fire)) fun _ => rfl, hrec]

theorem tends_handCourse (c : CourseNo) (release fire : Bool) (s : State) : Tends s (handCourse c release fire s) := by
  cases hrec : s.recOf c with
  | none => rw [handCourse_none release fire hrec]; exact .refl s
  | some r =>
    rw [handCourse_eq release fire hrec]
    exact (tends_mapRec (f := (·.told s.own fire)) (fun _ => rfl) fun r _ => r.told_tends fire).trans
      (.of_board (congrArg Course.board (hand_course _ _)) (hand_kept _ _))

/-! ### The own entry and release -/

theorem recOf_followOwn (given : Option (Standing × Nat)) (s : State) :
    (followOwn c given s).recOf c = (s.recOf c).map (·.withOwn s.own given) :=
  recOf_mapRec (f := (·.withOwn s.own given)) (fun _ => rfl) s

theorem tends_followOwn (c : CourseNo) (given : Option (Standing × Nat)) (s : State) : Tends s (followOwn c given s) :=
  tends_mapRec (f := (·.withOwn s.own given)) (fun _ => rfl) fun r _ => r.withOwn_tends given

/-- R101: the runs end, and the events and the report of the release are made. -/
def releaseSaid (r : CourseRec) (st : Station) (s : State) : State :=
  let s := releaseRuns r.course s
  let s :=
    if r.state != .ready then
      raise { kind := .earlyRelease, course := r.course, zone := none, station := some st,
              value := BitVec.ofNat 16 (r.members.filter (·.standing != .ready)).length } s
    else s
  makeReport (.courseReleased r.course st (r.state != .ready)) (raise
    { kind := .courseReleased, course := r.course, zone := none, station := some st, value := BitVec.ofNat 16 r.members.length } s)

/-- R101, R102: what the release of a record makes known, and its clearing call. -/
def releaseNews (r : CourseRec) (st : Station) (s : State) : State :=
  let s := releaseSaid r st s
  if s.isPass && 0 < r.clearDelay then
    addClearing { course := r.course, remaining := r.clearDelay * 60, delay := r.clearDelay } s
  else s

/-- R87: the own entry of a record follows the runs, and is noted as given. -/
def regiven (c : CourseNo) (s : State) : State := noteGiven c (s.report c) (followOwn c (s.report c) s)

/-- R101: the record as it enters RELEASED. -/
def enterReleased (r : CourseRec) (s : State) : State := mapRec r.course (·.releasedAt s.course.clock s.releasedCount) s

/-- R101: a local release is announced. -/
def announced (c : CourseNo) (isLocal : Bool) (s : State) : State := if isLocal then handCourse c true false s else s

theorem releaseRec_eq (r : CourseRec) (st : Station) (isLocal : Bool) (s : State) : releaseRec r st isLocal s =
    followDemand (regiven r.course (announced r.course isLocal (releaseNews r st (enterReleased r s)))) := rfl

theorem announced_kept (c : CourseNo) (isLocal : Bool) (s : State) : (announced c isLocal s).kept = s.kept := by
  cases isLocal
  · rfl
  · exact handCourse_kept c true false s

theorem tends_announced (c : CourseNo) (isLocal : Bool) (s : State) : Tends s (announced c isLocal s) := by
  cases isLocal
  · exact .refl s
  · exact tends_handCourse c true false s

theorem recOf_announced {isLocal : Bool} (hrec : s.recOf c = some r) (hrepeat : r.repeatCount = 0) :
    (announced c isLocal s).recOf c = some r := by
  cases isLocal
  · exact hrec
  · refine (recOf_handCourse true false s).trans ?_
    rw [hrec, Option.map_some, CourseRec.told_quiet, ← hrepeat]

theorem releaseRuns_course (c : CourseNo) (s : State) : (releaseRuns c s).course = s.course :=
  foldl_keeps State.course _ (fun u z => by
    dsimp only
    split
    · exact setRun_course _ _ _
    · rfl) zoneNos s

theorem addClearing_board (e : ClearEntry) (s : State) : (addClearing e s).course.board = s.course.board := by
  unfold addClearing
  dsimp only
  split
  · split
    · rfl
    · rfl
  · rfl

theorem releaseSaid_course (r : CourseRec) (st : Station) (s : State) : (releaseSaid r st s).course = s.course := by
  unfold releaseSaid
  dsimp only
  rw [makeReport_course, raise_course]
  split
  · rw [raise_course, releaseRuns_course]
  · exact releaseRuns_course _ _

theorem releaseSaid_kept (r : CourseRec) (st : Station) (s : State) : (releaseSaid r st s).kept = s.kept := by
  unfold releaseSaid
  dsimp only
  rw [makeReport_kept, raise_kept]
  split
  · rw [raise_kept, releaseRuns_kept]
  · exact releaseRuns_kept _ _

theorem releaseNews_board (r : CourseRec) (st : Station) (s : State) : (releaseNews r st s).course.board = s.course.board := by
  have hsaid := congrArg Course.board (releaseSaid_course r st s)
  unfold releaseNews
  dsimp only
  split
  · exact (addClearing_board _ _).trans hsaid
  · exact hsaid

theorem releaseNews_kept (r : CourseRec) (st : Station) (s : State) : (releaseNews r st s).kept = s.kept := by
  unfold releaseNews
  dsimp only
  split
  · exact (addClearing_kept _ _).trans (releaseSaid_kept r st s)
  · exact releaseSaid_kept r st s

theorem tends_releaseNews (r : CourseRec) (st : Station) (s : State) : Tends s (releaseNews r st s) :=
  .of_board (releaseNews_board r st s) (releaseNews_kept r st s)

theorem tends_regiven (c : CourseNo) (s : State) : Tends s (regiven c s) :=
  (tends_followOwn c _ s).trans (.of_board rfl (noteGiven_kept _ _ _))

theorem tends_followDemand (s : State) : Tends s (followDemand s) :=
  .of_board (congrArg Course.board (followDemand_course s)) (followDemand_kept s)

theorem tends_releaseRec {st : Station} {isLocal : Bool} (hrec : s.recOf r.course = some r) (hfired : r.state.isFired = true) :
    Tends s (releaseRec r st isLocal s) := by
  have hentered : Tends s (enterReleased r s) := tends_mapRec (fun _ => rfl) fun x hx => by
    obtain rfl : x = r := Option.some.inj (hx.symm.trans hrec)
    exact x.releasedAt_tends _ _ hfired
  rw [releaseRec_eq]
  exact ((hentered.trans (tends_releaseNews r st _)).trans (tends_announced _ _ _)).trans
    ((tends_regiven _ _).trans (tends_followDemand _))

/-- R101: the record that a release leaves: RELEASED, its own entry as the runs then have it. -/
theorem recOf_releaseRec {st : Station} {isLocal : Bool} (hrec : s.recOf r.course = some r) : ∃ given,
    (releaseRec r st isLocal s).recOf r.course = some ((r.releasedAt s.course.clock s.releasedCount).withOwn s.own given) := by
  have hentered : (enterReleased r s).recOf r.course = some (r.releasedAt s.course.clock s.releasedCount) := by
    unfold enterReleased
    rw [recOf_mapRec (f := (·.releasedAt s.course.clock s.releasedCount)) fun _ => rfl, hrec]
    rfl
  have hnews : (releaseNews r st (enterReleased r s)).recOf r.course = some (r.releasedAt s.course.clock s.releasedCount) :=
    (recOf_of_board (releaseNews_board r st _) _).trans hentered
  have htold := recOf_announced (isLocal := isLocal) hnews rfl
  have hown : (announced r.course isLocal (releaseNews r st (enterReleased r s))).own = s.own :=
    (own_of_kept (announced_kept _ _ _)).trans (own_of_kept (releaseNews_kept r st _))
  rw [releaseRec_eq]
  generalize announced r.course isLocal (releaseNews r st (enterReleased r s)) = u at *
  refine ⟨u.report r.course, (recOf_of_board (congrArg Course.board (followDemand_course _)) _).trans ?_⟩
  refine (recOf_followOwn (c := r.course) (u.report r.course) u).trans ?_
  rw [htold, hown]
  rfl

/-- R101: a release of a record not yet RELEASED leaves it so. -/
theorem recOf_releaseCourse {st : Station} {isLocal : Bool} (hrec : s.recOf c = some r) (hstate : r.state ≠ .released) :
    ∃ r', (releaseCourse c st isLocal s).recOf c = some r' ∧ r'.state = .released := by
  have heq : releaseCourse c st isLocal s = releaseRec r st isLocal s := by
    unfold releaseCourse
    rw [hrec]
    exact if_neg hstate
  obtain rfl := (recOf_some hrec).2
  obtain ⟨given, hgiven⟩ := recOf_releaseRec (st := st) (isLocal := isLocal) hrec
  rw [heq]
  exact ⟨_, hgiven, rfl⟩

/-! ### Readiness -/

theorem recOf_enterReady (hrec : s.recOf c = some r) :
    (enterReady r s).recOf c = some { r with state := .ready, readyRaised := true } := by
  obtain rfl := (recOf_some hrec).2
  have hready : (mapRec r.course (fun x => { x with state := .ready, readyRaised := true }) s).recOf r.course =
      some { r with state := .ready, readyRaised := true } := by
    rw [recOf_mapRec (f := fun x => { x with state := .ready, readyRaised := true }) fun _ => rfl, hrec]
    rfl
  unfold enterReady
  dsimp only
  split <;> exact hready

theorem tends_enterReady (hrec : s.recOf c = some r) (hstate : r.state = .fired) : Tends s (enterReady r s) := by
  obtain rfl := (recOf_some hrec).2
  have hready : Tends s (mapRec r.course (fun x => { x with state := .ready, readyRaised := true }) s) :=
    tends_mapRec (fun _ => rfl) fun x hx => by
      obtain rfl : x = r := Option.some.inj (hx.symm.trans hrec)
      exact .of_state rfl rfl rfl rfl (.inr ⟨by rw [hstate]; rfl, .inl rfl⟩)
  unfold enterReady
  dsimp only
  split
  · exact hready
  · exact hready.trans (.of_board rfl (by simp))

/-- R98, R100: the cases of an evaluation of readiness. -/
theorem evalReady_cases (c : CourseNo) (s : State) : (s.recOf c = none ∧ evalReady c s = s) ∨
    ∃ r, s.recOf c = some r ∧
      ((r.state = .fired ∧ r.isReady = true ∧
          ((s.isPass = true ∧ r.auto = true ∧ evalReady c s = releaseCourse c s.own true (enterReady r s)) ∨
            (¬(s.isPass = true ∧ r.auto = true) ∧ evalReady c s = enterReady r s))) ∨
        (¬(r.state = .fired ∧ r.isReady = true) ∧ r.state = .ready ∧ r.isReady = false ∧
          evalReady c s = mapRec c (fun x => { x with state := .fired, readyRaised := false }) s) ∨
        (¬(r.state = .fired ∧ r.isReady = true) ∧ ¬(r.state = .ready ∧ r.isReady = false) ∧ evalReady c s = s)) := by
  unfold evalReady
  cases hrec : s.recOf c with
  | none => exact .inl ⟨rfl, rfl⟩
  | some r =>
    refine .inr ⟨r, rfl, ?_⟩
    dsimp only
    by_cases hfired : r.state = .fired ∧ r.isReady = true
    · rw [if_pos hfired]
      refine .inl ⟨hfired.1, hfired.2, ?_⟩
      by_cases hauto : s.isPass = true ∧ r.auto = true
      · exact .inl ⟨hauto.1, hauto.2, if_pos (by simp [hauto])⟩
      · exact .inr ⟨hauto, if_neg (by simpa using hauto)⟩
    · rw [if_neg hfired]
      by_cases hready : r.state = .ready ∧ r.isReady = false
      · exact .inr (.inl ⟨hfired, hready.1, hready.2, if_pos ⟨hready.1, by simp [hready.2]⟩⟩)
      · exact .inr (.inr ⟨hfired, hready, if_neg (by simpa using hready)⟩)

/-- R98, R100: the record after an evaluation of its readiness: READY or not as it is ready, or RELEASED by its auto-release. -/
theorem recOf_evalReady (hrec : s.recOf c = some r) :
    ((r.state = .fired ∧ r.isReady = true ∧ s.isPass = true ∧ r.auto = true) ∧
        ∃ r', (evalReady c s).recOf c = some r' ∧ r'.state = .released) ∨
      (¬(r.state = .fired ∧ r.isReady = true ∧ s.isPass = true ∧ r.auto = true) ∧ (evalReady c s).recOf c = some r.evaluated) := by
  rcases evalReady_cases c s with ⟨hnone, -⟩ | ⟨r', hr', ⟨hfired, hready, h⟩ | ⟨hnot, hready, hun, heq⟩ | ⟨hnot, hnot', heq⟩⟩
  · rw [hrec] at hnone
    cases hnone
  all_goals obtain rfl : r' = r := Option.some.inj (hr'.symm.trans hrec)
  · rcases h with ⟨hpass, hauto, heq⟩ | ⟨hauto, heq⟩
    · refine .inl ⟨⟨hfired, hready, hpass, hauto⟩, ?_⟩
      have hentered := recOf_enterReady hr'
      rw [heq]
      exact recOf_releaseCourse hentered nofun
    · refine .inr ⟨fun h => hauto h.2.2, ?_⟩
      rw [heq, recOf_enterReady hr']
      exact congrArg some (if_pos ⟨hfired, hready⟩).symm
  · refine .inr ⟨fun h => hnot ⟨h.1, h.2.1⟩, ?_⟩
    rw [heq, recOf_mapRec (f := fun x => { x with state := .fired, readyRaised := false }) fun _ => rfl, hr']
    exact congrArg some ((if_neg hnot).trans (if_pos ⟨hready, hun⟩)).symm
  · refine .inr ⟨fun h => hnot ⟨h.1, h.2.1⟩, ?_⟩
    rw [heq, hr']
    exact congrArg some ((if_neg hnot).trans (if_neg hnot')).symm

/-- R98: an evaluation of readiness leaves the record settled, and READY only without an auto-release. -/
theorem evalReady_settled {r' : CourseRec} (hr' : (evalReady c s).recOf c = some r') : r'.settled := by
  cases hrec : s.recOf c with
  | none =>
    rcases evalReady_cases c s with ⟨-, heq⟩ | ⟨r, hr, -⟩
    · rw [heq, hrec] at hr'
      cases hr'
    · rw [hrec] at hr
      cases hr
  | some r =>
    rcases recOf_evalReady hrec with ⟨-, r'', hr'', hreleased⟩ | ⟨-, heq⟩
    · obtain rfl : r'' = r' := Option.some.inj (hr''.symm.trans hr')
      unfold CourseRec.settled
      rw [hreleased]
      exact ⟨nofun, nofun⟩
    · obtain rfl : r.evaluated = r' := Option.some.inj (heq.symm.trans hr')
      exact r.evaluated_settled

theorem tends_releaseCourse {st : Station} {isLocal : Bool} (hfired : ∀ r, s.recOf c = some r → r.state = .released ∨ r.state.isFired = true) :
    Tends s (releaseCourse c st isLocal s) := by
  rcases releaseCourse_cases c st isLocal s with heq | ⟨r, hrec, hstate, heq⟩ <;> rw [heq]
  · exact .refl s
  · obtain rfl := (recOf_some hrec).2
    exact tends_releaseRec hrec ((hfired r hrec).resolve_left hstate)

theorem tends_evalReady (c : CourseNo) (s : State) : Tends s (evalReady c s) := by
  rcases evalReady_cases c s with ⟨-, heq⟩ | ⟨r, hrec, ⟨hfired, -, h⟩ | ⟨-, hready, -, heq⟩ | ⟨-, -, heq⟩⟩
  · rw [heq]
    exact .refl s
  · have hentered := tends_enterReady hrec hfired
    rcases h with ⟨-, -, heq⟩ | ⟨-, heq⟩ <;> rw [heq]
    · refine hentered.trans (tends_releaseCourse fun r' hr' => .inr ?_)
      obtain rfl := Option.some.inj ((recOf_enterReady hrec).symm.trans hr')
      rfl
    · exact hentered
  · rw [heq]
    refine tends_mapRec (fun _ => rfl) fun x hx => ?_
    obtain rfl : x = r := Option.some.inj (hx.symm.trans hrec)
    exact .of_state rfl rfl rfl rfl (.inr ⟨by rw [hready]; rfl, .inl rfl⟩)
  · rw [heq]
    exact .refl s

/-! ### Holds and the station's standing -/

theorem tends_enterHeld (h : ∀ x, s.recOf r.course = some x → x.state.isFired = true) : Tends s (enterHeld r s) :=
  Tends.trans (tends_mapRec (c := r.course)
    (f := fun x => { x with state := .held, readyRaised := if r.state = .ready then false else x.readyRaised }) (fun _ => rfl)
    fun x hx => .of_state rfl rfl rfl rfl (.inr ⟨h x hx, .inl rfl⟩)) (.of_board rfl (makeReport_kept _ _))

theorem tends_requestHold (c : CourseNo) (q : Nat) (o : Station) (s : State) : Tends s (requestHold c q o s) := by
  have hwith : Tends s (mapRec c (·.withHold q o) s) := tends_mapRec (fun _ => rfl) fun x _ => .of_state rfl rfl rfl rfl (.inl rfl)
  rcases requestHold_cases c q o s with ⟨-, heq⟩ | ⟨r, hrec, ⟨-, heq⟩ | ⟨-, heq⟩ | ⟨-, hstate, heq⟩ | ⟨-, hfired, heq⟩⟩ <;> rw [heq]
  · exact .refl s
  · exact .refl s
  · exact hwith
  · have hfired : r.state.isFired = true := by rcases hstate with h | h <;> rw [h] <;> rfl
    obtain rfl := (recOf_some hrec).2
    refine hwith.trans (tends_enterHeld fun x hx => ?_)
    have hx := (recOf_mapRec (c := r.course) (f := (·.withHold q o)) (fun _ => rfl) s).symm.trans hx
    rw [hrec] at hx
    obtain rfl := Option.some.inj hx
    exact hfired
  · refine (hwith.trans (tends_mapRec (f := fun x => { x with state := .fired }) (fun _ => rfl) fun x hx => ?_)).trans
      (tends_evalReady c _)
    rw [recOf_mapRec (f := (·.withHold q o)) fun _ => rfl, hrec] at hx
    obtain rfl := Option.some.inj hx
    exact .of_state rfl rfl rfl rfl (.inr ⟨hfired, .inl rfl⟩)

theorem tends_lateHold (c : CourseNo) (s : State) : Tends s (lateHold c s) :=
  (tends_requestHold c _ _ s).trans (.of_board (congrArg Course.board (hand_course _ _)) (hand_kept _ _))

theorem tends_takeStanding (c : CourseNo) (given : Option (Standing × Nat)) (s : State) : Tends s (takeStanding c given s) := by
  unfold takeStanding
  split
  · exact .refl s
  · dsimp only
    have hown := tends_followOwn c given s
    split
    · exact hown
    · have htold := hown.trans (tends_handCourse c false false _)
      split
      · exact (htold.trans (tends_lateHold c _)).trans (tends_evalReady c _)
      · exact htold.trans (tends_evalReady c _)

theorem tends_derive (c : CourseNo) (s : State) : Tends s (derive c s) := by
  rcases derive_cases c s with ⟨-, heq⟩ | ⟨-, heq⟩ <;> rw [heq]
  · exact .refl s
  · exact Tends.trans (t := noteGiven c (s.report c) s) (.of_board rfl (noteGiven_kept _ _ _)) (tends_takeStanding c _ _)

/-! ### A record that is not fired -/

/-- The record of a course, if any, is OPEN or RELEASED. -/
def State.Unfired (s : State) (c : CourseNo) : Prop := ∀ r, s.recOf c = some r → r.state.isFired = false

theorem hasFired_iff (c : CourseNo) (s : State) : s.hasFired c = false ↔ s.Unfired c := by
  unfold State.hasFired State.Unfired
  cases s.recOf c <;> simp

theorem CourseState.isFired_eq_false {x : CourseState} : x.isFired = false ↔ x = .opened ∨ x = .released := by
  cases x <;> simp [CourseState.isFired]

theorem Tends.unfired (h : Tends s t) (hs : s.Unfired c) : t.Unfired c := by
  intro r' hr'
  cases hrec : s.recOf c with
  | none =>
    rw [h.none hrec] at hr'
    cases hr'
  | some r =>
    obtain ⟨r'', hr'', htends⟩ := h.record c r hrec
    obtain rfl : r'' = r' := Option.some.inj (hr''.symm.trans hr')
    rcases CourseState.isFired_eq_false.mp (hs r hrec) with hopened | hreleased
    · rw [htends.opened hopened]
      rfl
    · rw [htends.released hreleased]
      rfl

theorem evalReady_unfired (h : s.Unfired c) : evalReady c s = s := by
  rcases evalReady_cases c s with ⟨-, heq⟩ | ⟨r, hrec, ⟨hfired, -⟩ | ⟨-, hready, -⟩ | ⟨-, -, heq⟩⟩
  · exact heq
  · have := h r hrec
    rw [hfired] at this
    cases this
  · have := h r hrec
    rw [hready] at this
    cases this
  · exact heq

theorem requestHold_unfired (h : s.Unfired c) (q : Nat) (o : Station) :
    (requestHold c q o s).prog = s.prog ∧ (requestHold c q o s).heat = s.heat := by
  rcases requestHold_cases c q o s with ⟨-, heq⟩ | ⟨r, hrec, ⟨-, heq⟩ | ⟨-, heq⟩ | ⟨-, hstate, -⟩ | ⟨-, hfired, -⟩⟩
  · rw [heq]
    exact ⟨rfl, rfl⟩
  · rw [heq]
    exact ⟨rfl, rfl⟩
  · rw [heq]
    exact ⟨rfl, rfl⟩
  · have hun := h r hrec
    rcases hstate with hstate | hstate <;> rw [hstate] at hun <;> cases hun
  · rw [h r hrec] at hfired
    cases hfired

/-- R87: what the program block gives for a course that is not fired touches no run and no zone. -/
theorem takeStanding_unfired (h : s.Unfired c) (given : Option (Standing × Nat)) :
    (takeStanding c given s).prog = s.prog ∧ (takeStanding c given s).heat = s.heat := by
  unfold takeStanding
  split
  · exact ⟨rfl, rfl⟩
  · dsimp only
    have htold : (handCourse c false false (followOwn c given s)).Unfired c :=
      ((tends_followOwn c given s).trans (tends_handCourse c false false _)).unfired h
    have hsame : (handCourse c false false (followOwn c given s)).prog = s.prog ∧
        (handCourse c false false (followOwn c given s)).heat = s.heat := ⟨handCourse_prog .., handCourse_heat ..⟩
    generalize handCourse c false false (followOwn c given s) = u at *
    split
    · exact ⟨rfl, rfl⟩
    · split
      · obtain ⟨hprog, hheat⟩ := requestHold_unfired htold u.course.lateQuanta u.own
        rw [evalReady_unfired ((tends_lateHold c u).unfired htold)]
        exact ⟨((hand_prog _ _).trans hprog).trans hsame.1, ((hand_heat _ _).trans hheat).trans hsame.2⟩
      · rw [evalReady_unfired htold]
        exact hsame

theorem derive_unfired (h : s.Unfired c) : (derive c s).prog.runs = s.prog.runs ∧ (derive c s).heat = s.heat := by
  rcases derive_cases c s with ⟨-, heq⟩ | ⟨-, heq⟩ <;> rw [heq]
  · exact ⟨rfl, rfl⟩
  · obtain ⟨hprog, hheat⟩ := takeStanding_unfired (c := c) (s := noteGiven c (s.report c) s) h (s.report c)
    refine ⟨?_, hheat⟩
    rw [hprog]
    rfl

/-! ### Records made -/

theorem recOf_append {board : List CourseRec} (hnone : ∀ x ∈ board, x.course ≠ r.course)
    (hboard : t.course.board = board ++ [r]) : t.recOf r.course = some r := by
  unfold State.recOf
  rw [hboard, List.find?_append, List.find?_eq_none.mpr fun x hx => by simpa using hnone x hx]
  simp

/-- R86: a record made stands on the board, where that has room. -/
theorem recOf_addRec (hnone : s.recOf r.course = none) (hroom : s.boardHasRoom = true) :
    (addRec r s).recOf r.course = some r := by
  have habsent (x : CourseRec) (hx : x ∈ s.course.board) : x.course ≠ r.course := by
    simpa using List.find?_eq_none.mp hnone x hx
  unfold addRec
  split
  · exact recOf_append habsent rfl
  next hfull =>
    split
    next x hx =>
      refine recOf_append (fun y hy => ?_) rfl
      obtain ⟨z, hz, -, o, rfl⟩ := mem_withoutRec hy
      exact habsent z hz
    next hx =>
      unfold State.boardHasRoom at hroom
      simp [hfull, hx] at hroom

theorem addRec_frame (r : CourseRec) (s : State) : (addRec r s).prog = s.prog ∧ (addRec r s).heat = s.heat ∧
    (addRec r s).bus = s.bus ∧ (addRec r s).route = s.route ∧ (addRec r s).port = s.port := by
  unfold addRec
  split
  · exact ⟨rfl, rfl, rfl, rfl, rfl⟩
  · split <;> exact ⟨rfl, rfl, rfl, rfl, rfl⟩

/-- R86, R87: a record made, its own entry inserted: it is OPEN with the figures given, and no run changes. -/
theorem createRec_made (hstate : r.state = .opened) (hnone : s.recOf r.course = none) (hroom : s.boardHasRoom = true) :
    (∃ r', (createRec r s).recOf r.course = some r' ∧ r.Tends s.own r') ∧ (createRec r s).prog.runs = s.prog.runs ∧
      (createRec r s).heat = s.heat := by
  have hadded := recOf_addRec hnone hroom
  obtain ⟨hprog, hheat, -, -, hport⟩ := addRec_frame r s
  have hun : (addRec r s).Unfired r.course := fun x hx => by
    rw [hadded] at hx
    obtain rfl := Option.some.inj hx
    rw [hstate]
    rfl
  have hown : (addRec r s).own = s.own := own_of_straps (congrArg Port.straps hport)
  unfold createRec
  dsimp only
  split
  · exact ⟨⟨r, hadded, .refl r⟩, congrArg Prog.runs hprog, hheat⟩
  next g hg =>
    have htends : Tends (addRec r s) (takeStanding r.course (some g) (noteGiven r.course (some g) (addRec r s))) :=
      Tends.trans (t := noteGiven r.course (some g) (addRec r s)) (.of_board rfl (noteGiven_kept _ _ _)) (tends_takeStanding _ _ _)
    obtain ⟨hprog', hheat'⟩ :=
      takeStanding_unfired (c := r.course) (s := noteGiven r.course (some g) (addRec r s)) hun (some g)
    obtain ⟨r', hr', hr⟩ := htends.record _ r hadded
    rw [hown] at hr
    refine ⟨⟨r', hr', hr⟩, ?_, hheat'.trans hheat⟩
    rw [hprog']
    show (addRec r s).prog.runs = _
    rw [hprog]

theorem canHaveRec_of_none (hnone : s.recOf c = none) (hcan : s.canHaveRec c = true) : s.boardHasRoom = true := by
  unfold State.canHaveRec at hcan
  rw [hnone] at hcan
  exact hcan

/-- R86: a record stands after it is asked for, as it stood or OPEN and new. -/
theorem ensureRec_stands (hcan : s.canHaveRec c = true) :
    (∀ r, s.recOf c = some r → ensureRec c s = s) ∧
    (s.recOf c = none → ∃ r, (ensureRec c s).recOf c = some r ∧ (CourseRec.new c).Tends s.own r) ∧
    (ensureRec c s).prog.runs = s.prog.runs ∧ (ensureRec c s).heat = s.heat := by
  unfold ensureRec
  cases hrec : s.recOf c with
  | some r => exact ⟨fun _ _ => if_pos rfl, nofun, by rw [if_pos (by rfl)], by rw [if_pos (by rfl)]⟩
  | none =>
    obtain ⟨hmade, hruns, hheat⟩ := createRec_made (r := CourseRec.new c) rfl hrec (canHaveRec_of_none hrec hcan)
    rw [if_neg (by exact Bool.false_ne_true)]
    exact ⟨nofun, fun _ => hmade, hruns, hheat⟩

/-- R27: asking for a record fires nothing. -/
theorem ensureRec_hasFired (hcan : s.canHaveRec c = true) : (ensureRec c s).hasFired c = s.hasFired c := by
  obtain ⟨hsome, hnone, -, -⟩ := ensureRec_stands hcan
  cases hrec : s.recOf c with
  | some r => rw [hsome r hrec]
  | none =>
    obtain ⟨r, hr, htends⟩ := hnone hrec
    unfold State.hasFired
    rw [hrec, hr, Option.map_some, htends.opened rfl]
    rfl

end Records

/-! ### The room that the notices of one course take -/

/-- The notices in the transmit queue, with one more where no COURSE of the course waits. -/
def State.crowd (s : State) (c : CourseNo) : Nat :=
  s.bus.queue.length + if (s.bus.queue.any fun e => e.waiting && e.body.key == some (.course (u8 c))) = true then 0 else 1

section Crowds
variable {s t u : State} {c : CourseNo} {b : Body}

theorem crowd_le (c : CourseNo) (s : State) : s.bus.queue.length ≤ s.crowd c ∧ s.crowd c ≤ s.bus.queue.length + 1 := by
  unfold State.crowd
  split <;> omega

theorem crowd_of_queue (h : t.bus.queue = s.bus.queue) : t.crowd c = s.crowd c := by
  unfold State.crowd
  rw [h]

theorem courseWaits_any (c : CourseNo) (q : List TxEntry) :
    (q.any fun e => e.waiting && e.body.key == some (.course (u8 c))) = true ↔
      ∃ e ∈ q, e.waiting = true ∧ e.body.key = some (.course (u8 c)) := by
  simp [List.any_eq_true]

/-- R67, R68: a notice takes one place at most, where there is room. -/
theorem crowd_hand (b : Body) (hroom : s.bus.queue.length < 12) : (hand b s).crowd c ≤ s.crowd c + 1 := by
  obtain ⟨hle, -⟩ := crowd_le c s
  rcases hand_cases b s with ⟨-, heq⟩ | ⟨-, ⟨old, -, heq⟩ | ⟨-, ⟨-, heq⟩ | ⟨hfull, -⟩⟩⟩
  · rw [heq]
    omega
  · refine (crowd_le c _).2.trans ?_
    rw [heq]
    show (s.bus.queue.map _).length + 1 ≤ _
    rw [List.length_map]
    omega
  · rw [heq]
    unfold State.crowd
    rw [wake_queue]
    show (s.bus.queue ++ [s.newEntry b]).length +
      (if ((s.bus.queue ++ [s.newEntry b]).any fun e => e.waiting && e.body.key == some (.course (u8 c))) = true then 0 else 1) ≤ _
    rw [List.length_append, List.any_append]
    cases s.bus.queue.any fun e => e.waiting && e.body.key == some (.course (u8 c))
    · simp only [Bool.false_or, List.length_singleton]
      split <;> simp
    · simp
  · omega

/-- R67, R68: a COURSE of the course takes its own place, or the one kept for it, and then waits. -/
theorem crowd_handCourse (hkey : b.key = some (.course (u8 c))) (hsends : s.bus.link.sends = true) (hroom : s.crowd c ≤ 12) :
    (hand b s).crowd c ≤ s.crowd c ∧ ∃ e ∈ (hand b s).bus.queue, e.waiting = true ∧ e.body = b := by
  have hwaits {t : State} (h : ∃ e ∈ t.bus.queue, e.waiting = true ∧ e.body = b) : t.crowd c = t.bus.queue.length := by
    obtain ⟨e, he, hw, hb⟩ := h
    unfold State.crowd
    rw [if_pos ((courseWaits_any c _).mpr ⟨e, he, hw, by rw [hb, hkey]⟩)]
    rfl
  rcases hand_cases b s with ⟨hno, -⟩ | ⟨-, ⟨old, hold, heq⟩ | ⟨hnone, ⟨-, heq⟩ | ⟨hfull, -⟩⟩⟩
  · rw [hsends] at hno
    cases hno
  · have hstands : ∃ e ∈ (hand b s).bus.queue, e.waiting = true ∧ e.body = b := by
      rw [heq]
      exact ⟨_, List.mem_map.mpr ⟨old, (supersededBy_some hold).1, if_pos rfl⟩, rfl, rfl⟩
    refine ⟨?_, hstands⟩
    rw [hwaits hstands, heq]
    show (s.bus.queue.map _).length ≤ _
    rw [List.length_map]
    exact (crowd_le c s).1
  all_goals
    have habsent : s.crowd c = s.bus.queue.length + 1 := by
      unfold State.crowd
      rw [if_neg fun h => ?_]
      obtain ⟨e, he, hw, hk⟩ := (courseWaits_any c _).mp h
      refine key_not_mem_of_supersededBy_none hnone hkey ?_
      exact List.mem_filterMap.mpr ⟨e, List.mem_filter.mpr ⟨he, hw⟩, hk⟩
  · have hstands := hand_waits (s := s) (b := b) hsends (by omega)
    refine ⟨?_, hstands⟩
    rw [hwaits hstands, heq, habsent, wake_queue]
    show (s.bus.queue ++ [s.newEntry b]).length ≤ _
    rw [List.length_append]
    exact Nat.le_refl _
  · omega

/-- A COURSE notice of the course waits. -/
def State.CourseWaits (s : State) (c : CourseNo) : Prop := ∃ e ∈ s.bus.queue, e.waiting = true ∧ e.body.key = some (.course (u8 c))

/-- The notices that one course's changes hand, at a station that sends: room for `k` more beside its COURSE is room enough, and where
none but a COURSE is handed, a COURSE that waits goes on waiting. -/
structure Crowds (c : CourseNo) (k : Nat) (s t : State) : Prop where
  link : t.bus.link = s.bus.link
  room : s.bus.link.sends = true → s.crowd c + k ≤ 12 → t.crowd c ≤ s.crowd c + k
  waits : s.bus.link.sends = true → s.crowd c + k ≤ 12 → k = 0 → s.CourseWaits c → t.CourseWaits c

theorem Crowds.of_queue (h : t.bus.queue = s.bus.queue) (hlink : t.bus.link = s.bus.link) : Crowds c 0 s t where
  link := hlink
  room _ _ := (crowd_of_queue h).le
  waits _ _ _ hw := by
    unfold State.CourseWaits at hw ⊢
    rw [h]
    exact hw

theorem Crowds.trans {k l : Nat} (h : Crowds c k s t) (h' : Crowds c l t u) : Crowds c (k + l) s u where
  link := h'.link.trans h.link
  room hsends hroom := by
    have ht := h.room hsends (by omega)
    have hu := h'.room (h.link ▸ hsends) (by omega)
    omega
  waits hsends hroom hzero hw := by
    have ht := h.room hsends (by omega)
    exact h'.waits (h.link ▸ hsends) (by omega) (by omega) (h.waits hsends (by omega) (by omega) hw)

theorem Crowds.mono {k l : Nat} (hle : k ≤ l) (h : Crowds c k s t) : Crowds c l s t where
  link := h.link
  room hsends hroom := by
    have := h.room hsends (by omega)
    omega
  waits hsends hroom hzero := h.waits hsends (by omega) (by omega)

theorem link_of_steady (h : t.steady = s.steady) : t.bus.link = s.bus.link := congrArg Steady.link h

/-- R90: the COURSE handed for a course with a record waits. -/
theorem handCourse_waits {r : CourseRec} (release fire : Bool) (hrec : s.recOf c = some r) (hsends : s.bus.link.sends = true)
    (hroom : s.crowd c ≤ 12) : (handCourse c release fire s).crowd c ≤ s.crowd c ∧
    ∃ e ∈ (handCourse c release fire s).bus.queue, e.waiting = true ∧ e.body = s.courseNotice r release fire := by
  have hcourse := (recOf_some hrec).2
  rw [handCourse_eq release fire hrec]
  exact crowd_handCourse (s := mapRec c (·.told s.own fire) s) (b := s.courseNotice r release fire)
    (congrArg (fun d : CourseNo => some (TxKey.course (u8 d))) hcourse) hsends hroom

theorem handCourse_courseWaits {r : CourseRec} (release fire : Bool) (hrec : s.recOf c = some r) (hsends : s.bus.link.sends = true)
    (hroom : s.crowd c ≤ 12) : (handCourse c release fire s).CourseWaits c := by
  obtain ⟨-, e, he, hw, hbody⟩ := handCourse_waits release fire hrec hsends hroom
  refine ⟨e, he, hw, ?_⟩
  rw [hbody, ← (recOf_some hrec).2]
  rfl

theorem crowds_handCourse (c : CourseNo) (release fire : Bool) (s : State) : Crowds c 0 s (handCourse c release fire s) := by
  cases hrec : s.recOf c with
  | none =>
    rw [handCourse_none release fire hrec]
    exact .of_queue rfl rfl
  | some r => exact ⟨link_of_steady (handCourse_steady c release fire s),
      fun hsends hroom => (handCourse_waits release fire hrec hsends hroom).1,
      fun hsends hroom _ _ => handCourse_courseWaits release fire hrec hsends hroom⟩

theorem crowds_handHold (c : CourseNo) (q : Nat) (s : State) : Crowds c 1 s (handHold c q s) := by
  refine ⟨link_of_steady (hand_steady _ s), fun _ hroom => crowd_hand _ ?_, fun _ _ h => absurd h Nat.one_ne_zero⟩
  have := (crowd_le c s).1
  omega

theorem releaseRuns_bus (c : CourseNo) (s : State) : (releaseRuns c s).bus = s.bus :=
  foldl_keeps State.bus _ (fun u z => by
    dsimp only
    split
    · exact setRun_bus _ _ _
    · rfl) zoneNos s

theorem addClearing_bus (e : ClearEntry) (s : State) : (addClearing e s).bus = s.bus := by
  unfold addClearing
  dsimp only
  split
  · split <;> rfl
  · rfl

theorem releaseNews_bus (r : CourseRec) (st : Station) (s : State) : (releaseNews r st s).bus = s.bus := by
  have hsaid : (releaseSaid r st s).bus = s.bus := by
    unfold releaseSaid
    dsimp only
    rw [makeReport_bus, raise_bus]
    split
    · rw [raise_bus, releaseRuns_bus]
    · exact releaseRuns_bus _ _
  unfold releaseNews
  dsimp only
  split
  · exact (addClearing_bus _ _).trans hsaid
  · exact hsaid

theorem crowds_releaseCourse (c : CourseNo) (st : Station) (isLocal : Bool) (s : State) : Crowds c 0 s (releaseCourse c st isLocal s) := by
  rcases releaseCourse_cases c st isLocal s with heq | ⟨r, hrec, -, heq⟩ <;> rw [heq]
  · exact .of_queue rfl rfl
  · obtain rfl := (recOf_some hrec).2
    rw [releaseRec_eq]
    have hnews : (releaseNews r st (enterReleased r s)).bus = s.bus := releaseNews_bus r st _
    have htold : Crowds r.course 0 s (announced r.course isLocal (releaseNews r st (enterReleased r s))) := by
      refine Crowds.trans (k := 0) (l := 0) (.of_queue (congrArg Bus.queue hnews) (congrArg Bus.link hnews)) ?_
      cases isLocal
      · exact .of_queue rfl rfl
      · exact crowds_handCourse _ _ _ _
    refine Crowds.trans (k := 0) (l := 0) htold (.of_queue ?_ (link_of_steady ((followDemand_steady _).trans ?_)))
    · exact congrArg Bus.queue (followDemand_bus _)
    · rfl

theorem crowds_evalReady (c : CourseNo) (s : State) : Crowds c 0 s (evalReady c s) := by
  rcases evalReady_cases c s with ⟨-, heq⟩ | ⟨r, hrec, ⟨-, -, h⟩ | ⟨-, -, -, heq⟩ | ⟨-, -, heq⟩⟩
  · rw [heq]
    exact .of_queue rfl rfl
  · have hentered : Crowds c 0 s (enterReady r s) := by
      refine .of_queue ?_ (link_of_steady (enterReady_steady r s))
      unfold enterReady
      dsimp only
      split <;> rfl
    rcases h with ⟨-, -, heq⟩ | ⟨-, heq⟩ <;> rw [heq]
    · exact Crowds.trans (k := 0) (l := 0) hentered (crowds_releaseCourse _ _ _ _)
    · exact hentered
  · rw [heq]
    exact .of_queue rfl rfl
  · rw [heq]
    exact .of_queue rfl rfl

theorem crowds_requestHold (c : CourseNo) (q : Nat) (o : Station) (s : State) : Crowds c 0 s (requestHold c q o s) := by
  rcases requestHold_cases c q o s with ⟨-, heq⟩ | ⟨r, hrec, ⟨-, heq⟩ | ⟨-, heq⟩ | ⟨-, -, heq⟩ | ⟨-, -, heq⟩⟩ <;> rw [heq]
  · exact .of_queue rfl rfl
  · exact .of_queue rfl rfl
  · exact .of_queue rfl rfl
  · exact .of_queue rfl rfl
  · exact Crowds.trans (k := 0) (l := 0)
      (t := mapRec c (fun x => { x with state := .fired }) (mapRec c (·.withHold q o) s)) (.of_queue rfl rfl) (crowds_evalReady c _)

theorem crowds_takeStanding (c : CourseNo) (given : Option (Standing × Nat)) (s : State) : Crowds c 1 s (takeStanding c given s) := by
  unfold takeStanding
  split
  · exact Crowds.mono (Nat.zero_le 1) (.of_queue rfl rfl)
  · dsimp only
    split
    · exact Crowds.mono (Nat.zero_le 1) (.of_queue rfl rfl)
    · have htold : Crowds c 0 s (handCourse c false false (followOwn c given s)) :=
        Crowds.trans (k := 0) (l := 0) (t := followOwn c given s) (.of_queue rfl rfl) (crowds_handCourse _ _ _ _)
      split
      · exact Crowds.trans (k := 1) (l := 0) (Crowds.trans (k := 0) (l := 1) htold
          (Crowds.trans (k := 0) (l := 1) (crowds_requestHold _ _ _ _) (crowds_handHold _ _ _))) (crowds_evalReady _ _)
      · exact Crowds.mono (k := 0) (Nat.zero_le 1) (Crowds.trans (k := 0) (l := 0) htold (crowds_evalReady _ _))

theorem crowds_derive (c : CourseNo) (s : State) : Crowds c 1 s (derive c s) := by
  rcases derive_cases c s with ⟨-, heq⟩ | ⟨-, heq⟩ <;> rw [heq]
  · exact Crowds.mono (Nat.zero_le 1) (.of_queue rfl rfl)
  · exact Crowds.trans (k := 0) (l := 1) (t := noteGiven c (s.report c) s) (.of_queue rfl rfl) (crowds_takeStanding _ _ _)

theorem crowds_createRec (r : CourseRec) (s : State) : Crowds r.course 1 s (createRec r s) := by
  obtain ⟨-, -, hbus, -, -⟩ := addRec_frame r s
  have hadded : Crowds r.course 0 s (addRec r s) := .of_queue (by rw [hbus]) (by rw [hbus])
  unfold createRec
  dsimp only
  split
  · exact hadded.mono (Nat.zero_le 1)
  next g _ =>
    exact Crowds.trans (k := 0) (l := 1) (t := noteGiven r.course (some g) (addRec r s))
      (Crowds.trans (k := 0) (l := 0) hadded (.of_queue rfl rfl)) (crowds_takeStanding _ _ _)

theorem crowds_ensureRec (c : CourseNo) (s : State) : Crowds c 1 s (ensureRec c s) := by
  unfold ensureRec
  split
  · exact Crowds.mono (Nat.zero_le 1) (.of_queue rfl rfl)
  · exact crowds_createRec (CourseRec.new c) s

end Crowds

end Sys2Proof.Machine

/-! The moments of a course (R89, R91, R102): O44. -/

namespace Sys2Proof.Machine

section Moments
variable {s : State} {c : CourseNo} {r : CourseRec} {f : CourseRec → Bool}

theorem recPasses_of_some (hrec : s.recOf c = some r) : s.recPasses c f = f r := by
  unfold State.recPasses
  rw [hrec]

theorem recPasses_eq_false (h : ∀ r, s.recOf c = some r → f r = false) : s.recPasses c f = false := by
  cases hrec : s.recOf c with
  | none =>
    unfold State.recPasses
    rw [hrec]
  | some r => exact (recPasses_of_some hrec).trans (h r hrec)

theorem removeRec_of_some (hrec : s.recOf c = some r) :
    removeRec c s = { s with course := { s.course with board := withoutRec r s.course.board } } := by
  unfold removeRec
  rw [hrec]

end Moments

end Sys2Proof.Machine

namespace Sys2Proof.Proofs
open Sys2Proof.Machine

/-- Settles O44. -/
theorem courseMoments : Obligations.CourseMoments := by
  intro c s hreset
  have hage : exec (.releaseAgeExpiry c) s =
      .next (if s.recPasses c (fun r => r.state == .released && 299 ≤ r.releaseAge) = true then tickAge c s else s) :=
    unlessReset_of_not_inReset hreset _
  have hrepeat : exec (.courseRepeat c) s =
      .next (if s.recPasses c (fun r => s.involved r && 3 ≤ r.repeatCount) = true then handCourse c false false s else s) :=
    unlessReset_of_not_inReset hreset _
  have hclear : exec (.clearCall c) s = execClearCall c s := rfl
  unfold execClearCall at hclear
  refine ⟨fun hnot => ?_, fun r hrec hreleased hold => ?_, fun hnot => ?_, fun e he hdue => ?_, fun hnot => ?_,
    fun r hrec hinvolved hdue => ?_⟩
  · refine hage.trans (congrArg _ (if_neg ?_))
    rw [recPasses_eq_false fun r hrec => ?_]
    · exact Bool.false_ne_true
    · rcases hnot r hrec with hstate | hyoung
      · simp [hstate]
      · simp [hyoung]
  · have hyes : s.recPasses c (fun r => r.state == .released && 299 ≤ r.releaseAge) = true := by
      rw [recPasses_of_some hrec]
      simp [hreleased, hold]
    have htick : tickAge c s = { s with course := { s.course with board := withoutRec r s.course.board } } := by
      unfold tickAge
      rw [hrec]
      dsimp only
      rw [if_neg (not_not.mpr hreleased), if_pos hold, removeRec_of_some hrec]
    refine ⟨_, hage.trans (congrArg _ ((if_pos hyes).trans htick)), rfl, ?_⟩
    obtain rfl := (recOf_some hrec).2
    exact withoutRec_courses r s.course.board
  · refine hclear.trans ((unlessReset_of_not_inReset hreset _).trans (congrArg _ ?_))
    split
    next e hfind => exact if_neg (by have := hnot e hfind; omega)
    · rfl
  · refine hclear.trans ((unlessReset_of_not_inReset hreset _).trans (congrArg _ ?_))
    have hcourse : e.course = c := by simpa using List.find?_some he
    dsimp only
    rw [he]
    refine (if_pos hdue).trans ?_
    unfold raiseClearCall
    rw [hcourse]
    rfl
  · refine hrepeat.trans (congrArg _ (if_neg ?_))
    rw [recPasses_eq_false fun r hrec => ?_]
    · exact Bool.false_ne_true
    · rcases hnot r hrec with hout | hfew
      · simp [hout]
      · simp [hfew]
  · have hyes : s.recPasses c (fun r => s.involved r && 3 ≤ r.repeatCount) = true := by
      rw [recPasses_of_some hrec]
      simp [hinvolved, hdue]
    refine ⟨_, hrepeat.trans (congrArg _ (if_pos hyes)), ?_, ?_, handCourse_steady c false false s, fun hsends hroom => ?_⟩
    · rw [handCourse_eq false false hrec, hand_frame]
      rfl
    · rw [recOf_handCourse, hrec, Option.map_some, CourseRec.told_quiet]
    · have := (crowd_le c s).2
      exact handCourse_courseWaits false false hrec hsends (by omega)

end Sys2Proof.Proofs

/-! ASSIGN (R27): O35. -/

namespace Sys2Proof.Machine

section Assign
variable {s t u : State} {z y : ZoneNo} {c : CourseNo} {n : Fin 16} {body : Program} {fired : Bool} {zs : List ZoneNo}
  {p : List Byte} {i : Nat}

theorem courseOf_eq {k : Nat} (hc : c ≠ 0) (h : k = c.val) : courseOf k = some c := by
  have hpos : c.val ≠ 0 := fun h0 => hc (Fin.ext h0)
  rw [courseOf, if_pos (by omega), h]
  simp

theorem courseOf_eq_none {k : Nat} (h : k = 0 ∨ 15 < k) : courseOf k = none := if_neg (by omega)

/-! ### The checks -/

theorem assignFrame_out (h : zonesAt p = [] ∨ byteAt p 1 = 0 ∨ 15 < byteAt p 1 ∨ 15 < byteAt p 2) :
    assignFrame p s = (s, .invalid) := by
  unfold assignFrame
  dsimp only
  split
  next c n hc hn =>
    split
    · rcases h with hnone | hzero | hbig | hbig
      · rw [hnone]
        exact if_pos rfl
      · rw [courseAt, courseOf_eq_none (.inl hzero)] at hc
        cases hc
      · rw [courseAt, courseOf_eq_none (.inr hbig)] at hc
        cases hc
      · rw [entryAt_eq_none hbig] at hn
        cases hn
    · rfl
  · rfl

theorem assignFrame_empty (hc : c ≠ 0) (h1 : byteAt p 1 = c.val) (h2 : byteAt p 2 = n.val) (hbody : s.prog.table[n] = none) :
    assignFrame p s = (s, .invalid) := by
  unfold assignFrame courseAt
  rw [courseOf_eq hc h1, entryAt_of_eq h2]
  dsimp only
  rw [hbody]

theorem assignFrame_eq (hc : c ≠ 0) (h1 : byteAt p 1 = c.val) (h2 : byteAt p 2 = n.val) (hbody : s.prog.table[n] = some body) :
    assignFrame p s =
      if (zonesAt p).isEmpty || s.lacksProbe (zonesAt p) body then (s, .invalid)
      else if s.bus.link.bars || s.unfit (zonesAt p) || s.isReleased c then (s, .refusedState)
      else if !s.canHaveRec c then (s, .boardFull)
      else (assign (zonesAt p) c n body s, .ok) := by
  unfold assignFrame courseAt
  rw [courseOf_eq hc h1, entryAt_of_eq h2]
  dsimp only
  rw [hbody]

theorem lacksProbe_iff (zs : List ZoneNo) (body : Program) (s : State) : s.lacksProbe zs body = true ↔
    (∃ st ∈ body.stages, st.kind = .probe) ∧ ∃ z ∈ zs, s.heat.zones[z].probeFitted = false := by
  simp [State.lacksProbe, List.any_eq_true]

theorem unfit_iff (zs : List ZoneNo) (s : State) : s.unfit zs = true ↔
    ∃ z ∈ zs, s.heat.zones[z].rating = 0 ∨ s.prog.runs[z].state.live = true ∨ s.prog.runs[z].state = .fault := by
  simp [State.unfit, List.any_eq_true, or_assoc]

/-- R86: no record of the course stands and none can be made. -/
theorem canHaveRec_full (hnone : s.recOf c = none) (hfull : 4 ≤ s.course.board.length)
    (hrel : ∀ r ∈ s.course.board, r.state ≠ .released) : s.canHaveRec c = false := by
  have hearliest : earliestReleased s.course.board = none := by
    cases h : earliestReleased s.course.board with
    | none => rfl
    | some x =>
      obtain ⟨hx, hreleased⟩ := earliestReleased_mem h
      exact absurd hreleased (hrel x hx)
  unfold State.canHaveRec State.boardHasRoom
  rw [hnone, hearliest]
  simp
  omega

/-! ### The runs set -/

/-- R27, R29: what an ASSIGN makes of a run. -/
def Run.Assigned (r : Run) (c : CourseNo) (n : Fin 16) (body : Program) (fired : Bool) : Prop :=
  (r.program = some n ∧ r.course = c ∧ r.body = body) ∧ (fired = false → r = Run.fresh c n body) ∧
    (fired = true → (∃ st ∈ body.stages, st.kind = .hold) → r.state.entered)

theorem enterStage_names (k : Nat) (z : ZoneNo) (s : State) : (enterStage k z s).prog.runs[z].program = s.prog.runs[z].program ∧
    (enterStage k z s).prog.runs[z].course = s.prog.runs[z].course ∧ (enterStage k z s).prog.runs[z].body = s.prog.runs[z].body := by
  have henter (r : Run) (zn : Zone) : (r.enter zn k).program = r.program ∧ (r.enter zn k).course = r.course ∧
      (r.enter zn k).body = r.body := by
    unfold Run.enter
    dsimp only
    split <;> exact ⟨rfl, rfl, rfl⟩
  rw [enterStage_run]
  dsimp only
  split <;> exact henter _ _

theorem assignRun_own (c : CourseNo) (n : Fin 16) (body : Program) (fired : Bool) (z : ZoneNo) (s : State) :
    ((assignRun c n body fired z s).prog.runs[z]).Assigned c n body fired := by
  have hset : (setRun z (Run.fresh c n body) s).prog.runs[z] = Run.fresh c n body := by rw [setRun_runs, if_pos rfl]
  unfold assignRun
  dsimp only
  cases fired with
  | false =>
    rw [if_neg Bool.false_ne_true, hset]
    exact ⟨⟨rfl, rfl, rfl⟩, fun _ => rfl, nofun⟩
  | true =>
    rw [if_pos rfl]
    have hnames := enterStage_names 0 z (setRun z (Run.fresh c n body) s)
    rw [hset] at hnames
    refine ⟨hnames, nofun, fun _ hhold => (enterStage_enters ?_).2.2.2⟩
    rw [hset]
    exact hhold

theorem assignRun_other (c : CourseNo) (n : Fin 16) (body : Program) (fired : Bool) (hne : z ≠ y) (s : State) :
    (assignRun c n body fired z s).prog.runs[y] = s.prog.runs[y] := by
  unfold assignRun
  dsimp only
  split
  · rw [enterStage_other 0 hne, setRun_runs, if_neg hne]
  · rw [setRun_runs, if_neg hne]

theorem steers_assignRun (c : CourseNo) (n : Fin 16) (body : Program) (fired : Bool) (z : ZoneNo) (s : State) :
    Steers s (assignRun c n body fired z s) := by
  have hset := steers_setRun z (Run.fresh c n body) s
  unfold assignRun
  dsimp only
  split
  · exact hset.trans (steers_enterStage 0 z _)
  · exact hset

theorem assignRun_course (c : CourseNo) (n : Fin 16) (body : Program) (fired : Bool) (z : ZoneNo) (s : State) :
    (assignRun c n body fired z s).course = s.course := by
  unfold assignRun
  dsimp only
  split
  · unfold enterStage
    rw [faultCheck_course, setRun_course, setRun_course]
  · exact setRun_course _ _ _

/-- The station once the selected runs are set, before the standing on the course is derived. -/
def State.assignedRuns (s : State) (zs : List ZoneNo) (c : CourseNo) (n : Fin 16) (body : Program) (fired : Bool) : State :=
  overZones zs (assignRun c n body fired) s

theorem assignedRuns_runs (zs : List ZoneNo) (s : State) :
    (∀ z ∈ zs, ((s.assignedRuns zs c n body fired).prog.runs[z]).Assigned c n body fired) ∧
      ∀ z : ZoneNo, z ∉ zs → (s.assignedRuns zs c n body fired).prog.runs[z] = s.prog.runs[z] := by
  unfold State.assignedRuns overZones
  induction zs generalizing s with
  | nil => exact ⟨nofun, fun _ _ => rfl⟩
  | cons y zs ih =>
    obtain ⟨hin, hout⟩ := ih (assignRun c n body fired y s)
    refine ⟨fun z hz => ?_, fun z hz => ?_⟩
    · by_cases hmem : z ∈ zs
      · exact hin z hmem
      · obtain rfl := (List.mem_cons.mp hz).resolve_right hmem
        rw [List.foldl_cons, hout z hmem]
        exact assignRun_own c n body fired z s
    · obtain ⟨hne, hmem⟩ := not_or.mp (mt List.mem_cons.mpr hz)
      rw [List.foldl_cons, hout z hmem, assignRun_other _ _ _ _ (Ne.symm hne)]

theorem steers_assignedRuns (zs : List ZoneNo) (s : State) : Steers s (s.assignedRuns zs c n body fired) :=
  foldl_inv (P := Steers s) _ (fun u z hu => hu.trans (steers_assignRun c n body fired z u)) zs s (.refl s)

theorem assignedRuns_course (zs : List ZoneNo) (s : State) : (s.assignedRuns zs c n body fired).course = s.course :=
  foldl_keeps State.course _ (fun u z => assignRun_course c n body fired z u) zs s

/-- R37: the standing on one course is derived, and the demand followed. -/
theorem deriveOne_reach (c : CourseNo) (s : State) : Reach (settling (· = c)) s (followDemand (derive c s)) :=
  Reach.followDemand trivial (Reach.derive settling_admits_reactsOn .refl)

theorem steers_ensureRec (c : CourseNo) (s : State) : Steers s (ensureRec c s) :=
  (Reach.ensureRec (K := steering) (fun k hk => by cases k <;> first | trivial | exact hk.elim) trivial .refl).steers fun _ hk => hk

/-- R27: what the taken assignment leaves of the zones and the runs. -/
theorem assign_runs (hcan : s.canHaveRec c = true) : Steers s (assign zs c n body s) ∧
    (∀ z ∈ zs, ((assign zs c n body s).prog.runs[z]).Assigned c n body (s.hasFired c)) ∧
    ∀ z : ZoneNo, z ∉ zs → (assign zs c n body s).prog.runs[z] = s.prog.runs[z] ∨
      ((assign zs c n body s).prog.runs[z].state = .done ∧ s.prog.runs[z].state.live = true ∧ s.prog.runs[z].course = c) := by
  have heq : assign zs c n body s = followDemand (derive c ((ensureRec c s).assignedRuns zs c n body (s.hasFired c))) := by
    rw [← ensureRec_hasFired hcan]
    rfl
  obtain ⟨-, -, hruns, -⟩ := ensureRec_stands hcan
  obtain ⟨hin, hout⟩ := assignedRuns_runs (c := c) (n := n) (body := body) (fired := s.hasFired c) zs (ensureRec c s)
  have hsteers : Steers s ((ensureRec c s).assignedRuns zs c n body (s.hasFired c)) :=
    (steers_ensureRec c s).trans (steers_assignedRuns zs _)
  have hunfired (hf : s.hasFired c = false) : ((ensureRec c s).assignedRuns zs c n body (s.hasFired c)).Unfired c := by
    have hun := (hasFired_iff c _).mp ((ensureRec_hasFired hcan).trans hf)
    unfold State.Unfired State.recOf at hun ⊢
    rw [assignedRuns_course]
    exact hun
  rw [heq]
  generalize (ensureRec c s).assignedRuns zs c n body (s.hasFired c) = u at *
  have hreach := deriveOne_reach c u
  refine ⟨hsteers.trans (hreach.steers steering_admits_settling), fun z hz => ?_, fun z hz => ?_⟩
  · obtain ⟨hnames, hfresh, hentered⟩ := hin z hz
    refine ⟨?_, fun hf => ?_, fun hf hhold => ((hreach.follows fun _ hk => hk).entered z).2.2.2.2.2 (hentered hf hhold)⟩
    · rcases (hreach.follows fun _ hk => hk).run z with hsame | ⟨-, -, hdone⟩
      · rw [hsame]
        exact hnames
      · rw [hdone]
        exact hnames
    · rw [followDemand_prog, (derive_unfired (hunfired hf)).1]
      exact hfresh hf
  · have hsame := hout z hz
    rw [hruns] at hsame
    rcases (hreach.follows fun _ hk => hk).run z with heq | ⟨hlive, hcourse, hdone⟩
    · exact .inl (heq.trans hsame)
    · exact .inr ⟨congrArg Run.state hdone, hsame ▸ hlive, hsame ▸ hcourse⟩

end Assign

end Sys2Proof.Machine

namespace Sys2Proof.Proofs
open Sys2Proof.Machine

/-- Settles O35. -/
theorem assign : Obligations.Assign := by
  intro p s hup hlen zs
  have hok : (p.length == 3) = true := by simp [hlen]
  refine ⟨fun hout => exec_refused hup.1 hok (.inr hup.2) (assignFrame_out hout), fun hsome c n hc h1 h2 => ?_⟩
  refine ⟨fun hempty => exec_refused hup.1 hok (.inr hup.2) (assignFrame_empty hc h1 h2 hempty), ?_⟩
  intro body hbody lacks barred full
  have heq := assignFrame_eq hc h1 h2 hbody
  have hlacks : s.lacksProbe zs body = true ↔ lacks := lacksProbe_iff zs body s
  have hnonempty : zs.isEmpty = false := by simpa using hsome
  have hbarred : (s.bus.link.bars || s.unfit zs || s.isReleased c) = true ↔ barred := by
    rw [Bool.or_eq_true, Bool.or_eq_true, unfit_iff]
    exact or_right_comm.trans or_assoc
  refine ⟨fun hl => exec_refused hup.1 hok (.inr hup.2) (heq.trans (if_pos ?_)),
    fun hl hb => exec_refused hup.1 hok (.inr hup.2) (heq.trans ((if_neg ?_).trans (if_pos (hbarred.mpr hb)))),
    fun hl hb hfull => exec_refused hup.1 hok (.inr hup.2)
      (heq.trans ((if_neg ?_).trans ((if_neg (mt hbarred.mp hb)).trans (if_pos ?_)))), fun hl hb hcan => ?_⟩
  · rw [hlacks.mpr hl, Bool.or_true]
  · rw [hnonempty, Bool.false_or]
    exact mt hlacks.mp hl
  · rw [hnonempty, Bool.false_or]
    exact mt hlacks.mp hl
  · obtain ⟨hnone, hlength, hrel⟩ := hfull
    rw [canHaveRec_full hnone hlength hrel]
    rfl
  · have hnot : ¬(zs.isEmpty || s.lacksProbe zs body) = true := by
      rw [hnonempty, Bool.false_or]
      exact mt hlacks.mp hl
    have htaken : exec (.assign p) s = .next (answerFrame s.statusByte [] .ok (Machine.assign zs c n body s)) :=
      exec_taken hup.1 hok (.inr hup.2) (heq.trans ((if_neg hnot).trans ((if_neg (mt hbarred.mp hb)).trans (if_neg (by simp [hcan])))))
    obtain ⟨hsteers, hin, hout⟩ := assign_runs (zs := zs) (n := n) (body := body) hcan
    have hsettings : (Machine.assign zs c n body s).settings = s.settings := settings_of_kept (assign_kept zs c n body s)
    have hsteady := assign_steady zs c n body s
    generalize Machine.assign zs c n body s = t at *
    refine ⟨_, htaken, rfl, rfl, hsettings, hsteady, hsteers.samples, fun z hz => ?_, hout⟩
    obtain ⟨⟨hprogram, hcourse, hbody⟩, hfresh, hentered⟩ := hin z hz
    exact ⟨hprogram, hcourse, hbody, hfresh, hentered⟩

end Sys2Proof.Proofs

/-! OPEN COURSE (R88): O39. -/

namespace Sys2Proof.Machine

section Open
variable {s t : State} {c : CourseNo} {p : List Byte} {r : CourseRec}

/-! ### The record -/

theorem tends_releaseIfAuto (c : CourseNo) (s : State) : Tends s (releaseIfAuto c s) := by
  unfold releaseIfAuto
  split
  next r hrec =>
    split
    next h => exact tends_releaseCourse fun x hx => .inr (by
      obtain rfl : x = r := Option.some.inj (hx.symm.trans hrec)
      rw [h.1]
      rfl)
    · exact .refl s
  · exact .refl s

/-- R88, R100: a READY record whose auto-release flag is set is released, and any other stands. -/
theorem recOf_releaseIfAuto (hrec : s.recOf c = some r) : ∃ r', (releaseIfAuto c s).recOf c = some r' ∧
    r'.state = if r.state = .ready ∧ r.auto = true then .released else r.state := by
  unfold releaseIfAuto
  rw [hrec]
  dsimp only
  split
  next h => exact recOf_releaseCourse hrec (by rw [h.1]; nofun)
  · exact ⟨r, hrec, rfl⟩

/-- R88: what follows once the record has its settings: the notice, the readiness and the release. -/
def opening (c : CourseNo) (s : State) : State := releaseIfAuto c (evalReady c (handCourse c false false s))

theorem tends_opening (c : CourseNo) (s : State) : Tends s (opening c s) :=
  ((tends_handCourse c false false s).trans (tends_evalReady c _)).trans (tends_releaseIfAuto c _)

theorem CourseRec.evaluated_held (h : r.state = .held) : r.evaluated.state = .held := by
  unfold CourseRec.evaluated
  simp [h]

theorem CourseRec.evaluated_fired (h : r.state = .fired ∨ r.state = .ready) :
    r.evaluated.state = if r.isReady = true then .ready else .fired := by
  unfold CourseRec.evaluated
  cases hready : r.isReady <;> rcases h with h | h <;> simp [h]

/-- R98, R100: the state of a fired record at a PASS station once its settings have been taken. -/
theorem opening_state (hrec : s.recOf c = some r) (hpass : s.isPass = true) : ∃ r', (opening c s).recOf c = some r' ∧
    (r.state = .held → r'.state = .held) ∧
    (r.state = .fired ∨ r.state = .ready → (¬ r.meetsReady → r'.state = .fired) ∧
      (r.meetsReady → r'.state = if r.auto then .released else .ready)) := by
  obtain ⟨x, htold, hstate, hauto, hmeets⟩ : ∃ x : CourseRec, (handCourse c false false s).recOf c = some x ∧
      x.state = r.state ∧ x.auto = r.auto ∧ (x.meetsReady ↔ r.meetsReady) :=
    ⟨{ r with repeatCount := 0 }, by rw [recOf_handCourse, hrec, Option.map_some, CourseRec.told_quiet], rfl, rfl, Iff.rfl⟩
  have hpass' : (handCourse c false false s).isPass = true := (isPass_of_kept (handCourse_kept c false false s)).trans hpass
  rw [← hstate, ← hauto, ← hmeets]
  unfold opening
  rcases recOf_evalReady htold with ⟨⟨hfired, hyes, -, hauto⟩, y, hy, hreleased⟩ | ⟨hnot, hy⟩
  · obtain ⟨r', hr', hr'state⟩ := recOf_releaseIfAuto hy
    rw [hreleased, if_neg (by rintro ⟨h, -⟩; cases h)] at hr'state
    refine ⟨r', hr', fun h => ?_, fun _ => ⟨fun h => absurd (x.isReady_iff.mp hyes).2 h, fun _ => ?_⟩⟩
    · rw [hfired] at h
      cases h
    · rw [hr'state, hauto, if_pos rfl]
  · obtain ⟨r', hr', hr'state⟩ := recOf_releaseIfAuto hy
    rw [x.evaluated_tends (own := s.own).auto] at hr'state
    refine ⟨r', hr', fun hheld => ?_, fun hfired => ?_⟩
    · rw [hr'state, CourseRec.evaluated_held hheld, if_neg (by rintro ⟨h, -⟩; cases h)]
    · rw [CourseRec.evaluated_fired hfired] at hr'state
      have hiff : x.isReady = true ↔ x.meetsReady := x.isReady_iff.trans
        ⟨And.right, fun h => ⟨by rcases hfired with hf | hf <;> rw [hf] <;> rfl, h⟩⟩
      refine ⟨fun h => ?_, fun h => ?_⟩
      · rw [if_neg (mt hiff.mp h), if_neg (by rintro ⟨h, -⟩; cases h)] at hr'state
        exact hr'state
      · rw [if_pos (hiff.mpr h)] at hr'state
        rw [hr'state]
        simp only [true_and]

theorem crowds_opening {r : CourseRec} (hrec : s.recOf c = some r) (hsends : s.bus.link.sends = true) (hroom : s.crowd c ≤ 12) :
    (opening c s).CourseWaits c := by
  have hauto (u : State) : Crowds c 0 u (releaseIfAuto c u) := by
    unfold releaseIfAuto
    split
    · split
      · exact crowds_releaseCourse _ _ _ _
      · exact .of_queue rfl rfl
    · exact .of_queue rfl rfl
  have htold := crowds_handCourse c false false s
  have hrest : Crowds c 0 (handCourse c false false s) (opening c s) :=
    Crowds.trans (k := 0) (l := 0) (crowds_evalReady c _) (hauto _)
  refine hrest.waits (htold.link ▸ hsends) ?_ rfl (handCourse_courseWaits false false hrec hsends hroom)
  have := htold.room hsends hroom
  omega

/-- R88: the record that the command writes or makes. -/
def State.openedRec (s : State) (c : CourseNo) (p : List Byte) : State :=
  if (s.recOf c).isSome then mapRec c (·.withOpening p) s else createRec ((CourseRec.new c).withOpening p) s

theorem openCourse_eq (c : CourseNo) (p : List Byte) (s : State) : openCourse c p s = opening c (s.openedRec c p) := rfl

theorem openedRec_old (p : List Byte) {old : CourseRec} (hold : s.recOf c = some old) :
    (s.openedRec c p).recOf c = some (old.withOpening p) := by
  unfold State.openedRec
  rw [hold, if_pos (by rfl), recOf_mapRec (f := (·.withOpening p)) fun _ => rfl, hold]
  rfl

theorem openedRec_new (p : List Byte) (hnone : s.recOf c = none) (hcan : s.canHaveRec c = true) :
    ∃ r, (s.openedRec c p).recOf c = some r ∧ ((CourseRec.new c).withOpening p).Tends s.own r := by
  obtain ⟨hmade, -, -⟩ := createRec_made (r := (CourseRec.new c).withOpening p) rfl hnone (canHaveRec_of_none hnone hcan)
  unfold State.openedRec
  rw [hnone]
  exact hmade

theorem openedRec_kept (c : CourseNo) (p : List Byte) (s : State) : (s.openedRec c p).kept = s.kept := by
  unfold State.openedRec
  split
  · rfl
  · exact createRec_kept _ _

theorem openedRec_crowds (c : CourseNo) (p : List Byte) (s : State) : Crowds c 1 s (s.openedRec c p) := by
  unfold State.openedRec
  split
  · exact Crowds.mono (Nat.zero_le 1) (.of_queue rfl rfl)
  · exact crowds_createRec ((CourseRec.new c).withOpening p) s

theorem steers_openCourse (c : CourseNo) (p : List Byte) (s : State) : Steers s (openCourse c p s) :=
  (Reach.openCourse (K := steering) (fun k hk => by cases k <;> first | trivial | exact hk.elim) trivial p .refl).steers fun _ hk => hk

end Open

end Sys2Proof.Machine

namespace Sys2Proof.Proofs
open Sys2Proof.Machine

/-- Settles O39. -/
theorem openCourse : Obligations.OpenCourse := by
  intro p s hup hlen barred
  have hok : (p.length == 5) = true := by simp [hlen]
  have hbarred : (!s.isPass || s.bus.link.bars) = true ↔ barred := by
    rw [Bool.or_eq_true, Bool.not_eq_true']
  refine ⟨fun hb => exec_refused hup.1 hok (.inr hup.2) (if_pos (hbarred.mpr hb)), fun hb hout => ?_, fun c hb hc h0 => ?_⟩
  · refine exec_refused hup.1 hok (.inr hup.2) ((if_neg (mt hbarred.mp hb)).trans ?_)
    rw [courseAt, courseOf_eq_none hout]
  have hpass : s.isPass = true := by
    cases h : s.isPass with
    | true => rfl
    | false => exact absurd (.inl h) hb
  have hcourse : courseAt p 0 = some c := courseOf_eq hc h0
  refine ⟨fun hrel => exec_refused hup.1 hok (.inr hup.2) ((if_neg (mt hbarred.mp hb)).trans ?_),
    fun hfull => exec_refused hup.1 hok (.inr hup.2) ((if_neg (mt hbarred.mp hb)).trans ?_), fun hnot hcan => ?_⟩
  · rw [hcourse]
    exact if_pos hrel
  · have hnot : ¬s.isReleased c = true := fun h => by
      unfold State.isReleased at h
      unfold State.canHaveRec at hfull
      cases hrec : s.recOf c with
      | none =>
        rw [hrec] at h
        cases h
      | some r =>
        rw [hrec] at hfull
        cases hfull
    rw [hcourse]
    exact (if_neg hnot).trans (if_pos (by simp [hfull]))
  have htaken : exec (.openCourse p) s = .next (answerFrame s.statusByte [] .ok (Machine.openCourse c p s)) := by
    refine exec_taken hup.1 hok (.inr hup.2) ((if_neg (mt hbarred.mp hb)).trans ?_)
    rw [hcourse]
    exact (if_neg (Bool.eq_false_iff.mp hnot)).trans (if_neg (by simp [hcan]))
  have hsettings : (Machine.openCourse c p s).settings = s.settings := settings_of_kept (openCourse_kept c p s)
  have hsteady := openCourse_steady c p s
  have hsamples := (steers_openCourse c p s).samples
  have hown : (s.openedRec c p).own = s.own := own_of_kept (openedRec_kept c p s)
  have hpass' : (s.openedRec c p).isPass = true := (isPass_of_kept (openedRec_kept c p s)).trans hpass
  have htends := tends_opening c (s.openedRec c p)
  have hcrowds := openedRec_crowds c p s
  have hwaits {r : CourseRec} (hr : (s.openedRec c p).recOf c = some r) (hsends : s.bus.link.sends = true)
      (hroom : s.bus.queue.length < 10) : (opening c (s.openedRec c p)).CourseWaits c := by
    have hle := (crowd_le c s).2
    have := hcrowds.room hsends (by omega)
    exact crowds_opening hr (hcrowds.link ▸ hsends) (by omega)
  rw [openCourse_eq] at htaken hsettings hsteady hsamples
  cases hrec : s.recOf c with
  | none =>
    obtain ⟨r, hr, hnew⟩ := openedRec_new p hrec hcan
    obtain ⟨r', hr', htend⟩ := htends.record c r hr
    rw [hown] at htend
    have hall := hnew.trans htend
    have hwaits := hwaits hr
    generalize opening c (s.openedRec c p) = t at *
    exact ⟨_, htaken, rfl, rfl, hsettings, hsteady, hsamples,
      ⟨r', hr', hall.plates, hall.auto, hall.clearDelay, fun _ => hall.opened rfl, nofun⟩, hwaits⟩
  | some old =>
    have hr := openedRec_old p hrec
    obtain ⟨r', hr', htend⟩ := htends.record c _ hr
    obtain ⟨r'', hr'', hheld, hfired⟩ := opening_state hr hpass'
    obtain rfl : r'' = r' := Option.some.inj (hr''.symm.trans hr')
    have hwaits := hwaits hr
    generalize opening c (s.openedRec c p) = t at *
    refine ⟨_, htaken, rfl, rfl, hsettings, hsteady, hsamples,
      ⟨r'', hr', htend.plates, htend.auto, htend.clearDelay, nofun, fun x hx => ?_⟩, hwaits⟩
    obtain rfl := Option.some.inj hx
    refine ⟨fun hun => ?_, hheld, hfired⟩
    rcases CourseState.isFired_eq_false.mp hun with ho | hrel
    · exact (htend.opened ho).trans ho.symm
    · exact (htend.released hrel).trans hrel.symm

end Sys2Proof.Proofs

/-! FIRE and the schedule entries that fire (R28, R84, R94): O40. -/

namespace Sys2Proof.Machine

section Fire
variable {s t : State} {c : CourseNo} {r r' : CourseRec} {z : ZoneNo}

theorem CourseRec.Tends.past {own : Station} (h : r.Tends own r') (hpast : r.state ≠ .opened) : r'.state ≠ .opened := by
  cases hf : r.state.isFired with
  | true =>
    rcases h.fired hf with hf' | hrel
    · intro ho
      rw [ho] at hf'
      cases hf'
    · rw [hrel]
      nofun
  | false =>
    have hrel := (CourseState.isFired_eq_false.mp hf).resolve_left hpast
    rw [h.released hrel]
    nofun

/-! ### The runs fired (R28) -/

/-- One step for each of several zones, each step changing the run of its own zone alone. -/
theorem foldl_runs {f : State → ZoneNo → State} (hother : ∀ u z (y : ZoneNo), z ≠ y → (f u z).prog.runs[y] = u.prog.runs[y])
    {zs : List ZoneNo} (hnodup : zs.Nodup) (s : State) (hz : z ∈ zs) :
    ∃ u : State, u.prog.runs[z] = s.prog.runs[z] ∧ (zs.foldl f s).prog.runs[z] = (f u z).prog.runs[z] := by
  induction zs generalizing s with
  | nil => cases hz
  | cons y zs ih =>
    obtain ⟨hy, hzs⟩ := List.nodup_cons.mp hnodup
    by_cases heq : z = y
    · subst heq
      have hstands (l : List ZoneNo) (hl : z ∉ l) (u : State) : (l.foldl f u).prog.runs[z] = u.prog.runs[z] := by
        induction l generalizing u with
        | nil => rfl
        | cons x l ihl =>
          obtain ⟨hx, hl⟩ := not_or.mp (mt List.mem_cons.mpr hl)
          exact (ihl hl _).trans (hother u x z (Ne.symm hx))
      exact ⟨s, rfl, hstands zs hy _⟩
    · obtain ⟨u, hu, hrun⟩ := ih hzs (f s y) ((List.mem_cons.mp hz).resolve_left heq)
      exact ⟨u, hu.trans (hother s y z (Ne.symm heq)), hrun⟩

/-- R28: an ARMED run of the course enters its program, and no other run changes. -/
theorem fireRuns_runs (c : CourseNo) (s : State) (z : ZoneNo) :
    (s.prog.runs[z].state = .armed → s.prog.runs[z].course = c → (∃ st ∈ s.prog.runs[z].body.stages, st.kind = .hold) →
      (fireRuns c s).prog.runs[z].state.entered ∧ (fireRuns c s).prog.runs[z].body = s.prog.runs[z].body) ∧
    (¬(s.prog.runs[z].state = .armed ∧ s.prog.runs[z].course = c) → (fireRuns c s).prog.runs[z] = s.prog.runs[z]) := by
  obtain ⟨u, hu, hrun⟩ := foldl_runs
    (f := fun s z => if s.prog.runs[z].state = .armed ∧ s.prog.runs[z].course = c then enterStage 0 z s else s)
    (fun u z y hne => by
      split
      · exact enterStage_other 0 hne u
      · rfl) zoneNos_nodup s (mem_zoneNos z)
  unfold fireRuns
  rw [hrun, hu]
  refine ⟨fun harmed hcourse hhold => ?_, fun hnot => ?_⟩
  · rw [if_pos ⟨harmed, hcourse⟩]
    obtain ⟨-, -, hbody⟩ := enterStage_names 0 z u
    exact ⟨(enterStage_enters (by rw [hu]; exact hhold)).2.2.2, hbody.trans (by rw [hu])⟩
  · rw [if_neg hnot, hu]

/-! ### The fire order (R94) -/

/-- R94: the record FIRED, its runs fired, and HELD at once with a hold remaining. -/
def firing (r : CourseRec) (c : CourseNo) (s : State) : State :=
  let s1 := fireRuns c (mapRec c (fun x => { x with state := .fired }) s)
  if 0 < r.hold then enterHeld { r with state := .fired } s1 else s1

theorem fireOrder_opened (hrec : s.recOf c = some r) (hopened : r.state = .opened) :
    fireOrder c s = evalReady c (derive c (firing r c s)) := by
  unfold fireOrder
  rw [hrec]
  exact if_neg (not_not.mpr hopened)

theorem fireOrder_past (hrec : s.recOf c = some r) (hpast : r.state ≠ .opened) : fireOrder c s = s := by
  unfold fireOrder
  rw [hrec]
  exact if_pos hpast

theorem firing_prog (r : CourseRec) (c : CourseNo) (s : State) :
    (firing r c s).prog = (fireRuns c (mapRec c (fun x => { x with state := .fired }) s)).prog ∧
      (firing r c s).heat = (fireRuns c (mapRec c (fun x => { x with state := .fired }) s)).heat := by
  unfold firing
  generalize fireRuns c (mapRec c (fun x => { x with state := .fired }) s) = u
  dsimp only
  split <;> exact ⟨rfl, rfl⟩

theorem fireRuns_bus (c : CourseNo) (s : State) : (fireRuns c s).bus = s.bus := by
  have hcheck (u : State) (z : ZoneNo) : (faultCheck z u).bus = u.bus := by
    rcases faultCheck_cases z u with heq | ⟨e, -, -, heq⟩ <;> rw [heq]
    rw [raise_bus, setRun_bus]
  refine foldl_keeps State.bus _ (fun u z => ?_) zoneNos s
  split
  · unfold enterStage
    rw [hcheck, setRun_bus]
  · rfl

theorem firing_bus (r : CourseRec) (c : CourseNo) (s : State) : (firing r c s).bus = s.bus := by
  have hruns : (fireRuns c (mapRec c (fun x => { x with state := .fired }) s)).bus = s.bus := fireRuns_bus c _
  unfold firing
  generalize fireRuns c (mapRec c (fun x => { x with state := .fired }) s) = u at *
  dsimp only
  split <;> exact hruns

/-- R94: the record that a fire order leaves is past OPEN; its figures and the other stations' entries stand. -/
theorem firing_rec (hrec : s.recOf c = some r) : ∃ r', (firing r c s).recOf c = some r' ∧ r'.state.isFired = true ∧
    r'.members = r.members ∧ r'.plates = r.plates ∧ r'.auto = r.auto ∧ r'.clearDelay = r.clearDelay ∧ r'.state ≠ .ready := by
  obtain rfl := (recOf_some hrec).2
  have hfired : (fireRuns r.course (mapRec r.course (fun x => { x with state := .fired }) s)).recOf r.course =
      some { r with state := .fired } := by
    rw [recOf_of_board (congrArg Course.board (fireRuns_course _ _)),
      recOf_mapRec (f := fun x => { x with state := .fired }) fun _ => rfl, hrec]
    rfl
  unfold firing
  dsimp only
  split
  · generalize fireRuns r.course (mapRec r.course (fun x => { x with state := .fired }) s) = u at hfired
    have hheld : (enterHeld { r with state := .fired } u).recOf r.course =
        (u.recOf r.course).map fun x => { x with state := .held, readyRaised := x.readyRaised } :=
      recOf_mapRec (c := r.course) (f := fun x => { x with state := .held, readyRaised := x.readyRaised }) (fun _ => rfl) u
    rw [hfired] at hheld
    exact ⟨_, hheld, rfl, rfl, rfl, rfl, rfl, nofun⟩
  · exact ⟨_, hfired, rfl, rfl, rfl, rfl, rfl, nofun⟩

theorem firing_kept (r : CourseRec) (c : CourseNo) (s : State) : (firing r c s).kept = s.kept := by
  have hruns : (fireRuns c (mapRec c (fun x => { x with state := .fired }) s)).kept = s.kept := fireRuns_kept c _
  unfold firing
  generalize fireRuns c (mapRec c (fun x => { x with state := .fired }) s) = u at *
  dsimp only
  split
  · exact (enterHeld_kept _ _).trans hruns
  · exact hruns

/-- What derives from a fire order. -/
theorem tends_fired (c : CourseNo) (s : State) : Tends s (evalReady c (derive c s)) :=
  (tends_derive c s).trans (tends_evalReady c _)

theorem fireOrder_rec (hrec : s.recOf c = some r) : ∃ r', (fireOrder c s).recOf c = some r' ∧ r'.state ≠ .opened := by
  by_cases hopened : r.state = .opened
  · obtain ⟨x, hx, hfired, -⟩ := firing_rec hrec
    obtain ⟨y, hy, htends⟩ := (tends_fired c (firing r c s)).record c x hx
    rw [fireOrder_opened hrec hopened]
    refine ⟨y, hy, htends.past fun ho => ?_⟩
    rw [ho] at hfired
    cases hfired
  · rw [fireOrder_past hrec hopened]
    exact ⟨r, hrec, hopened⟩

theorem fireOrder_crowds (c : CourseNo) (s : State) : Crowds c 1 s (fireOrder c s) := by
  cases hrec : s.recOf c with
  | none =>
    have heq : fireOrder c s = s := by
      unfold fireOrder
      rw [hrec]
    rw [heq]
    exact Crowds.mono (Nat.zero_le 1) (.of_queue rfl rfl)
  | some r =>
    by_cases hopened : r.state = .opened
    · rw [fireOrder_opened hrec hopened]
      have hbus := firing_bus r c s
      exact Crowds.trans (k := 0) (l := 1) (.of_queue (congrArg Bus.queue hbus) (congrArg Bus.link hbus))
        (Crowds.trans (k := 1) (l := 0) (crowds_derive c _) (crowds_evalReady c _))
    · rw [fireOrder_past hrec hopened]
      exact Crowds.mono (Nat.zero_le 1) (.of_queue rfl rfl)

/-- R94: what follows the runs fired changes them only by a release. -/
theorem fired_follows (c : CourseNo) (s : State) : Follows (· = c) s (evalReady c (derive c s)) :=
  (Reach.evalReady (K := settling (· = c)) settling_admits_reactsOn (Reach.derive settling_admits_reactsOn .refl)).follows
    fun _ hk => hk

/-- R94, R34: the runs after a fire order. -/
theorem fireOrder_runs (hrec : s.recOf c = some r) (z : ZoneNo) :
    (r.state = .opened → s.prog.runs[z].state = .armed → s.prog.runs[z].course = c →
        (∃ st ∈ s.prog.runs[z].body.stages, st.kind = .hold) →
      (fireOrder c s).prog.runs[z].state.entered ∧ (fireOrder c s).prog.runs[z].body = s.prog.runs[z].body) ∧
    (¬(s.prog.runs[z].state = .armed ∧ s.prog.runs[z].course = c) → (fireOrder c s).prog.runs[z] = s.prog.runs[z] ∨
      ((fireOrder c s).prog.runs[z].state = .done ∧ s.prog.runs[z].state.live = true ∧ s.prog.runs[z].course = c)) := by
  by_cases hopened : r.state = .opened
  · rw [fireOrder_opened hrec hopened]
    obtain ⟨hfire, hother⟩ := fireRuns_runs c (mapRec c (fun x => { x with state := .fired }) s) z
    have hprog := (firing_prog r c s).1
    have hfollows := fired_follows c (firing r c s)
    rw [← hprog] at hfire hother
    refine ⟨fun _ harmed hcourse hhold => ?_, fun hnot => ?_⟩
    · obtain ⟨hentered, hbody⟩ := hfire harmed hcourse hhold
      refine ⟨(hfollows.entered z).2.2.2.2.2 hentered, ?_⟩
      rcases hfollows.run z with heq | ⟨-, -, heq⟩ <;> rw [heq] <;> exact hbody
    · have hsame := hother hnot
      rcases hfollows.run z with heq | ⟨hlive, hcourse, heq⟩
      · exact .inl (heq.trans hsame)
      · exact .inr ⟨congrArg Run.state heq, hsame ▸ hlive, hsame ▸ hcourse⟩
  · rw [fireOrder_past hrec hopened]
    exact ⟨fun ho => absurd ho hopened, fun _ => .inl rfl⟩

/-! ### FIRE -/

theorem steers_fire (c : CourseNo) (s : State) : Steers s (fire c s) :=
  (Reach.fire (K := steering) (c := c) (fun k hk => by cases k <;> first | trivial | exact hk.elim) .refl).steers fun _ hk => hk

/-- The record of the course once a FIRE has asked for it. -/
theorem ensureRec_rec (hcan : s.canHaveRec c = true) : ∃ r, (ensureRec c s).recOf c = some r := by
  obtain ⟨hsome, hnone, -, -⟩ := ensureRec_stands hcan
  cases hrec : s.recOf c with
  | some r => exact ⟨r, by rw [hsome r hrec, hrec]⟩
  | none =>
    obtain ⟨r, hr, -⟩ := hnone hrec
    exact ⟨r, hr⟩

theorem fire_rec (hcan : s.canHaveRec c = true) : ∃ r, (fire c s).recOf c = some r ∧ r.state ≠ .opened := by
  obtain ⟨r, hr⟩ := ensureRec_rec hcan
  obtain ⟨x, hx, hpast⟩ := fireOrder_rec hr
  refine ⟨x.told (fireOrder c (ensureRec c s)).own true, ?_, hpast⟩
  unfold fire fireLocal
  rw [recOf_of_board (congrArg Course.board (followDemand_course _)), recOf_handCourse, hx]
  rfl

theorem fire_runs (hcan : s.canHaveRec c = true) (hnot : s.isReleased c = false) (z : ZoneNo) :
    (s.prog.runs[z].state = .armed → s.prog.runs[z].course = c → s.hasFired c = false →
        (∃ st ∈ s.prog.runs[z].body.stages, st.kind = .hold) →
      (fire c s).prog.runs[z].state.entered ∧ (fire c s).prog.runs[z].body = s.prog.runs[z].body) ∧
    (¬(s.prog.runs[z].state = .armed ∧ s.prog.runs[z].course = c) → (fire c s).prog.runs[z] = s.prog.runs[z] ∨
      ((fire c s).prog.runs[z].state = .done ∧ s.prog.runs[z].state.live = true ∧ s.prog.runs[z].course = c)) := by
  obtain ⟨hsome, hnone, hruns, -⟩ := ensureRec_stands hcan
  obtain ⟨r, hr⟩ := ensureRec_rec hcan
  have hopened (hf : s.hasFired c = false) : r.state = .opened := by
    cases hrec : s.recOf c with
    | none =>
      obtain ⟨x, hx, htends⟩ := hnone hrec
      obtain rfl : x = r := Option.some.inj (hx.symm.trans hr)
      exact htends.opened rfl
    | some x =>
      rw [hsome x hrec, hrec] at hr
      obtain rfl := Option.some.inj hr
      refine (CourseState.isFired_eq_false.mp ((hasFired_iff c s).mp hf x hrec)).resolve_right fun hrel => ?_
      unfold State.isReleased at hnot
      rw [hrec, Option.map_some, hrel] at hnot
      cases hnot
  obtain ⟨hfire, hother⟩ := fireOrder_runs hr z
  rw [hruns] at hfire hother
  have hprog : (fire c s).prog = (fireOrder c (ensureRec c s)).prog := by
    unfold fire fireLocal
    rw [followDemand_prog, handCourse_prog]
  rw [hprog]
  exact ⟨fun harmed hcourse hf => hfire (hopened hf) harmed hcourse, hother⟩

/-- R94: a FIRE of a course past OPEN only tells the others. -/
theorem fire_hasFired (hf : s.hasFired c = true) (hle : s.load.applied ≤ s.declaredQ) :
    (fire c s).prog = s.prog ∧ (fire c s).heat = s.heat ∧ (fire c s).route = s.route := by
  obtain ⟨r, hrec⟩ : ∃ r, s.recOf c = some r := by
    unfold State.hasFired at hf
    cases hrec : s.recOf c with
    | none =>
      rw [hrec] at hf
      cases hf
    | some r => exact ⟨r, rfl⟩
  have hpast : r.state ≠ .opened := fun ho => by
    unfold State.hasFired at hf
    rw [hrec, Option.map_some, ho] at hf
    cases hf
  have hensure : ensureRec c s = s := if_pos (by rw [hrec]; rfl)
  have hsame : (handCourse c false true s).declaredQ = s.declaredQ :=
    declaredQ_of_same (fun z => by rw [handCourse_heat]; exact .refl _) (by rw [handCourse_prog])
  have hfollow : fire c s = handCourse c false true s := by
    unfold fire fireLocal followDemand
    rw [hensure, fireOrder_past hrec hpast]
    exact lowerGrant_of_le (by rw [handCourse_load, hsame]; exact hle)
  rw [hfollow]
  exact ⟨handCourse_prog .., handCourse_heat .., handCourse_route ..⟩

/-- R94, R90: the COURSE with the fire flag waits. -/
theorem fire_waits (hcan : s.canHaveRec c = true) (hsends : s.bus.link.sends = true) (hroom : s.bus.queue.length < 10) :
    ∃ e ∈ (fire c s).bus.queue, e.waiting = true ∧ ∃ m sp pl w, e.body = .course (u8 c) m true sp pl w := by
  obtain ⟨r, hr⟩ := ensureRec_rec hcan
  obtain ⟨x, hx, -⟩ := fireOrder_rec hr
  have hcrowds : Crowds c 2 s (fireOrder c (ensureRec c s)) :=
    Crowds.trans (k := 1) (l := 1) (crowds_ensureRec c s) (fireOrder_crowds c _)
  have hle := (crowd_le c s).2
  have hroom := hcrowds.room hsends (by omega)
  obtain ⟨-, e, he, hw, hbody⟩ := handCourse_waits false true hx (hcrowds.link ▸ hsends) (by omega)
  refine ⟨e, ?_, hw, ?_⟩
  · unfold fire fireLocal
    rw [followDemand_bus]
    exact he
  · rw [hbody]
    unfold State.courseNotice
    rw [(recOf_some hx).2]
    exact ⟨_, _, _, _, rfl⟩

end Fire

end Sys2Proof.Machine

namespace Sys2Proof.Proofs
open Sys2Proof.Machine

/-- O40: FIRE. -/
theorem fire_command (p : List Byte) (s : State) (hup : s.isUp) (hlen : p.length = 1) :
    ((byteAt p 0 = 0 ∨ 15 < byteAt p 0) → exec (.fire p) s = .next (s.refusedWith .invalid)) ∧
    ∀ c : CourseNo, c ≠ 0 → byteAt p 0 = c.val →
      (s.bus.link.bars = true ∨ s.isReleased c = true → exec (.fire p) s = .next (s.refusedWith .refusedState)) ∧
      (¬(s.bus.link.bars = true ∨ s.isReleased c = true) → s.canHaveRec c = false →
        exec (.fire p) s = .next (s.refusedWith .boardFull)) ∧
      (¬(s.bus.link.bars = true ∨ s.isReleased c = true) → s.canHaveRec c = true →
        exec (.fire p) s = .next (answerFrame s.statusByte [] .ok (Machine.fire c s))) := by
  have hok : (p.length == 1) = true := by simp [hlen]
  refine ⟨fun hout => exec_refused hup.1 hok (.inr hup.2) ?_, fun c hc h0 => ?_⟩
  · rw [courseAt, courseOf_eq_none hout]
  have hcourse : courseAt p 0 = some c := courseOf_eq hc h0
  have hbarred : (s.bus.link.bars || s.isReleased c) = true ↔ s.bus.link.bars = true ∨ s.isReleased c = true := Bool.or_eq_true _ _ ▸ Iff.rfl
  refine ⟨fun hb => exec_refused hup.1 hok (.inr hup.2) ?_, fun hb hfull => exec_refused hup.1 hok (.inr hup.2) ?_,
    fun hb hcan => exec_taken hup.1 hok (.inr hup.2) ?_⟩ <;> rw [hcourse]
  · exact if_pos (hbarred.mpr hb)
  · exact (if_neg (mt hbarred.mp hb)).trans (if_pos (by simp [hfull]))
  · exact (if_neg (mt hbarred.mp hb)).trans (if_neg (by simp [hcan]))

theorem exec_scheduleEntryFires {s : State} (hreset : s.inReset = false) {i : Fin 8} {x : Option SchedEntry}
    (hx : s.course.schedule[i.val]? = x) : exec (.scheduleEntryFires i) s = .next ((x.elim s fun e =>
      if e.time = nextSecond s.course.clock then fireEntryAt i.val e s else s)) := by
  have hexec : exec (.scheduleEntryFires i) s = execScheduleEntryFires i s := rfl
  unfold execScheduleEntryFires at hexec
  rw [hexec, unlessReset_of_not_inReset hreset, hx]
  cases x <;> rfl

/-- Settles O40. -/
theorem fire : Obligations.Fire := by
  refine ⟨fun p s hup hlen => ⟨(fire_command p s hup hlen).1, ?_⟩, fun i s hreset => ?_⟩
  · intro c hc h0 barred
    obtain ⟨hrefused, hfull, htaken⟩ := (fire_command p s hup hlen).2 c hc h0
    refine ⟨hrefused, hfull, fun hb hcan => ?_⟩
    have htaken := htaken hb hcan
    have hnot : s.isReleased c = false := Bool.eq_false_iff.mpr fun h => hb (.inr h)
    have hsettings : (Machine.fire c s).settings = s.settings := settings_of_kept (fire_kept c s)
    have hsteady := fire_steady c s
    have hsamples := (steers_fire c s).samples
    have hrec := fire_rec hcan
    have hruns := fire_runs hcan hnot
    have hfired := fire_hasFired (s := s) (c := c)
    have hwaits := fire_waits hcan
    generalize Machine.fire c s = t at *
    exact ⟨_, htaken, rfl, rfl, hsettings, hsteady, hsamples, hrec, hruns, hfired, hwaits⟩
  · refine ⟨fun e he hne => ?_, fun hnone => exec_scheduleEntryFires hreset hnone, fun e he htime => ?_⟩
    · exact (exec_scheduleEntryFires hreset he).trans (congrArg _ (if_neg hne))
    have hfires : exec (.scheduleEntryFires i) s = .next (fireScheduled e.course
        { s with course := { s.course with schedule := s.course.schedule.eraseIdx i } }) :=
      (exec_scheduleEntryFires hreset he).trans (congrArg _ (if_pos htime))
    intro s1
    have hfires : exec (.scheduleEntryFires i) s = .next (fireScheduled e.course s1) := hfires
    refine ⟨fun hb => ?_, fun hb hfull => ?_, fun hc hconf => ?_⟩
    · rw [hfires]
      exact congrArg _ (if_pos (by rw [Bool.or_eq_true]; exact hb))
    · have hnot : ¬(s1.bus.link.bars || s1.isReleased e.course) = true := fun h => by
        rcases (Bool.or_eq_true _ _ ▸ h : _ ∨ _) with h | h
        · exact Bool.false_ne_true (hb.symm.trans h)
        · have h : s.isReleased e.course = true := h
          unfold State.isReleased at h
          unfold State.canHaveRec at hfull
          cases hrec : s.recOf e.course with
          | none =>
            rw [hrec] at h
            cases h
          | some r =>
            rw [hrec] at hfull
            cases hfull
      have hmiss : fireScheduled e.course s1 = bump .boardMiss s1 :=
        (if_neg hnot).trans (if_neg (Bool.eq_false_iff.mp hfull))
      refine ⟨_, hfires.trans (congrArg _ hmiss), rfl, fun k => ?_⟩
      split
      next hk =>
        subst hk
        exact State.counter_bump _ _
      next hk => exact counter_bump_other hk _
    · rw [hfires, afterFire_eq (s := s1) ⟨hreset, hconf⟩ hc]

end Sys2Proof.Proofs

/-! RELEASE, and what a release leaves (R34, R99, R101, R102): O41. -/

namespace Sys2Proof.Machine

section Release
variable {s t u : State} {c : CourseNo} {r : CourseRec} {z : ZoneNo} {st : Station} {isLocal : Bool}

theorem releaseCourse_eq (st : Station) (isLocal : Bool) (hrec : s.recOf c = some r) (hstate : r.state ≠ .released) :
    releaseCourse c st isLocal s = releaseRec r st isLocal s := by
  unfold releaseCourse
  rw [hrec]
  exact if_neg hstate

/-! ### The other records -/

/-- The records of the other courses. -/
def State.boardBeside (s : State) (c : CourseNo) : List CourseRec := s.course.board.filter fun x => x.course != c

theorem boardBeside_mapRec {f : CourseRec → CourseRec} (hf : ∀ r, (f r).course = r.course) (s : State) :
    (mapRec c f s).boardBeside c = s.boardBeside c := by
  unfold State.boardBeside mapRec
  induction s.course.board with
  | nil => rfl
  | cons x l ih =>
    by_cases hx : x.course = c
    · simp only [List.map_cons, hx, if_true, List.filter_cons, hf, bne_self_eq_false, Bool.false_eq_true, if_false]
      exact ih
    · simp only [List.map_cons, hx, if_false, List.filter_cons, bne_iff_ne, ne_eq, not_false_eq_true, if_true]
      exact congrArg _ ih

theorem boardBeside_handCourse (release fire : Bool) (s : State) : (handCourse c release fire s).boardBeside c = s.boardBeside c := by
  cases hrec : s.recOf c with
  | none => rw [handCourse_none release fire hrec]
  | some r =>
    rw [handCourse_eq release fire hrec]
    have h := boardBeside_mapRec (c := c) (f := (·.told s.own fire)) (fun _ => rfl) s
    rw [← h]
    unfold State.boardBeside
    rw [hand_course]

theorem boardBeside_of_course (h : t.course.board = s.course.board) : t.boardBeside c = s.boardBeside c := by
  unfold State.boardBeside
  rw [h]

theorem boardBeside_releaseRec (r : CourseRec) (st : Station) (isLocal : Bool) (s : State) :
    (releaseRec r st isLocal s).boardBeside r.course = s.boardBeside r.course := by
  have hentered : (enterReleased r s).boardBeside r.course = s.boardBeside r.course :=
    boardBeside_mapRec (f := (·.releasedAt s.course.clock s.releasedCount)) (fun _ => rfl) s
  have hnews := (boardBeside_of_course (c := r.course) (releaseNews_board r st (enterReleased r s))).trans hentered
  have htold : (announced r.course isLocal (releaseNews r st (enterReleased r s))).boardBeside r.course = s.boardBeside r.course := by
    cases isLocal
    · exact hnews
    · exact (boardBeside_handCourse true false _).trans hnews
  rw [releaseRec_eq]
  generalize announced r.course isLocal (releaseNews r st (enterReleased r s)) = u at *
  refine (boardBeside_of_course (congrArg Course.board (followDemand_course _))).trans (Eq.trans ?_ htold)
  exact boardBeside_mapRec (f := (·.withOwn u.own (u.report r.course))) (fun _ => rfl) u

/-! ### The runs (R34) -/

theorem releaseRuns_runs (c : CourseNo) (s : State) (z : ZoneNo) : (releaseRuns c s).prog.runs[z] =
    if s.prog.runs[z].state.live = true ∧ s.prog.runs[z].course = c then { s.prog.runs[z] with state := .done, late := false }
    else s.prog.runs[z] := by
  obtain ⟨u, hu, hrun⟩ := foldl_runs (z := z)
    (f := fun s z =>
      let r := s.prog.runs[z]
      if r.state.live && r.course == c then setRun z { r with state := .done, late := false } s else s)
    (fun u z y hne => by
      dsimp only
      split
      · rw [setRun_runs, if_neg hne]
      · rfl) zoneNos_nodup s (mem_zoneNos z)
  unfold releaseRuns
  rw [hrun]
  dsimp only
  rw [hu]
  by_cases hlive : s.prog.runs[z].state.live = true ∧ s.prog.runs[z].course = c
  · rw [if_pos hlive, if_pos (by rw [hlive.1, hlive.2]; simp), setRun_runs, if_pos rfl]
  · rw [if_neg hlive, if_neg (by simpa using hlive), hu]

theorem releaseSaid_prog (r : CourseRec) (st : Station) (s : State) : (releaseSaid r st s).prog = (releaseRuns r.course s).prog := by
  unfold releaseSaid
  dsimp only
  rw [makeReport_prog, raise_prog]
  split
  · rw [raise_prog]
  · rfl

theorem addClearing_prog (e : ClearEntry) (s : State) : (addClearing e s).prog = s.prog := by
  unfold addClearing
  dsimp only
  split
  · split <;> rfl
  · rfl

theorem releaseNews_prog (r : CourseRec) (st : Station) (s : State) : (releaseNews r st s).prog = (releaseRuns r.course s).prog := by
  unfold releaseNews
  dsimp only
  split
  · rw [addClearing_prog, releaseSaid_prog]
  · exact releaseSaid_prog r st s

theorem announced_prog (c : CourseNo) (isLocal : Bool) (s : State) : (announced c isLocal s).prog = s.prog := by
  cases isLocal
  · rfl
  · exact handCourse_prog c true false s

/-- R34: a release ends the station's ARMED and active runs of the course, and no others. -/
theorem releaseRec_runs (r : CourseRec) (st : Station) (isLocal : Bool) (s : State) (z : ZoneNo) :
    (releaseRec r st isLocal s).prog.runs[z] =
      if s.prog.runs[z].state.live = true ∧ s.prog.runs[z].course = r.course then
        { s.prog.runs[z] with state := .done, late := false }
      else s.prog.runs[z] := by
  have hruns := releaseRuns_runs r.course (enterReleased r s) z
  have hprog : (releaseRec r st isLocal s).prog.runs = (releaseRuns r.course (enterReleased r s)).prog.runs := by
    rw [releaseRec_eq, followDemand_prog]
    show (announced r.course isLocal (releaseNews r st (enterReleased r s))).prog.runs = _
    rw [announced_prog, releaseNews_prog]
  rw [hprog]
  exact hruns

/-! ### The events and the report -/

/-- R101, R126, R127: the events of a release. -/
def releaseEvents (r : CourseRec) (st : Station) : List Event :=
  (if r.state = .ready then []
    else [{ kind := .earlyRelease, course := r.course, zone := none, station := some st,
            value := BitVec.ofNat 16 (r.members.filter fun m => m.standing != .ready).length }]) ++
    [{ kind := .courseReleased, course := r.course, zone := none, station := some st,
       value := BitVec.ofNat 16 r.members.length }]

theorem releaseRuns_route (c : CourseNo) (s : State) : (releaseRuns c s).route = s.route :=
  foldl_keeps State.route _ (fun u z => by
    dsimp only
    split
    · exact setRun_route _ _ _
    · rfl) zoneNos s

theorem releaseSaid_joins (r : CourseRec) (st : Station) (s : State) : Joins s (releaseEvents r st) (releaseSaid r st s) := by
  have hruns : Joins s [] (releaseRuns r.course s) :=
    .of_same (congrArg Bus.link (releaseRuns_bus _ s)) (congrArg Route.events (releaseRuns_route _ s))
  unfold releaseSaid releaseEvents
  generalize releaseRuns r.course s = u at *
  dsimp only
  by_cases hready : r.state = .ready
  · rw [if_pos hready, if_neg (by simp [hready])]
    exact Joins.same (Joins.raise hruns _) rfl rfl
  · rw [if_neg hready, if_pos (by simpa using hready)]
    exact Joins.same (Joins.raise (Joins.raise hruns _) _) rfl rfl

theorem reach_releaseRest (r : CourseRec) (s : State) (isLocal : Bool) : Reach steering s
    (followDemand (regiven r.course (announced r.course isLocal
      (if s.isPass && 0 < r.clearDelay then
        addClearing { course := r.course, remaining := r.clearDelay * 60, delay := r.clearDelay } s
      else s)))) := by
  refine Reach.followDemand (K := steering) trivial (Reach.noteGiven (K := steering) trivial _ (Reach.followOwn (K := steering) trivial
    (report_givenFits _ _) ?_))
  exact .ite (fun _ => Reach.handCourse (K := steering) trivial trivial _ _
    (.ite (fun _ => Reach.addClearing (K := steering) trivial trivial _ .refl) fun _ => .refl))
    fun _ => .ite (fun _ => Reach.addClearing (K := steering) trivial trivial _ .refl) fun _ => .refl

theorem releaseRec_events (r : CourseRec) (st : Station) (isLocal : Bool) (s : State) :
    (releaseRec r st isLocal s).queuesFirst s (releaseEvents r st) := by
  have hsaid : Joins s (releaseEvents r st) (releaseSaid r st (enterReleased r s)) := releaseSaid_joins r st (enterReleased r s)
  rw [releaseRec_eq]
  exact hsaid.queuesFirst ((reach_releaseRest r (releaseSaid r st (enterReleased r s)) isLocal).steers fun _ hk => hk)

theorem releaseRuns_port (c : CourseNo) (s : State) : (releaseRuns c s).port = s.port :=
  foldl_keeps State.port _ (fun u z => by
    dsimp only
    split
    · exact setRun_port _ _ _
    · rfl) zoneNos s

theorem releaseSaid_mailbox (r : CourseRec) (st : Station) (s : State) : (releaseSaid r st s).port.mailbox =
    s.port.mailbox.put s.course.clock (.courseReleased r.course st (r.state != .ready)) := by
  have hport := releaseRuns_port r.course s
  have hcourse := releaseRuns_course r.course s
  unfold releaseSaid
  generalize releaseRuns r.course s = u at *
  dsimp only
  split <;> rw [← hport, ← hcourse] <;> rfl

theorem addClearing_mailbox (e : ClearEntry) (s : State) : (addClearing e s).port.mailbox = s.port.mailbox := by
  unfold addClearing
  dsimp only
  split
  · split <;> rfl
  · rfl

/-- R101: the report of a release. -/
theorem releaseRec_mailbox (r : CourseRec) (st : Station) (isLocal : Bool) (s : State) :
    (releaseRec r st isLocal s).port.mailbox =
      s.port.mailbox.put s.course.clock (.courseReleased r.course st (r.state != .ready)) := by
  have hsaid : (releaseSaid r st (enterReleased r s)).port.mailbox = _ := releaseSaid_mailbox r st (enterReleased r s)
  have hnews : (releaseNews r st (enterReleased r s)).port.mailbox =
      s.port.mailbox.put s.course.clock (.courseReleased r.course st (r.state != .ready)) := by
    refine Eq.trans ?_ hsaid
    unfold releaseNews
    dsimp only
    split
    · exact addClearing_mailbox _ _
    · rfl
  have htold : (announced r.course isLocal (releaseNews r st (enterReleased r s))).port.mailbox =
      (releaseNews r st (enterReleased r s)).port.mailbox := by
    cases isLocal
    · rfl
    · exact handCourse_port_mailbox _ _ _ _
  rw [releaseRec_eq, followDemand_port]
  exact htold.trans hnews

/-! ### The clearing call (R102) -/

theorem releaseRec_clearing (r : CourseRec) (st : Station) (isLocal : Bool) (s : State) : (releaseRec r st isLocal s).course.clearing =
    (releaseNews r st (enterReleased r s)).course.clearing := by
  rw [releaseRec_eq, followDemand_course]
  cases isLocal
  · rfl
  · exact handCourse_course_clearing _ _ _ _

theorem addClearing_last (e : ClearEntry) (s : State) : (addClearing e s).course.clearing.getLast? = some e := by
  unfold addClearing
  dsimp only
  split
  · split <;> exact List.getLast?_concat ..
  · rfl

theorem releaseNews_clearing (r : CourseRec) (st : Station) (s : State) (hpass : s.isPass = true) :
    (r.clearDelay = 0 → (releaseNews r st s).course.clearing = s.course.clearing) ∧
    (0 < r.clearDelay → (releaseNews r st s).course.clearing.getLast? =
      some { course := r.course, remaining := r.clearDelay * 60, delay := r.clearDelay }) := by
  have hsaid := congrArg Course.clearing (releaseSaid_course r st s)
  have hpass' : (releaseSaid r st s).isPass = true := (isPass_of_kept (releaseSaid_kept r st s)).trans hpass
  unfold releaseNews
  dsimp only
  refine ⟨fun hzero => ?_, fun hpos => ?_⟩
  · rw [if_neg (by simp [hzero])]
    exact hsaid
  · rw [if_pos (by simp [hpass', hpos])]
    exact addClearing_last _ _

/-! ### The announcement -/

/-- R101, R90: a local release waits in the queue. -/
theorem releaseRec_waits (st : Station) (hrec : s.recOf r.course = some r) (hsends : s.bus.link.sends = true)
    (hroom : s.bus.queue.length < 12) : ∃ e ∈ (releaseRec r st true s).bus.queue, e.waiting = true ∧
      ∃ pl w, e.body = .course (u8 r.course) 8 false 0 pl w := by
  have hbus : (releaseNews r st (enterReleased r s)).bus = s.bus := releaseNews_bus r st _
  have hnews : (releaseNews r st (enterReleased r s)).recOf r.course = some (r.releasedAt s.course.clock s.releasedCount) := by
    rw [recOf_of_board (releaseNews_board r st _)]
    unfold enterReleased
    rw [recOf_mapRec (f := (·.releasedAt s.course.clock s.releasedCount)) fun _ => rfl, hrec]
    rfl
  have hqueue : (releaseRec r st true s).bus.queue =
      (handCourse r.course true false (releaseNews r st (enterReleased r s))).bus.queue := by
    rw [releaseRec_eq, followDemand_bus]
    rfl
  rw [hqueue]
  generalize releaseNews r st (enterReleased r s) = u at *
  have hle := (crowd_le r.course u).2
  rw [hbus] at hle
  obtain ⟨-, e, he, hw, hbody⟩ := handCourse_waits true false hnews (hbus ▸ hsends) (by omega)
  exact ⟨e, he, hw, _, _, hbody⟩

theorem steers_releaseCourse (c : CourseNo) (st : Station) (isLocal : Bool) (s : State) : Steers s (releaseCourse c st isLocal s) :=
  (Reach.releaseCourse (K := steering) trivial st isLocal .refl).steers fun _ hk => hk

/-- R101: the record that a release leaves. -/
theorem releaseRec_rec (st : Station) (isLocal : Bool) (hrec : s.recOf r.course = some r) (hordered : r.Ordered) :
    ∃ r', (releaseRec r st isLocal s).recOf r.course = some r' ∧
      r' = { r.releasedAt s.course.clock s.releasedCount with members := r'.members } ∧ r'.others s.own = r.others s.own := by
  obtain ⟨given, hgiven⟩ := recOf_releaseRec (st := st) (isLocal := isLocal) hrec
  refine ⟨_, hgiven, rfl, ?_⟩
  exact (((r.releasedAt s.course.clock s.releasedCount).withOwn_tends (own := s.own) given).others hordered).2

end Release

end Sys2Proof.Machine

namespace Sys2Proof.Proofs
open Sys2Proof.Machine

/-- Settles O41. -/
theorem release : Obligations.Release := by
  intro p s hup hlen barred
  have hok : (p.length == 2) = true := by simp [hlen]
  have hbarred : (!s.isPass || s.bus.link.bars) = true ↔ barred := by
    rw [Bool.or_eq_true, Bool.not_eq_true']
  refine ⟨fun hb => exec_refused hup.1 hok (.inr hup.2) (if_pos (hbarred.mpr hb)), fun hb hout => ?_, fun c hb hc h0 => ?_⟩
  · refine exec_refused hup.1 hok (.inr hup.2) ((if_neg (mt hbarred.mp hb)).trans ?_)
    rw [courseAt, courseOf_eq_none hout]
  have hcourse : courseAt p 0 = some c := courseOf_eq hc h0
  have hpass : s.isPass = true := by
    cases h : s.isPass with
    | true => rfl
    | false => exact absurd (.inl h) hb
  refine ⟨fun hno => exec_refused hup.1 hok (.inr hup.2) ((if_neg (mt hbarred.mp hb)).trans ?_), fun r hrec hstate hboard => ?_⟩
  · rw [hcourse]
    dsimp only
    cases hrec : s.recOf c with
    | none => rfl
    | some r =>
      refine if_pos ?_
      rcases hno with hnone | hrel
      · rw [hrec] at hnone
        cases hnone
      · unfold State.isReleased at hrel
        rw [hrec] at hrel
        simpa using hrel
  refine ⟨fun hnot hforce => exec_refused hup.1 hok (.inr hup.2) ((if_neg (mt hbarred.mp hb)).trans ?_), fun hgo => ?_⟩
  · rw [hcourse]
    dsimp only
    rw [hrec]
    exact (if_neg hstate).trans (if_neg (by simp [hnot, flagAt, hforce]))
  have htaken : exec (.release p) s = .next (answerFrame s.statusByte [] .ok (releaseRec r s.own true s)) := by
    rw [← releaseCourse_eq s.own true hrec hstate]
    refine exec_taken hup.1 hok (.inr hup.2) ((if_neg (mt hbarred.mp hb)).trans ?_)
    rw [hcourse]
    dsimp only
    rw [hrec]
    exact (if_neg hstate).trans (if_pos (by simpa [flagAt] using hgo))
  have hsteers := steers_releaseCourse c s.own true s
  rw [releaseCourse_eq s.own true hrec hstate] at hsteers
  obtain rfl := (recOf_some hrec).2
  have hsettings : (releaseRec r s.own true s).settings = s.settings := settings_of_kept (releaseRec_kept r s.own true s)
  have hsteady := releaseRec_steady r s.own true s
  obtain ⟨r', hr', heq, hothers⟩ := releaseRec_rec s.own true hrec (hboard.order r (recOf_some hrec).1)
  have hbeside := boardBeside_releaseRec r s.own true s
  have hruns := releaseRec_runs r s.own true s
  have hevents := releaseRec_events r s.own true s
  have hmailbox := releaseRec_mailbox r s.own true s
  have hwaits := releaseRec_waits (s := s) (r := r) s.own hrec
  have hpass' : (enterReleased r s).isPass = true := hpass
  have hclearing := releaseNews_clearing r s.own (enterReleased r s) hpass'
  rw [← releaseRec_clearing r s.own true s] at hclearing
  generalize releaseRec r s.own true s = t at *
  refine ⟨_, htaken, rfl, rfl, hsettings, hsteady, hsteers.samples, ⟨r', hr', heq, hothers⟩, hbeside, hruns, hevents, ?_, hwaits,
    hclearing⟩
  refine hmailbox.trans ?_
  cases r.state <;> rfl

end Sys2Proof.Proofs

/-! A COURSE notice heard (R87, R92, R93, R98, R100, R101): O43. -/

namespace Sys2Proof.Machine

/-! ### The record that a notice gives -/

/-- R92, step 6, and R93: a member entry with its fire-flag-seen flag set, where it is the sender's. -/
def Member.marked (st : Station) (m : Member) : Member := if m.station = st then { m with fireSeen := true } else m

/-- R92, step 4: the plates needed after a notice. -/
def CourseSaid.platesAfter (x : CourseSaid) (k : Nat) : Nat :=
  match x.plates with
  | some n => if n = 0 then k else min 4000 n.toNat
  | none => k

/-- R92, steps 5 and 6, and R93: the member entries after a notice, its sender in the peer table or not. -/
def CourseSaid.entriesAfter (x : CourseSaid) (peer : Bool) (l : List Member) : List Member :=
  if peer then (if x.fire then (x.membersAfter l).map (Member.marked x.sender) else x.membersAfter l) else l

/-- R92, R93: the record once the notice's figures and member entry are taken. -/
def CourseSaid.heardOn (x : CourseSaid) (peer : Bool) (r : CourseRec) : CourseRec :=
  { r with plates := x.platesAfter r.plates, members := x.entriesAfter peer r.members }

section Entries
variable {x : CourseSaid} {l : List Member} {st : Station} {m : Member}

theorem Member.marked_station (st : Station) (m : Member) : (m.marked st).station = m.station := by
  unfold Member.marked
  split <;> rfl

theorem Member.marked_other (h : m.station ≠ st) : m.marked st = m := if_neg h

/-- R85: an entry put in its place is found there, with its standing and its warm plates. -/
theorem find_putMember_self (m : Member) (l : List Member) : ∃ m', (putMember m l).find? (·.station == m.station) = some m' ∧
    m'.station = m.station ∧ m'.standing = m.standing ∧ m'.warm = m.warm := by
  unfold putMember
  split
  next h =>
    obtain ⟨y, hy, hst⟩ := List.any_eq_true.mp h
    obtain ⟨y', hy'⟩ := Option.isSome_iff_exists.mp (List.find?_isSome (p := fun x : Member => x.station == m.station).mpr ⟨y, hy, hst⟩)
    have hkey : y'.station = m.station := by simpa using List.find?_some hy'
    refine ⟨{ m with fireSeen := y'.fireSeen }, ?_, rfl, rfl, rfl⟩
    have hsame : ((·.station == m.station) ∘ fun x : Member => if x.station = m.station then { m with fireSeen := x.fireSeen } else x) =
        fun x : Member => x.station == m.station := by
      funext x
      by_cases hx : x.station = m.station
      · simp [hx]
      · simp [hx]
    rw [List.find?_map, hsame, hy']
    exact congrArg some (if_pos hkey)
  · refine ⟨m, ?_, rfl, rfl, rfl⟩
    rw [List.find?_append, List.find?_eq_none.mpr fun y hy => ?_, Option.none_or, List.find?_cons_of_pos (by simp)]
    have hlt := (List.mem_filter.mp hy).2
    simpa using (of_decide_eq_true hlt).ne

theorem find_marked (st : Station) (l : List Member) :
    (l.map (Member.marked st)).find? (·.station == st) = (l.find? (·.station == st)).map (Member.marked st) := by
  rw [List.find?_map]
  refine congrArg (Option.map (Member.marked st)) (congrArg (fun q => l.find? q) (funext fun x => ?_))
  show ((x.marked st).station == st) = (x.station == st)
  rw [Member.marked_station]

theorem find_dropMember_self (st : Station) (l : List Member) : (dropMember st l).find? (·.station == st) = none := by
  rw [List.find?_eq_none]
  intro y hy
  have hne := (List.mem_filter.mp hy).2
  simpa using hne

/-- R93: the entry that a notice gives its sender. -/
theorem heardOn_member_stands {s : Standing} (hsaid : x.said = .stands s) (r : CourseRec) :
    ∃ m, (x.heardOn true r).member x.sender = some m ∧ m.standing = s ∧ m.warm = warmOf x.warm ∧ (x.fire = true → m.fireSeen = true) := by
  obtain ⟨m, hm, hst, hstands, hwarm⟩ := find_putMember_self (x.member s) r.members
  have hafter : (x.membersAfter r.members).find? (·.station == x.sender) = some m := by
    unfold CourseSaid.membersAfter
    rw [hsaid]
    exact hm
  unfold CourseRec.member CourseSaid.heardOn CourseSaid.entriesAfter
  dsimp only
  rw [if_pos rfl]
  split
  · rw [find_marked, hafter]
    have hmarked : m.marked x.sender = { m with fireSeen := true } := if_pos hst
    exact ⟨m.marked x.sender, rfl, by rw [hmarked]; exact hstands, by rw [hmarked]; exact hwarm, fun _ => by rw [hmarked]⟩
  next hfire => exact ⟨m, hafter, hstands, hwarm, fun h => absurd h hfire⟩

theorem heardOn_member_gone (hsaid : ∀ s, x.said ≠ .stands s) (r : CourseRec) : (x.heardOn true r).member x.sender = none := by
  have hafter : (x.membersAfter r.members).find? (·.station == x.sender) = none := by
    unfold CourseSaid.membersAfter
    split
    next s hs => exact absurd hs (hsaid s)
    all_goals exact find_dropMember_self _ _
  unfold CourseRec.member CourseSaid.heardOn CourseSaid.entriesAfter
  dsimp only
  rw [if_pos rfl]
  split
  · rw [find_marked, hafter]
    rfl
  · exact hafter

/-- R93: a notice touches no entry but its sender's. -/
theorem entriesAfter_others (peer : Bool) (h : l.Pairwise fun a b => a.station < b.station) :
    (x.entriesAfter peer l).Pairwise (fun a b => a.station < b.station) ∧
      (x.entriesAfter peer l).filter (·.station != x.sender) = l.filter (·.station != x.sender) := by
  have hafter : (x.membersAfter l).Pairwise (fun a b => a.station < b.station) ∧
      (x.membersAfter l).filter (·.station != x.sender) = l.filter (·.station != x.sender) := by
    have hdrop : (dropMember x.sender l).filter (·.station != x.sender) = l.filter (·.station != x.sender) := by
      unfold dropMember
      rw [List.filter_filter]
      simp only [Bool.and_self]
    unfold CourseSaid.membersAfter
    split
    next s _ => exact ⟨putMember_pairwise _ h, putMember_others (x.member s) h⟩
    all_goals exact ⟨h.filter _, hdrop⟩
  unfold CourseSaid.entriesAfter
  split
  · split
    · exact ⟨pairwise_map_of_key Member.station (Member.marked_station x.sender) hafter.1,
        (filter_map_own (fun y hy => Member.marked_other hy) (Member.marked_station x.sender) _).trans hafter.2⟩
    · exact hafter
  · exact ⟨h, rfl⟩

end Entries

/-! ### A record through the fire order and the evaluation -/

/-- What a fire order, a change of the own entry, a hold or an evaluation leaves of a record. -/
structure CourseRec.Bears (own : Station) (r r' : CourseRec) : Prop where
  plates : r'.plates = r.plates
  auto : r'.auto = r.auto
  others : r.Ordered → r'.Ordered ∧ r'.others own = r.others own
  member : ∀ st, st ≠ own → r'.member st = r.member st

section Bears
variable {own : Station} {r r' r'' : CourseRec}

theorem CourseRec.Tends.bears (h : r.Tends own r') : r.Bears own r' := ⟨h.plates, h.auto, h.others, h.member⟩

theorem CourseRec.Bears.trans (h : r.Bears own r') (h' : r'.Bears own r'') : r.Bears own r'' where
  plates := h'.plates.trans h.plates
  auto := h'.auto.trans h.auto
  others hr := by
    obtain ⟨hr', heq⟩ := h.others hr
    obtain ⟨hr'', heq'⟩ := h'.others hr'
    exact ⟨hr'', heq'.trans heq⟩
  member st hst := (h'.member st hst).trans (h.member st hst)

theorem CourseRec.Bears.of_members (hmembers : r'.members = r.members) (hplates : r'.plates = r.plates) (hauto : r'.auto = r.auto) :
    r.Bears own r' := by
  refine ⟨hplates, hauto, fun h => ?_, fun st _ => ?_⟩
  · unfold CourseRec.Ordered CourseRec.others
    rw [hmembers]
    exact ⟨h, rfl⟩
  · unfold CourseRec.member
    rw [hmembers]

end Bears

section Heard
variable {s t : State} {c : CourseNo} {r : CourseRec} {x : CourseSaid}

theorem fireOrder_bears (hrec : s.recOf c = some r) : ∃ r', (fireOrder c s).recOf c = some r' ∧ r.Bears s.own r' ∧ r'.state ≠ .opened := by
  by_cases hopened : r.state = .opened
  · obtain ⟨y, hy, hfired, hmembers, hplates, hauto, -⟩ := firing_rec hrec
    obtain ⟨z, hz, htends⟩ := (tends_fired c (firing r c s)).record c y hy
    rw [own_of_kept (firing_kept r c s)] at htends
    rw [fireOrder_opened hrec hopened]
    refine ⟨z, hz, (CourseRec.Bears.of_members hmembers hplates hauto).trans htends.bears, htends.past fun ho => ?_⟩
    rw [ho] at hfired
    cases hfired
  · rw [fireOrder_past hrec hopened]
    exact ⟨r, hrec, (CourseRec.Tends.refl r).bears, hopened⟩

/-- R100: at a PASS station no record of the course is READY with its auto-release flag set. -/
def State.AutoHeld (c : CourseNo) (s : State) : Prop := s.isPass = true → ∀ r, s.recOf c = some r → r.state = .ready → r.auto = false

theorem State.AutoHeld.of_rec (h : s.AutoHeld c) (hpass : t.isPass = s.isPass)
    (hrec : ∀ r', t.recOf c = some r' → r'.state = .ready → ∃ r, s.recOf c = some r ∧ r.state = .ready ∧ r'.auto = r.auto) :
    t.AutoHeld c := by
  intro ht r' hr' hready
  obtain ⟨r, hr, hr_ready, hauto⟩ := hrec r' hr' hready
  exact hauto.trans (h (hpass ▸ ht) r hr hr_ready)

theorem State.AutoHeld.of_board (h : s.AutoHeld c) (hboard : t.course.board = s.course.board) (hkept : t.kept = s.kept) : t.AutoHeld c :=
  h.of_rec (isPass_of_kept hkept) fun r' hr' hready => ⟨r', (recOf_of_board hboard c).symm.trans hr', hready, rfl⟩

theorem State.AutoHeld.mapRec {f : CourseRec → CourseRec} (h : s.AutoHeld c) (hf : ∀ r, (f r).course = r.course)
    (hready : ∀ r, (f r).state = .ready → r.state = .ready ∧ (f r).auto = r.auto) : (mapRec c f s).AutoHeld c := by
  refine h.of_rec rfl fun r' hr' hr'ready => ?_
  rw [recOf_mapRec hf] at hr'
  obtain ⟨r, hr, rfl⟩ := Option.map_eq_some_iff.mp hr'
  exact ⟨r, hr, hready r hr'ready⟩

theorem autoHeld_followOwn (h : s.AutoHeld c) (given : Option (Standing × Nat)) : (followOwn c given s).AutoHeld c :=
  h.mapRec (f := (·.withOwn s.own given)) (fun _ => rfl) fun _ hr => ⟨hr, rfl⟩

theorem autoHeld_handCourse (h : s.AutoHeld c) (release fire : Bool) : (handCourse c release fire s).AutoHeld c := by
  refine h.of_rec (isPass_of_kept (handCourse_kept _ _ _ _)) fun r' hr' hready => ?_
  rw [recOf_handCourse] at hr'
  obtain ⟨r, hr, rfl⟩ := Option.map_eq_some_iff.mp hr'
  exact ⟨r, hr, hready, rfl⟩

/-- R100: an evaluation of readiness releases the record that it would leave READY. -/
theorem autoHeld_evalReady (h : s.AutoHeld c) : (evalReady c s).AutoHeld c := by
  intro ht r' hr' hready
  rw [isPass_of_kept (evalReady_kept c s)] at ht
  cases hrec : s.recOf c with
  | none =>
    rw [(tends_evalReady c s).none hrec] at hr'
    cases hr'
  | some r =>
    rcases recOf_evalReady hrec with ⟨-, r'', hr'', hreleased⟩ | ⟨hnot, heq⟩
    · obtain rfl : r'' = r' := Option.some.inj (hr''.symm.trans hr')
      rw [hreleased] at hready
      cases hready
    · obtain rfl : r.evaluated = r' := Option.some.inj (heq.symm.trans hr')
      refine (r.evaluated_tends (own := s.own)).auto.trans ?_
      by_cases hwas : r.state = .ready
      · exact h ht r hrec hwas
      · have hentered : r.state = .fired ∧ r.isReady = true := by
          by_contra hn
          unfold CourseRec.evaluated at hready
          rw [if_neg hn] at hready
          split at hready
          · cases hready
          · exact hwas hready
        exact Bool.eq_false_iff.mpr fun hauto => hnot ⟨hentered.1, hentered.2, ht, hauto⟩

theorem autoHeld_requestHold (h : s.AutoHeld c) (q : Nat) (o : Station) : (requestHold c q o s).AutoHeld c := by
  have hwith : (mapRec c (·.withHold q o) s).AutoHeld c := h.mapRec (fun _ => rfl) fun _ hr => ⟨hr, rfl⟩
  rcases requestHold_cases c q o s with ⟨-, heq⟩ | ⟨r, hrec, ⟨-, heq⟩ | ⟨-, heq⟩ | ⟨-, -, heq⟩ | ⟨-, -, heq⟩⟩ <;> rw [heq]
  · exact h
  · exact h
  · exact hwith
  · obtain rfl := (recOf_some hrec).2
    exact State.AutoHeld.of_board (State.AutoHeld.mapRec (c := r.course)
      (f := fun x => { x with state := .held, readyRaised := if (r.withHold q o).state = .ready then false else x.readyRaised })
      hwith (fun _ => rfl) fun _ hr => by cases hr) rfl (makeReport_kept _ _)
  · exact autoHeld_evalReady (hwith.mapRec (fun _ => rfl) fun _ hr => by cases hr)

theorem autoHeld_takeStanding (h : s.AutoHeld c) (given : Option (Standing × Nat)) : (takeStanding c given s).AutoHeld c := by
  unfold takeStanding
  split
  · exact h
  · dsimp only
    have hown := autoHeld_followOwn h given
    split
    · exact hown
    · have htold := autoHeld_handCourse hown false false
      split
      · exact autoHeld_evalReady (State.AutoHeld.of_board (autoHeld_requestHold htold _ _)
          (congrArg Course.board (hand_course _ _)) (hand_kept _ _))
      · exact autoHeld_evalReady htold

theorem autoHeld_derive (h : s.AutoHeld c) : (derive c s).AutoHeld c := by
  rcases derive_cases c s with ⟨-, heq⟩ | ⟨-, heq⟩ <;> rw [heq]
  · exact h
  · exact autoHeld_takeStanding (State.AutoHeld.of_board (t := noteGiven c (s.report c) s) h rfl (noteGiven_kept _ _ _)) _

theorem autoHeld_fireOrder (h : s.AutoHeld c) : (fireOrder c s).AutoHeld c := by
  cases hrec : s.recOf c with
  | none =>
    have heq : fireOrder c s = s := by
      unfold fireOrder
      rw [hrec]
    rw [heq]
    exact h
  | some r =>
    by_cases hopened : r.state = .opened
    · rw [fireOrder_opened hrec hopened]
      obtain ⟨y, hy, -, -, -, -, -, hunready⟩ := firing_rec hrec
      refine autoHeld_evalReady (autoHeld_derive fun _ r' hr' hready => absurd hready ?_)
      obtain rfl : y = r' := Option.some.inj (hy.symm.trans hr')
      exact hunready
    · rw [fireOrder_past hrec hopened]
      exact h

/-! ### The notice taken -/

/-- R92, R93: the notice's figures and member entry are taken. -/
def noted (x : CourseSaid) (s : State) : State :=
  let s1 := takeMember x (takePlates x s)
  if x.fire && s.isMemberPeer x.sender then mapRec x.course (markFire x.sender) s1 else s1

theorem recOf_takePlates (x : CourseSaid) (s : State) :
    (takePlates x s).recOf x.course = (s.recOf x.course).map fun r => { r with plates := x.platesAfter r.plates } := by
  have hstands (y : Option CourseRec) : y = y.map id := by cases y <;> rfl
  unfold takePlates CourseSaid.platesAfter
  cases x.plates with
  | none => exact hstands _
  | some n =>
    by_cases hn : n = 0
    · simp only [hn, if_true]
      exact hstands _
    · simp only [hn, if_false]
      exact recOf_mapRec (f := fun r => { r with plates := min 4000 n.toNat }) (fun _ => rfl) s

theorem takePlates_peer (x : CourseSaid) (s : State) (st : Station) : (takePlates x s).isMemberPeer st = s.isMemberPeer st := by
  unfold takePlates
  split
  · split <;> rfl
  · rfl

theorem recOf_noted (x : CourseSaid) (s : State) :
    (noted x s).recOf x.course = (s.recOf x.course).map (x.heardOn (s.isMemberPeer x.sender)) := by
  have hmember : (takeMember x (takePlates x s)).recOf x.course = (s.recOf x.course).map fun r =>
      { r with plates := x.platesAfter r.plates,
               members := if s.isMemberPeer x.sender then x.membersAfter r.members else r.members } := by
    unfold takeMember
    rw [takePlates_peer]
    split
    · rw [recOf_mapRec (f := fun r => { r with members := x.membersAfter r.members }) fun _ => rfl, recOf_takePlates, Option.map_map]
      rfl
    · exact recOf_takePlates x s
  unfold noted
  dsimp only
  cases hfire : x.fire <;> cases hpeer : s.isMemberPeer x.sender
  case true.true =>
    rw [Bool.and_self, if_pos rfl, recOf_mapRec (f := markFire x.sender) fun _ => rfl, hmember, Option.map_map]
    refine congrArg (fun f => (s.recOf x.course).map f) (funext fun r => ?_)
    simp [CourseSaid.heardOn, CourseSaid.entriesAfter, markFire, Member.marked, hfire, hpeer]
  all_goals
    refine hmember.trans (congrArg (fun f => (s.recOf x.course).map f) (funext fun r => ?_))
    simp [CourseSaid.heardOn, CourseSaid.entriesAfter, hfire, hpeer]

theorem takeStandingHeard_eq (x : CourseSaid) (s : State) : takeStandingHeard x s =
    followDemand (evalReady x.course (if x.fire then fireOrder x.course (noted x s) else noted x s)) := by
  have hpeer : (takeMember x (takePlates x s)).isMemberPeer x.sender = s.isMemberPeer x.sender := by
    refine Eq.trans ?_ (takePlates_peer x s x.sender)
    unfold takeMember
    split <;> rfl
  unfold takeStandingHeard takeFire noted
  rw [hpeer]
  cases x.fire <;> cases s.isMemberPeer x.sender <;> rfl

theorem noted_kept (x : CourseSaid) (s : State) : (noted x s).kept = s.kept := by
  unfold noted
  dsimp only
  split
  · exact (mapRec_kept _ _ _).trans ((takeMember_kept _ _).trans (takePlates_kept _ _))
  · exact (takeMember_kept _ _).trans (takePlates_kept _ _)

/-- R92, R98, R100: the record after the notice of a member. -/
theorem takeStandingHeard_rec (hrec : s.recOf x.course = some r) : ∃ r', (takeStandingHeard x s).recOf x.course = some r' ∧
    (x.heardOn (s.isMemberPeer x.sender) r).Bears s.own r' ∧ r'.settled ∧ (x.fire = true → r'.state ≠ .opened) := by
  have hnoted : (noted x s).recOf x.course = some (x.heardOn (s.isMemberPeer x.sender) r) := by rw [recOf_noted, hrec]; rfl
  have hown := own_of_kept (noted_kept x s)
  obtain ⟨y, hy, hbears, hpast⟩ : ∃ y, (if x.fire then fireOrder x.course (noted x s) else noted x s).recOf x.course = some y ∧
      (x.heardOn (s.isMemberPeer x.sender) r).Bears s.own y ∧ (x.fire = true → y.state ≠ .opened) := by
    split
    · obtain ⟨y, hy, hbears, hpast⟩ := fireOrder_bears hnoted
      rw [hown] at hbears
      exact ⟨y, hy, hbears, fun _ => hpast⟩
    next h => exact ⟨_, hnoted, (CourseRec.Tends.refl _).bears, fun hf => absurd hf h⟩
  have hown' : (if x.fire then fireOrder x.course (noted x s) else noted x s).own = s.own := by
    split
    · exact (own_of_kept (fireOrder_kept _ _)).trans hown
    · exact hown
  rw [takeStandingHeard_eq]
  generalize (if x.fire then fireOrder x.course (noted x s) else noted x s) = u at *
  obtain ⟨r', hr', htends⟩ := (tends_evalReady x.course u).record x.course y hy
  rw [hown'] at htends
  refine ⟨r', (recOf_of_board (congrArg Course.board (followDemand_course _)) _).trans hr', hbears.trans htends.bears,
    evalReady_settled hr', fun hf => htends.past (hpast hf)⟩

theorem takeStandingHeard_autoHeld (hrec : s.recOf x.course = some r) (hready : r.state ≠ .ready) :
    (takeStandingHeard x s).AutoHeld x.course := by
  have hnoted : (noted x s).AutoHeld x.course := fun _ r' hr' h => by
    rw [recOf_noted, hrec] at hr'
    cases hr'
    exact absurd h hready
  rw [takeStandingHeard_eq]
  refine State.AutoHeld.of_board (autoHeld_evalReady ?_) (congrArg Course.board (followDemand_course _)) (followDemand_kept _)
  split
  · exact autoHeld_fireOrder hnoted
  · exact hnoted

/-- R92: the record that a notice meets, made where there is none. -/
theorem takeCourse_stands (hnot : s.isReleased x.course = false) (hcan : s.canHaveRec x.course = true) (hsaid : x.said ≠ .release)
    (hmakes : s.recOf x.course = none → x.said ≠ .withdrawn) : ∃ u r, takeCourse x s = takeStandingHeard x u ∧
      u.recOf x.course = some r ∧ u.kept = s.kept ∧ u.steady = s.steady ∧ (∀ r', s.recOf x.course = some r' → r = r') ∧
      (s.recOf x.course = none → (CourseRec.new x.course).Tends s.own r) := by
  unfold takeCourse
  rw [if_neg hsaid]
  cases hrec : s.recOf x.course with
  | some r =>
    refine ⟨s, r, if_neg fun hrel => ?_, hrec, rfl, rfl, fun r' hr' => Option.some.inj hr', nofun⟩
    unfold State.isReleased at hnot
    rw [hrec, Option.map_some, hrel] at hnot
    cases hnot
  | none =>
    have hroom := canHaveRec_of_none hrec hcan
    obtain ⟨⟨r, hr, htends⟩, -⟩ := createRec_made (r := CourseRec.new x.course) rfl hrec hroom
    exact ⟨_, r, (if_neg (hmakes hrec)).trans (if_pos hroom), hr, createRec_kept _ _, createRec_steady _ _, nofun, fun _ => htends⟩

theorem isMemberPeer_of_same (hkept : t.kept = s.kept) (hsteady : t.steady = s.steady) (st : Station) :
    t.isMemberPeer st = s.isMemberPeer st := by
  have hpeers : t.load.peers = s.load.peers := congrArg (fun k : Steady => k.load.peers) hsteady
  unfold State.isMemberPeer
  rw [own_of_kept hkept, hpeers]

/-- R101: a released course takes nothing but a member's notice at a PASS station. -/
theorem takeCourse_released (hrec : s.recOf x.course = some r) (hrel : r.state = .released) :
    takeCourse x s = if x.said = .release then s else reRelease x s := by
  unfold takeCourse releaseCourse
  rw [hrec]
  dsimp only
  rw [if_pos hrel, if_pos hrel]

theorem takeCourse_released_ignored (hrec : s.recOf x.course = some r) (hrel : r.state = .released)
    (h : (∀ st, x.said ≠ .stands st) ∨ s.isPass = false) : takeCourse x s = s := by
  rw [takeCourse_released hrec hrel]
  split
  · rfl
  · unfold reRelease
    split
    next st hst => exact if_neg (Bool.eq_false_iff.mp (h.resolve_left fun hn => hn st hst))
    all_goals rfl

theorem takeCourse_absent (hnone : s.recOf x.course = none) (hsaid : x.said ≠ .release) : takeCourse x s =
    if x.said = .withdrawn then s
    else if s.boardHasRoom then takeStandingHeard x (createRec (CourseRec.new x.course) s) else bump .boardMiss s := by
  unfold takeCourse
  rw [if_neg hsaid, hnone]

theorem recOf_of_isReleased (h : s.isReleased c = true) : ∃ r, s.recOf c = some r ∧ r.state = .released := by
  unfold State.isReleased at h
  cases hrec : s.recOf c with
  | none =>
    rw [hrec] at h
    cases h
  | some r =>
    rw [hrec] at h
    exact ⟨r, rfl, by simpa using h⟩

theorem steers_takeCourse (x : CourseSaid) (s : State) : Steers s (takeCourse x s) :=
  (Reach.takeCourse (K := steering) (x := x) (fun k hk => by cases k <;> first | trivial | exact hk.elim) .refl).steers fun _ hk => hk

end Heard

end Sys2Proof.Machine

namespace Sys2Proof.Proofs
open Sys2Proof.Machine

section
variable {s : State} {n : Notice} {sender : Station} {seq course member : Byte} {fire : Bool} {spare : BitVec 5}
  {plates warm : Option Half} {c : CourseNo} {said : MemberSaid}

theorem memberSaid_of_le {member : Byte} (hlow : 1 ≤ member.toNat) (hhigh : member.toNat ≤ 5) :
    ∃ st, memberSaid member = some (.stands st) ∧ Standing.ofCode member.toNat = some st := by
  unfold memberSaid
  generalize member.toNat = k at *
  interval_cases k <;> exact ⟨_, rfl, rfl⟩

theorem memberSaid_eq_none {member : Byte} (h : member.toNat = 0 ∨ 8 < member.toNat) : memberSaid member = none := by
  unfold memberSaid
  generalize member.toNat = k at *
  match k, h with
  | 0, _ => rfl
  | k + 9, _ => rfl

/-- R92: the member states that a notice says, by their codes. -/
theorem memberSaid_of_range {member : Byte} (hlow : 1 ≤ member.toNat) (hhigh : member.toNat ≤ 8) :
    ∃ said, memberSaid member = some said ∧ (said = .release ↔ member = 8) ∧ (said = .withdrawn ↔ member = 6) ∧
      (∀ st, said = .stands st ↔ Standing.ofCode member.toNat = some st) := by
  have hiff (k : Byte) : member = k ↔ member.toNat = k.toNat := ⟨congrArg _, BitVec.eq_of_toNat_eq⟩
  rw [hiff, hiff]
  unfold memberSaid
  generalize member.toNat = k at *
  interval_cases k <;> exact ⟨_, rfl, by decide, by decide, fun st => by cases st <;> decide⟩

/-- R92: a COURSE notice taken. -/
theorem exec_courseHeard (htakes : s.takesNotice { sender, seq, body := .course course member fire spare plates warm }) :
    exec (.courseHeard sender seq course member fire spare plates warm) s =
      .next (takeCourseNotice sender course member fire plates warm
        (s.counted { sender, seq, body := .course course member fire spare plates warm })) :=
  hearing_of_takes htakes _

/-- R92: the notice, its course and its member state in range. -/
theorem takeCourseNotice_eq (hc : c ≠ 0) (hcourse : course.toNat = c.val) (hsaid : memberSaid member = some said) :
    takeCourseNotice sender course member fire plates warm s = takeCourse { sender, course := c, said, fire, plates, warm } s := by
  unfold takeCourseNotice
  rw [courseOf_eq hc hcourse, hsaid]

/-- O43: what a notice of a member leaves of its course's record. -/
theorem heard_rec {x : CourseSaid} {u : State} {r₀ : CourseRec} (hrec : u.recOf x.course = some r₀) :
    ∃ r', (takeStandingHeard x u).recOf x.course = some r' ∧ r'.plates = x.platesAfter r₀.plates ∧
      (u.isMemberPeer x.sender = true →
        (∀ st, x.said = .stands st → ∃ m, r'.member x.sender = some m ∧ m.standing = st ∧ m.warm = warmOf x.warm ∧
          (x.fire = true → m.fireSeen = true)) ∧
        ((∀ st, x.said ≠ .stands st) → r'.member x.sender = none)) ∧
      (r₀.Ordered → (u.isMemberPeer x.sender = false → r'.others u.own = r₀.others u.own) ∧
        (u.isMemberPeer x.sender = true → ((r'.others u.own).filter fun m => m.station != x.sender) =
          (r₀.others u.own).filter fun m => m.station != x.sender)) ∧
      r'.settled ∧ (r₀.state ≠ .ready → u.isPass = true → r'.state = .ready → r'.auto = false) ∧
      (x.fire = true → r'.state ≠ .opened) := by
  obtain ⟨r', hr', hbears, hsettled, hpast⟩ := takeStandingHeard_rec hrec
  have hauto := takeStandingHeard_autoHeld (x := x) hrec
  refine ⟨r', hr', hbears.plates, fun hpeer => ?_, fun hordered => ?_, hsettled, fun hready hpass hr'ready => ?_, hpast⟩
  · have hother : x.sender ≠ u.own := by
      unfold State.isMemberPeer at hpeer
      simp only [Bool.and_eq_true, bne_iff_ne] at hpeer
      exact hpeer.1.2
    rw [hpeer] at hbears
    rw [hbears.member x.sender hother]
    exact ⟨fun st hst => heardOn_member_stands hst r₀, fun hgone => heardOn_member_gone hgone r₀⟩
  · obtain ⟨hafter, hothers⟩ := entriesAfter_others (x := x) (u.isMemberPeer x.sender) hordered
    have hsame := (hbears.others hafter).2
    refine ⟨fun hpeer => hsame.trans ?_, fun _ => ?_⟩
    · rw [hpeer]
      rfl
    · rw [hsame]
      unfold CourseRec.others
      rw [List.filter_comm, List.filter_comm (l := r₀.members)]
      exact congrArg _ hothers
  · exact hauto hready ((isPass_of_kept (takeStandingHeard_kept x u)).trans hpass) r' hr' hr'ready

end

/-- Settles O43. -/
theorem courseHeard : Obligations.CourseHeard := by
  intro sender seq course member fire spare plates warm s n cmd others htakes
  have hexec : exec cmd s = .next (takeCourseNotice sender course member fire plates warm (s.counted n)) := exec_courseHeard htakes
  have hbad (h : member.toNat = 0 ∨ 8 < member.toNat) : exec cmd s = .next (s.counted n) := by
    rw [hexec]
    unfold takeCourseNotice
    rw [memberSaid_eq_none h]
    cases courseOf course.toNat <;> rfl
  refine ⟨fun hout => ?_, fun c hc hcourse => ?_⟩
  · rcases hout with h | h | h | h
    · rw [hexec]
      unfold takeCourseNotice
      rw [courseOf_eq_none (.inl h)]
    · rw [hexec]
      unfold takeCourseNotice
      rw [courseOf_eq_none (.inr h)]
    · exact hbad (.inl h)
    · exact hbad (.inr h)
  have hact {said : MemberSaid} (hsaid : memberSaid member = some said) :
      exec cmd s = .next (takeCourse { sender, course := c, said, fire, plates, warm } (s.counted n)) :=
    hexec.trans (congrArg _ (takeCourseNotice_eq hc hcourse hsaid))
  refine ⟨fun hnone hm => ?_, fun hrel hm => ?_, fun r hrec hrel hlow hhigh hpass => ?_, fun hnone hlow hhigh hnot hroom => ?_,
    fun r hrec hrel hm => ?_, fun hnot hcan hmakes hlow hhigh => ?_⟩
  · obtain ⟨said, hsaid, hrelease, hwithdrawn, -⟩ := memberSaid_of_range (member := member) (by rcases hm with rfl | rfl <;> decide)
      (by rcases hm with rfl | rfl <;> decide)
    rw [hact hsaid]
    rcases hm with hm | hm
    · rw [takeCourse_absent hnone (by rw [Ne, hrelease, hm]; decide), if_pos (hwithdrawn.mpr hm)]
    · have hnone0 : (s.counted n).recOf c = none := hnone
      unfold takeCourse releaseCourse
      rw [if_pos (hrelease.mpr hm), hnone0]
  · obtain ⟨r, hrec, hstate⟩ := recOf_of_isReleased hrel
    by_cases hrange : member.toNat = 0 ∨ 8 < member.toNat
    · exact hbad hrange
    obtain ⟨said, hsaid, -, -, hstands⟩ := memberSaid_of_range (member := member) (by omega) (by omega)
    rw [hact hsaid]
    refine congrArg _ (takeCourse_released_ignored hrec hstate ?_)
    rcases hm with hm | hm | hm | hpass
    · exact .inl fun st hst => by have := (hstands st).mp hst; rw [hm] at this; cases this
    · exact .inl fun st hst => by have := (hstands st).mp hst; rw [hm] at this; cases this
    · exact .inl fun st hst => by have := (hstands st).mp hst; rw [hm] at this; cases this
    · exact .inr hpass
  · obtain ⟨said, hsaid, hrelease, -, hstands⟩ := memberSaid_of_range hlow (by omega)
    obtain ⟨st, hst, -⟩ := memberSaid_of_le hlow hhigh
    obtain rfl : said = .stands st := Option.some.inj (hsaid.symm.trans hst)
    have htaken : takeCourse { sender, course := c, said := .stands st, fire, plates, warm } (s.counted n) =
        handCourse c true false (s.counted n) := by
      rw [takeCourse_released hrec hrel, if_neg nofun]
      exact if_pos hpass
    refine ⟨_, (hact hsaid).trans (congrArg _ htaken), ?_, handCourse_steady c true false _, ?_, fun hsends hqueue => ?_⟩
    · have hrec0 : (s.counted n).recOf c = some r := hrec
      rw [handCourse_eq true false hrec0, hand_frame]
      rfl
    · rw [recOf_handCourse]
      show (s.recOf c).map _ = _
      rw [hrec, Option.map_some, CourseRec.told_quiet]
    · have hle := (crowd_le c (s.counted n)).2
      have hqueue : (s.counted n).bus.queue.length < 12 := hqueue
      obtain ⟨-, e, he, hw, hbody⟩ := handCourse_waits (s := s.counted n) true false hrec hsends (by omega)
      refine ⟨e, he, hw, ?_⟩
      obtain rfl := (recOf_some hrec).2
      refine ⟨(r.member s.own).map fun m => BitVec.ofNat 16 m.warm, ?_⟩
      rw [hbody]
      unfold State.courseNotice
      rw [show (s.counted n).isPass = true from hpass, if_pos rfl]
      rfl
  · obtain ⟨said, hsaid, hrelease, hwithdrawn, -⟩ := memberSaid_of_range hlow (by omega)
    have hne8 : member ≠ 8 := fun h => by rw [h] at hhigh; exact absurd hhigh (by decide)
    rw [hact hsaid, takeCourse_absent hnone (mt hrelease.mp hne8), if_neg (mt hwithdrawn.mp hnot)]
    exact congrArg _ (if_neg (by rw [show (s.counted n).boardHasRoom = false from hroom]; exact Bool.false_ne_true))
  · obtain ⟨said, hsaid, hrelease, -, -⟩ := memberSaid_of_range (member := member) (by rw [hm]; decide) (by rw [hm]; decide)
    have hrec0 : (s.counted n).recOf c = some r := hrec
    have htaken : takeCourse { sender, course := c, said, fire, plates, warm } (s.counted n) =
        releaseRec r sender false (s.counted n) :=
      (if_pos (hrelease.mpr hm)).trans (releaseCourse_eq sender false hrec0 hrel)
    obtain rfl := (recOf_some hrec).2
    obtain ⟨given, hgiven⟩ := recOf_releaseRec (st := sender) (isLocal := false) hrec0
    have hsteers := steers_releaseCourse r.course sender false (s.counted n)
    rw [releaseCourse_eq sender false hrec0 hrel] at hsteers
    have hsettings : (releaseRec r sender false (s.counted n)).settings = s.settings := settings_of_kept (releaseRec_kept r sender false _)
    refine ⟨_, (hact hsaid).trans (congrArg _ htaken), hsettings, releaseRec_steady r sender false _, hsteers.samples, ?_,
      ⟨_, hgiven, rfl, rfl, rfl⟩, releaseRec_events r sender false (s.counted n), fun z => releaseRec_runs r sender false (s.counted n) z⟩
    unfold State.isReleased
    rw [hgiven]
    rfl
  · obtain ⟨said, hsaid, hrelease, hwithdrawn, hstands⟩ := memberSaid_of_range hlow (by omega)
    have hne8 : member ≠ 8 := fun h => by rw [h] at hhigh; exact absurd hhigh (by decide)
    have hsteers := steers_takeCourse { sender, course := c, said, fire, plates, warm } (s.counted n)
    obtain ⟨u, r₀, htaken, hu, hukept, husteady, hold, hnew⟩ := takeCourse_stands
      (s := s.counted n) (x := { sender, course := c, said, fire, plates, warm }) hnot hcan (mt hrelease.mp hne8)
      (fun hnone => mt hwithdrawn.mp (hmakes hnone))
    rw [htaken] at hsteers
    obtain ⟨r', hr', hplates, hmember, hothers, hsettled, hauto, hpast⟩ := heard_rec hu
    have hpeer : u.isMemberPeer sender = s.isMemberPeer sender := isMemberPeer_of_same hukept husteady sender
    have hown : u.own = s.own := own_of_kept hukept
    have hpass : u.isPass = s.isPass := isPass_of_kept hukept
    rw [hpeer] at hmember hothers
    rw [hown] at hothers
    rw [hpass] at hauto
    have hsettings := settings_of_kept (takeStandingHeard_kept { sender, course := c, said, fire, plates, warm } u)
    refine ⟨_, (hact hsaid).trans (congrArg _ htaken), hsettings.trans (settings_of_kept hukept),
      (takeStandingHeard_steady _ u).trans husteady, hsteers.samples, r', hr', fun k hk hne => ?_, fun r hrec hnone => ?_,
      fun hp => ⟨fun st hst => ?_, fun hout => (hmember hp).2 fun st hst => ?_⟩, fun hboard r hrec => ?_, fun hnone hp => ?_, hsettled,
      fun r hrec hready hp => hauto (by rw [hold r hrec]; exact hready) hp, hpast⟩
    · rw [hplates]
      unfold CourseSaid.platesAfter
      dsimp only
      rw [hk]
      exact if_neg hne
    · rw [hplates, hold r hrec]
      unfold CourseSaid.platesAfter
      dsimp only
      rcases hnone with h | h <;> rw [h]
      exact if_pos rfl
    · obtain ⟨m, hm, hmst, hwarm, hfire⟩ := (hmember hp).1 st ((hstands st).mpr hst)
      refine ⟨m, hm, hmst, hwarm.trans ?_, hfire⟩
      cases warm <;> rfl
    · have hcode := (hstands st).mp hst
      generalize member.toNat = k at *
      interval_cases k <;> cases hcode
    · have hordered : r₀.Ordered := by
        rw [hold r hrec]
        exact hboard.order r (recOf_some hrec).1
      rw [← hold r hrec]
      exact hothers hordered
    · have htends := hnew hnone
      obtain ⟨hordered, hnil⟩ := htends.others List.Pairwise.nil
      exact ((hothers hordered).1 hp).trans hnil

end Sys2Proof.Proofs

/-! SUPPORT. What has been raised, reported and latched stands: the events, reports and causes that the operations of the load, course,
ware and page blocks leave. -/

namespace Sys2Proof.Machine

/-! ### Reports stay in the mailbox (R175) -/

section Mail
variable {m : Mailbox} {i : Fin 2} {x : Report}

/-- A report stands in one of the banks. -/
def Mailbox.Holds (m : Mailbox) (x : Report) : Prop := ∃ i, x ∈ (m.bank i).reports

theorem mailbox_opened_reports (m : Mailbox) (j : Fin 2) : (m.opened.bank j).reports = (m.bank j).reports := by
  unfold Mailbox.opened
  split
  next i _ _ =>
    rcases eq_or_eq_other i j with rfl | rfl
    · rw [setBank_bank_same, opened_reports]
    · rw [setBank_bank_other]
  · rfl

/-- R175: a report made leaves those made before it, and stands with them unless it is lost. -/
theorem put_reports (m : Mailbox) (clock : Nat) (body : ReportBody) :
    (∀ j, (m.bank j).reports <+: ((m.put clock body).bank j).reports) ∧
    (m.loses = false → (m.put clock body).Holds { number := m.nextNumber, clock := clock, body := body }) := by
  obtain ⟨m₁, hm₁⟩ : ∃ m₁, m₁ = ({ m.opened with nextNumber := m.nextNumber + 1 } : Mailbox) := ⟨_, rfl⟩
  have hreports (j : Fin 2) : (m₁.bank j).reports = (m.bank j).reports := by rw [hm₁]; exact mailbox_opened_reports m j
  unfold Mailbox.put
  dsimp only
  rw [← hm₁]
  split
  next hnone =>
    refine ⟨fun j => by rw [hreports], fun hkeeps => ?_⟩
    exfalso
    have hnone : m.opened.find .filling = none := by rw [hm₁] at hnone; exact hnone
    obtain ⟨i, hi⟩ := takesIn_of_not_loses hkeeps
    have hstate : (m.opened.bank i).state = .filling := by
      unfold Mailbox.opened
      rcases hi with hfilling | ⟨hempty, hother, hfirst⟩
      · split
        next k hn _ => exact absurd hfilling (find_eq_none.mp hn i)
        · exact hfilling
      · have hno : m.find .filling = none := find_eq_none.mpr ((forall_bank i).mpr ⟨by rw [hempty]; nofun, hother⟩)
        have hsome : m.find .empty = some i := by
          rcases bank_cases i with rfl | rfl
          · exact if_pos hempty
          · exact (if_neg (hfirst rfl)).trans (if_pos hempty)
        rw [hno, hsome]
        show ((m.setBank i (m.bank i).opened).bank i).state = _
        rw [setBank_bank_same]
        exact congrArg Bank.state (if_pos hempty)
    exact find_eq_none.mp hnone i hstate
  next i _ =>
    have hmem : ({ number := m.nextNumber, clock := clock, body := body } : Report) ∈
        (m₁.bank i).reports ++ [{ number := m.nextNumber, clock := clock, body := body }] :=
      List.mem_append_right _ (List.mem_singleton_self _)
    split
    · refine ⟨fun j => ?_, fun _ => ⟨i, by rw [setBank_bank_same]; exact hmem⟩⟩
      rcases eq_or_eq_other i j with rfl | rfl
      · rw [setBank_bank_same, ← hreports]
        exact List.prefix_append ..
      · rw [setBank_bank_other, hreports]
    · refine ⟨fun j => ?_, fun _ => ⟨i, ?_⟩⟩
      · show _ <+: (((m₁.setBank i _).setBank (1 - i) _).bank j).reports
        rcases eq_or_eq_other i j with rfl | rfl
        · rw [setBank_other_bank, setBank_bank_same, ← hreports]
          exact List.prefix_append ..
        · rw [setBank_bank_same, opened_reports, hreports]
      · show _ ∈ (((m₁.setBank i _).setBank (1 - i) _).bank i).reports
        rw [setBank_other_bank, setBank_bank_same]
        exact hmem

end Mail

/-! ### The relation along a chain -/

/-- The events stand or the queue has filled, the reports stand, and so do the latched causes. -/
structure Posts (s t : State) : Prop where
  events : Extends s.route.events t.route.events
  reports : ∀ x, s.port.mailbox.Holds x → t.port.mailbox.Holds x
  latched : ∃ m, t.port.latched = s.port.latched ||| m

section Posts
variable {s t u : State} {k : Kind} {K : Kind → Prop}

theorem Posts.refl (s : State) : Posts s s := ⟨.refl _, fun _ => id, 0, BitVec.or_zero.symm⟩

theorem Posts.trans (h : Posts s t) (h' : Posts t u) : Posts s u where
  events := h.events.trans h'.events
  reports x hx := h'.reports x (h.reports x hx)
  latched := by
    obtain ⟨m, hm⟩ := h.latched
    obtain ⟨m', hm'⟩ := h'.latched
    exact ⟨m ||| m', by rw [hm', hm, BitVec.or_assoc]⟩

theorem Posts.of_same (hroute : t.route = s.route) (hmailbox : t.port.mailbox = s.port.mailbox)
    (hlatched : t.port.latched = s.port.latched) : Posts s t :=
  ⟨by rw [hroute]; exact .refl _, fun x hx => by rw [hmailbox]; exact hx, 0, hlatched.trans BitVec.or_zero.symm⟩

theorem posts_raise (e : Event) (s : State) : Posts s (raise e s) := by
  refine ⟨raise_events e s, fun _ => id, ?_⟩
  unfold raise
  dsimp only
  split
  · exact ⟨_, rfl⟩
  · exact ⟨0, BitVec.or_zero.symm⟩

theorem posts_makeReport (b : ReportBody) (s : State) : Posts s (makeReport b s) := by
  refine ⟨.refl _, fun x ⟨i, hx⟩ => ⟨i, ((put_reports s.port.mailbox s.course.clock b).1 i).subset hx⟩, ?_⟩
  unfold makeReport
  dsimp only
  split
  · exact ⟨_, rfl⟩
  · exact ⟨0, BitVec.or_zero.symm⟩

/-- R175, R176: a report made stands in the mailbox, or MAILBOX_OVERRUN is latched. -/
theorem makeReport_posted (b : ReportBody) (s : State) :
    (∃ x, (makeReport b s).port.mailbox.Holds x ∧ x.clock = s.course.clock ∧ x.body = b) ∨
      (makeReport b s).isPending .mailboxOverrun = true := by
  cases hloses : s.port.mailbox.loses with
  | false => exact .inl ⟨_, (put_reports _ _ b).2 hloses, rfl, rfl⟩
  | true =>
    right
    have hlatched : (makeReport b s).port.latched = (latch .mailboxOverrun s).port.latched := if_pos hloses
    have hpending := isPending_latch (c := .mailboxOverrun) rfl s
    rw [isPending_of_latched rfl] at hpending ⊢
    rw [hlatched]
    exact hpending

theorem Posts.pending (h : Posts s t) {c : Cause} (hc : c.isLatched = true) (hs : s.isPending c = true) : t.isPending c = true := by
  obtain ⟨m, hm⟩ := h.latched
  exact isPending_or hc hm hs

/-- The kinds of move that lose no event, report or latched cause. -/
def posting : Kind → Prop
  | .event | .report | .latch | .count | .take | .given _ | .record _ | .enterReleased _ | .release _ | .add _ | .clearing
  | .run _ | .done _ | .grant | .drive | .ware | .page | .request _ | .load | .peers | .unpeer | .compute | .ramp | .link _ => True
  | _ => False

theorem posts_driveConveyor (s : State) : Posts s (driveConveyor s) := by
  unfold driveConveyor
  dsimp only
  split
  · exact Posts.trans (t := mapWare (·.move s.conveyorTarget) s) (.of_same rfl rfl rfl) (posts_raise _ _)
  · exact .of_same rfl rfl rfl

theorem posts_lowerGrant (m : Nat) (s : State) : Posts s (lowerGrant m s) :=
  .of_same (lowerGrant_route m s) (by rw [lowerGrant_port]) (by rw [lowerGrant_port])

theorem posts_regrant (s : State) : Posts s (regrant s) :=
  Posts.trans (t := setGrant s.stateGrant s) (.of_same rfl rfl rfl) (posts_lowerGrant _ _)

theorem posts_evalConveyor (s : State) : Posts s (evalConveyor s) := by
  unfold evalConveyor
  split
  · exact .refl s
  · exact posts_driveConveyor s

theorem posts_relink (l : LinkState) (s : State) : Posts s (relink l s) := by
  have hset : Posts s (if l.heats then setLink l s else outputsOff (setLink l s)) := by
    split <;> exact .of_same rfl rfl rfl
  exact (hset.trans (posts_regrant _)).trans (posts_evalConveyor _)

theorem Move.posts (hsingle : k.single) (hk : posting k) (hmove : Move k s t) : Posts s t := by
  cases hmove
  case event e => exact posts_raise e s
  case report b => exact posts_makeReport b s
  case latch c => exact ⟨.refl _, fun _ => id, _, rfl⟩
  case take b _ => exact .of_same (by simp) (by simp) (by simp)
  case add => exact .of_same (by simp) (by simp) (by simp)
  case grant m => exact posts_lowerGrant m s
  case drive => exact posts_driveConveyor s
  case link l _ _ _ => exact posts_relink l s
  case ramp => exact .of_same (by simp [applyRamp]) (by simp [applyRamp]) (by simp [applyRamp])
  case count | given | record | enterReleased | clearing | run | done | ware | page | request | load | peers | unpeer | compute =>
    exact .of_same rfl rfl rfl
  case release => exact hsingle.elim
  all_goals exact hk.elim

theorem whole_posting : Whole posting where
  release _ _ k hk := by cases k <;> first | trivial | exact hk.elim
  leaving h := h.elim

theorem Reach.posts (hK : Admits posting K) (h : Reach K s t) : Posts s t :=
  (h.mono (K' := posting) fun _ hk => hK hk).keepsWhole (P := Posts s) whole_posting
    (fun hsingle hk hmove hs => hs.trans (hmove.posts hsingle hk)) (.refl s)

end Posts

end Sys2Proof.Machine

/-! A peer lost (R44, R46, R103, R122): O49. -/

namespace Sys2Proof.Machine

section Lost
variable {s t u : State} {c d : CourseNo} {r : CourseRec} {st : Station}

/-! ### The other records -/

theorem recOf_of_boardBeside (h : t.boardBeside d = s.boardBeside d) (hc : c ≠ d) : t.recOf c = s.recOf c := by
  have hfind (l : List CourseRec) : (l.filter fun x => x.course != d).find? (·.course == c) = l.find? (·.course == c) := by
    rw [List.find?_filter]
    refine congrArg (fun q => l.find? q) (funext fun x => ?_)
    by_cases hx : x.course = c
    · simp [hx, hc]
    · simp [hx]
  unfold State.recOf
  rw [← hfind t.course.board, ← hfind s.course.board]
  exact congrArg (List.find? _) h

theorem boardBeside_evalReady (c : CourseNo) (s : State) : (evalReady c s).boardBeside c = s.boardBeside c := by
  rcases evalReady_cases c s with ⟨-, heq⟩ | ⟨r, hrec, ⟨-, -, h⟩ | ⟨-, -, -, heq⟩ | ⟨-, -, heq⟩⟩
  · rw [heq]
  · obtain rfl := (recOf_some hrec).2
    have hentered : (enterReady r s).boardBeside r.course = s.boardBeside r.course := by
      unfold enterReady
      dsimp only
      split <;> exact boardBeside_mapRec (f := fun x => { x with state := .ready, readyRaised := true }) (fun _ => rfl) s
    rcases h with ⟨-, -, heq⟩ | ⟨-, heq⟩ <;> rw [heq]
    · have hready := recOf_enterReady hrec
      rw [releaseCourse_eq _ _ hready nofun]
      exact (boardBeside_releaseRec { r with state := .ready, readyRaised := true } _ _ _).trans hentered
    · exact hentered
  · rw [heq]
    exact boardBeside_mapRec (f := fun x => { x with state := .fired, readyRaised := false }) (fun _ => rfl) s
  · rw [heq]

/-! ### One record (R103) -/

/-- R126, R127: the event of a member lost. -/
def CourseRec.lossEvent (r : CourseRec) (st : Station) : Event :=
  { kind := .memberLost, course := r.course, zone := none, station := some st,
    value := BitVec.ofNat 16 (dropMember st r.members).length }

/-- R103: the record without the station's entry, its event and its report. -/
def bereave (st : Station) (r : CourseRec) (s : State) : State :=
  makeReport (.memberLost st r.course) (raise (r.lossEvent st)
    (mapRec r.course (fun x => { x with members := dropMember st r.members }) s))

theorem loseMember_cases (hrec : s.recOf r.course = some r) :
    (r.member st = none ∧ loseMember st r.course s = s) ∨
      (r.member st ≠ none ∧ r.state = .released ∧
        loseMember st r.course s = mapRec r.course (fun x => { x with members := dropMember st r.members }) s) ∨
      (r.member st ≠ none ∧ r.state ≠ .released ∧ loseMember st r.course s = evalReady r.course (bereave st r s)) := by
  unfold loseMember
  rw [hrec]
  dsimp only
  by_cases hmember : r.member st = none
  · exact .inl ⟨hmember, if_pos (by rw [hmember]; rfl)⟩
  · have hnot : ¬(r.member st).isNone = true := by rwa [Option.isNone_iff_eq_none]
    rw [if_neg hnot]
    by_cases hrel : r.state = .released
    · exact .inr (.inl ⟨hmember, hrel, if_pos hrel⟩)
    · exact .inr (.inr ⟨hmember, hrel, if_neg hrel⟩)

theorem loseMember_none (hnone : s.recOf c = none) : loseMember st c s = s := by
  unfold loseMember
  rw [hnone]

theorem recOf_bereave (hrec : s.recOf r.course = some r) :
    (bereave st r s).recOf r.course = some { r with members := dropMember st r.members } := by
  refine (recOf_mapRec (f := fun x => { x with members := dropMember st r.members }) (fun _ => rfl) s).trans ?_
  rw [hrec]
  rfl

theorem loseMember_boardBeside (st : Station) (c : CourseNo) (s : State) : (loseMember st c s).boardBeside c = s.boardBeside c := by
  cases hrec : s.recOf c with
  | none => rw [loseMember_none hrec]
  | some r =>
    obtain rfl := (recOf_some hrec).2
    have hdropped : (mapRec r.course (fun x => { x with members := dropMember st r.members }) s).boardBeside r.course =
        s.boardBeside r.course := boardBeside_mapRec (f := fun x => { x with members := dropMember st r.members }) (fun _ => rfl) s
    rcases loseMember_cases (st := st) hrec with ⟨-, heq⟩ | ⟨-, -, heq⟩ | ⟨-, -, heq⟩ <;> rw [heq]
    · exact hdropped
    · exact (boardBeside_evalReady _ _).trans hdropped

theorem loseMember_courses (st : Station) (c : CourseNo) (s : State) :
    (loseMember st c s).course.board.map (·.course) = s.course.board.map (·.course) := by
  cases hrec : s.recOf c with
  | none => rw [loseMember_none hrec]
  | some r =>
    obtain rfl := (recOf_some hrec).2
    have hdropped := courses_mapRec (c := r.course) (f := fun x => { x with members := dropMember st r.members }) (fun _ => rfl) s
    rcases loseMember_cases (st := st) hrec with ⟨-, heq⟩ | ⟨-, -, heq⟩ | ⟨-, -, heq⟩ <;> rw [heq]
    · exact hdropped
    · exact (tends_evalReady r.course _).courses.trans hdropped

/-- What the loss of a member leaves of a record at a station. -/
structure CourseRec.Loses (own st : Station) (r r' : CourseRec) : Prop where
  others : r'.others own = r.members.filter fun m => m.station != own && m.station != st
  own : r.state = .released ∨ r'.state ≠ .released → r'.member own = r.member own ∧ r'.plates = r.plates
  settled : r.state ≠ .released → r'.settled ∨ r.members.any (fun m => m.station == st) = false

theorem evaluated_members (r : CourseRec) : r.evaluated.members = r.members := by
  unfold CourseRec.evaluated
  split
  · rfl
  · split <;> rfl

theorem member_none_iff : r.member st = none ↔ r.members.any (fun m => m.station == st) = false := by
  unfold CourseRec.member
  rw [List.find?_eq_none, List.any_eq_false]

theorem others_dropMember (own st : Station) (l : List Member) :
    (dropMember st l).filter (·.station != own) = l.filter fun m => m.station != own && m.station != st := List.filter_filter

/-- R103, R98: the record after the loss. -/
theorem loseMember_rec (hst : st ≠ s.own) (hrec : s.recOf r.course = some r) (hordered : r.Ordered) :
    ∃ r', (loseMember st r.course s).recOf r.course = some r' ∧ r.Loses s.own st r' := by
  have hown : { r with members := dropMember st r.members }.member s.own = r.member s.own := find_dropMember (Ne.symm hst) _
  rcases loseMember_cases (st := st) hrec with ⟨hnone, heq⟩ | ⟨-, hrel, heq⟩ | ⟨-, hrel, heq⟩ <;> rw [heq]
  · have hany := member_none_iff.mp hnone
    refine ⟨r, hrec, List.filter_congr fun m hm => ?_, fun _ => ⟨rfl, rfl⟩, fun _ => .inr hany⟩
    have hne : (m.station != st) = true := by simpa using List.any_eq_false.mp hany m hm
    rw [hne, Bool.and_true]
  · refine ⟨{ r with members := dropMember st r.members }, ?_, others_dropMember _ _ _, fun _ => ⟨hown, rfl⟩, fun h => absurd hrel h⟩
    refine (recOf_mapRec (f := fun x => { x with members := dropMember st r.members }) (fun _ => rfl) s).trans ?_
    rw [hrec]
    rfl
  · have hlost := recOf_bereave (st := st) hrec
    obtain ⟨r', hr', htends⟩ := (tends_evalReady r.course (bereave st r s)).record r.course _ hlost
    have hsame : (bereave st r s).own = s.own := rfl
    rw [hsame] at htends
    refine ⟨r', hr', ((htends.others (hordered.filter _)).2).trans (others_dropMember _ _ _), fun h => ?_, fun _ => .inl (evalReady_settled hr')⟩
    have hnot := h.resolve_left hrel
    refine ⟨?_, htends.plates⟩
    rcases recOf_evalReady hlost with ⟨-, r'', hr'', hreleased⟩ | ⟨-, hevaluated⟩
    · obtain rfl : r'' = r' := Option.some.inj (hr''.symm.trans hr')
      exact absurd hreleased hnot
    · obtain rfl : _ = r' := Option.some.inj (hevaluated.symm.trans hr')
      refine Eq.trans ?_ hown
      unfold CourseRec.member
      rw [evaluated_members]

/-! ### The event and the report -/

/-- R128: an event stands in the queue, unless that has filled. -/
def State.EventStands (s : State) (e : Event) : Prop := e ∈ s.route.events ∨ 16 ≤ s.route.events.length

/-- R175: a report of the clock given stands in the mailbox, unless that has overrun. -/
def State.ReportStands (s : State) (clock : Nat) (b : ReportBody) : Prop :=
  (∃ x, s.port.mailbox.Holds x ∧ x.clock = clock ∧ x.body = b) ∨ s.isPending .mailboxOverrun = true

theorem Posts.eventStands (h : Posts s t) {e : Event} (hs : s.EventStands e) : t.EventStands e := by
  rcases hs with hmem | hfull
  · exact h.events.1.imp_left fun hpre => hpre.subset hmem
  · exact .inr (hfull.trans h.events.2)

theorem Posts.reportStands (h : Posts s t) {clock : Nat} {b : ReportBody} (hs : s.ReportStands clock b) : t.ReportStands clock b := by
  rcases hs with ⟨x, hx, hxs⟩ | hpending
  · exact .inl ⟨x, h.reports x hx, hxs⟩
  · exact .inr (h.pending rfl hpending)

theorem raise_stands (e : Event) (htakes : s.bus.link.takesEvents = true) : (raise e s).EventStands e := by
  by_cases hroom : s.route.events.length < 16
  · rw [raise_of_room htakes hroom]
    exact .inl (List.mem_append_right _ (List.mem_singleton_self _))
  · exact .inr ((Nat.not_lt.mp hroom).trans (raise_events e s).2)

/-- R103: the event and the report of the loss. -/
theorem loseMember_news (hrec : s.recOf r.course = some r) (hstate : r.state ≠ .released)
    (hany : r.members.any (fun m => m.station == st) = true) :
    (s.bus.link.takesEvents = true → (loseMember st r.course s).EventStands (r.lossEvent st)) ∧
      (loseMember st r.course s).ReportStands s.course.clock (.memberLost st r.course) := by
  have hmember : r.member st ≠ none := by
    rw [Ne, member_none_iff, hany]
    exact Bool.noConfusion
  rcases loseMember_cases (st := st) hrec with ⟨hnone, -⟩ | ⟨-, hrel, -⟩ | ⟨-, -, heq⟩
  · exact absurd hnone hmember
  · exact absurd hrel hstate
  have hposts : Posts (bereave st r s) (evalReady r.course (bereave st r s)) :=
    (Reach.evalReady (K := reacts) (fun _ hk => reactsOn_le_reacts hk) .refl).posts fun k hk => by
      cases k <;> first | trivial | exact hk.elim
  rw [heq]
  refine ⟨fun htakes => hposts.eventStands ?_, hposts.reportStands (makeReport_posted _ _)⟩
  exact raise_stands (s := mapRec r.course (fun x => { x with members := dropMember st r.members }) s) (r.lossEvent st) htakes

/-! ### All the records -/

theorem foldl_loseMember_other (st : Station) {l : List CourseNo} (hc : c ∉ l) (s : State) :
    (l.foldl (fun s c => loseMember st c s) s).recOf c = s.recOf c := by
  induction l generalizing s with
  | nil => rfl
  | cons d l ih =>
    obtain ⟨hd, hl⟩ := not_or.mp (mt List.mem_cons.mpr hc)
    exact (ih hl _).trans (recOf_of_boardBeside (loseMember_boardBeside st d s) hd)

theorem foldl_loseMember_posts (st : Station) (l : List CourseNo) (s : State) :
    Posts s (l.foldl (fun s c => loseMember st c s) s) :=
  (Reach.foldl (K := reacts) (fun c _ _ hu => hu.loseMember (fun _ hk => reactsOn_le_reacts hk) st) .refl).posts fun k hk => by
    cases k <;> first | trivial | exact hk.elim

/-- R103: each record that the board holds loses the station. -/
theorem loseMembers_at (st : Station) (hboard : (s.course.board.map (·.course)).Nodup) (hr : r ∈ s.course.board) :
    ∃ u : State, u.recOf r.course = some r ∧ u.kept = s.kept ∧ u.steady = s.steady ∧
      (loseMembers st s).recOf r.course = (loseMember st r.course u).recOf r.course ∧
      Posts (loseMember st r.course u) (loseMembers st s) := by
  have hrec : s.recOf r.course = some r := recOf_of_mem hboard hr
  obtain ⟨l, l', hl⟩ := List.append_of_mem (List.mem_map_of_mem (f := (·.course)) hr)
  have hnodup := hboard
  rw [hl] at hnodup
  have hbefore : r.course ∉ l := fun h => (List.nodup_append.mp hnodup).2.2 _ h _ (List.mem_cons_self ..) rfl
  have hafter : r.course ∉ l' := (List.nodup_cons.mp (List.nodup_append.mp hnodup).2.1).1
  refine ⟨l.foldl (fun s c => loseMember st c s) s, (foldl_loseMember_other st hbefore s).trans hrec,
    foldl_kept _ (fun _ _ => loseMember_kept _ _ _) _ _, foldl_steady _ (fun _ _ => loseMember_steady _ _ _) _ _, ?_, ?_⟩
  all_goals
    unfold loseMembers State.boardCourses
    rw [hl, List.foldl_append, List.foldl_cons]
  · exact foldl_loseMember_other st hafter _
  · exact foldl_loseMember_posts st l' _

theorem loseMembers_courses (st : Station) (s : State) :
    (loseMembers st s).course.board.map (·.course) = s.course.board.map (·.course) :=
  foldl_keeps (fun s : State => s.course.board.map (·.course)) _ (fun u c => loseMember_courses st c u) s.boardCourses s

/-! ### The tables and the link -/

theorem testMismatch_frame (s : State) : (testMismatch s).load.peers = s.load.peers ∧ (testMismatch s).course = s.course ∧
    (testMismatch s).ware = s.ware ∧ (testMismatch s).bus = s.bus ∧ (testMismatch s).page = s.page ∧ (testMismatch s).prog = s.prog := by
  unfold testMismatch
  split
  · split
    · exact ⟨rfl, rfl, rfl, rfl, rfl, rfl⟩
    · dsimp only
      split <;> exact ⟨rfl, rfl, rfl, rfl, rfl, rfl⟩
  · exact ⟨rfl, rfl, rfl, rfl, rfl, rfl⟩

theorem changeLink_of_not_listen {l : LinkState} (h : s.bus.link ≠ .listen) : changeLink l s = relink l s := by
  rw [changeLink_eq, if_neg]
  simp [h]

/-- R46, R62: an emptied table takes JOINED to ALONE. -/
theorem tellIfEmpty_frame (s : State) : (tellIfEmpty s).load.peers = s.load.peers ∧ (tellIfEmpty s).course = s.course ∧
    (tellIfEmpty s).ware.wash = s.ware.wash ∧
    (tellIfEmpty s).bus.link = if s.bus.link = .joined ∧ s.load.peers = [] then .alone else s.bus.link := by
  unfold tellIfEmpty tableEmptied
  by_cases hempty : s.load.peers = []
  · rw [if_pos (by rw [hempty]; rfl)]
    by_cases hlink : s.bus.link = .joined
    · rw [if_pos hlink, if_pos ⟨hlink, hempty⟩, changeLink_of_not_listen (by rw [hlink]; nofun)]
      exact ⟨relink_load_peers _ _, relink_course _ _, relink_ware_wash _ _, by rw [relink_bus]⟩
    · rw [if_neg hlink, if_neg fun h => hlink h.1]
      exact ⟨rfl, rfl, rfl, rfl⟩
  · rw [if_neg (by rwa [List.isEmpty_iff]), if_neg fun h => hempty h.2]
    exact ⟨rfl, rfl, rfl, rfl⟩

/-- R46: what the loss of a peer leaves of the tables and the link. -/
theorem losePeer_frame (hholds : s.load.peers.any (·.station == st) = true) :
    (losePeer st s).load.peers = s.load.peers.filter (·.station != st) ∧
    (losePeer st s).course = (loseMembers st (removePeer st s)).course ∧
    (losePeer st s).ware.wash = s.ware.wash.filter (·.station != st) ∧
    (losePeer st s).bus.link =
      (if s.bus.link = .joined ∧ s.load.peers.filter (·.station != st) = [] then .alone else s.bus.link) ∧
    Posts (loseMembers st (removePeer st s)) (losePeer st s) := by
  have hsteady := loseMembers_steady st (removePeer st s)
  have hpeers : (loseMembers st (removePeer st s)).load.peers = s.load.peers.filter (·.station != st) :=
    congrArg (fun k : Steady => k.load.peers) hsteady
  have hwash : (loseMembers st (removePeer st s)).ware.wash = s.ware.wash := congrArg (fun k : Steady => k.ware.wash) hsteady
  have hlink : (loseMembers st (removePeer st s)).bus.link = s.bus.link :=
    link_of_steady (s := removePeer st s) hsteady
  have hlose : losePeer st s = tellIfEmpty (testMismatch (mapWash (dropWash st) (loseMembers st (removePeer st s)))) := if_pos hholds
  rw [hlose]
  generalize loseMembers st (removePeer st s) = u at *
  have hposts : Posts u (tellIfEmpty (testMismatch (mapWash (dropWash st) u))) :=
    (Reach.tellIfEmpty (K := posting) (fun k hk => by cases k <;> first | trivial | exact hk.elim)
      (Reach.testMismatch (K := posting) trivial trivial
        (Reach.dropWash (K := posting) (fun k hk => by cases k <;> first | trivial | exact hk.elim) st .refl))).posts fun _ hk => hk
  obtain ⟨hware, hbeside⟩ := mapWash_fields (dropWash st) u
  obtain ⟨hpeers', hcourse', hware', hbus', -, -⟩ := testMismatch_frame (mapWash (dropWash st) u)
  obtain ⟨hpeers'', hcourse'', hwash'', hlink''⟩ := tellIfEmpty_frame (testMismatch (mapWash (dropWash st) u))
  rw [hbus', hbeside.link, hlink, hpeers', hbeside.load, hpeers] at hlink''
  refine ⟨?_, ?_, ?_, hlink'', hposts⟩
  · rw [hpeers'', hpeers', hbeside.load, hpeers]
  · rw [hcourse'', hcourse', hbeside.course]
  · rw [hwash'', hware', hware]
    show dropWash st u.ware.wash = _
    rw [hwash]
    rfl

/-! ### The wash view emptied (R122, R148) -/

/-- A page that is taken out of DEFERRED, among those of the numbers given. -/
theorem placePage_undeferred (n : Nat) (s : State) : ∃ f : Page → Page, (placePage n s).page.pages = s.page.pages.map f ∧
    (∀ q, (f q).number = q.number) ∧ ∀ q ∈ s.page.pages, (f q).state = .deferred → q.state = .deferred ∧ q.number ≠ n := by
  unfold placePage
  split
  next hnone =>
    refine ⟨id, (List.map_id _).symm, fun _ => rfl, fun q hq hstate => ⟨hstate, fun hn => ?_⟩⟩
    simpa [hn] using List.find?_eq_none.mp hnone q hq
  next p _ =>
    split
    · refine ⟨fun q => if q.number = n then { q with state := .waiting, timer := 0, current := none } else q, rfl, fun q => ?_,
        fun q _ hstate => ?_⟩
      · dsimp only
        split <;> rfl
      · dsimp only at hstate
        split at hstate
        · cases hstate
        next hn => exact ⟨hstate, hn⟩
    · obtain ⟨⟨f, hf, hfp⟩, -⟩ := requeued_queuePage n s
      refine ⟨f, hf, fun q => ?_, fun q _ hstate => ?_⟩
      · by_cases hq : q.number ∈ [n]
        · rw [(hfp q).1 hq]
        · rw [((hfp q).2 hq).1]
      · by_cases hq : q.number ∈ [n]
        · rw [(hfp q).1 hq] at hstate
          cases hstate
        · rw [((hfp q).2 hq).1] at hstate
          exact ⟨hstate, fun hn => hq (List.mem_singleton.mpr hn)⟩

theorem foldl_undefer (ns : List Nat) (s : State) :
    (ns.foldl (fun s n => undefer n s) s).page.pages.map (·.number) = s.page.pages.map (·.number) ∧
    ((∀ p ∈ s.page.pages, p.state = .deferred → p.number ∈ ns) →
      ∀ p ∈ (ns.foldl (fun s n => undefer n s) s).page.pages, p.state ≠ .deferred) := by
  induction ns generalizing s with
  | nil => exact ⟨rfl, fun h p hp hstate => absurd (h p hp hstate) List.not_mem_nil⟩
  | cons n ns ih =>
    obtain ⟨f, hf, hnumber, hstate⟩ := placePage_undeferred n s
    obtain ⟨hnumbers, hnone⟩ := ih (undefer n s)
    have hpages : (undefer n s).page.pages = s.page.pages.map f := hf
    refine ⟨hnumbers.trans ?_, fun h => hnone fun p hp hdeferred => ?_⟩
    · rw [hpages, List.map_map]
      exact List.map_congr_left fun q _ => hnumber q
    · rw [hpages] at hp
      obtain ⟨q, hq, rfl⟩ := List.mem_map.mp hp
      obtain ⟨hwas, hne⟩ := hstate q hq hdeferred
      rw [hnumber]
      exact (List.mem_cons.mp (h q hq hwas)).resolve_left hne

/-- R148: backlog that stops counting as high takes every page out of DEFERRED. -/
theorem mapWash_pages (f : List WashEntry → List WashEntry) (s : State) :
    (mapWash f s).page.pages.map (·.number) = s.page.pages.map (·.number) ∧
    (s.ware.wash ≠ [] → f s.ware.wash = [] → s.ware.levelHigh = false → ∀ p ∈ (mapWash f s).page.pages, p.state ≠ .deferred) := by
  obtain ⟨hnumbers, hnone⟩ := foldl_undefer
    ((mapWare (fun w => { w with wash := f w.wash }) s).pagesWhere (·.state == .deferred)) (mapWare (fun w => { w with wash := f w.wash }) s)
  have hall : ∀ p ∈ s.page.pages, p.state = .deferred → p.number ∈ s.pagesWhere (·.state == .deferred) := fun p hp hstate =>
    List.mem_map_of_mem (f := (·.number)) (List.mem_filter.mpr ⟨hp, by simp [hstate]⟩)
  unfold mapWash watchBacklog
  dsimp only
  split
  · exact ⟨hnumbers, fun _ _ _ => hnone hall⟩
  next hnot =>
    refine ⟨rfl, fun hsome hempty hlow => absurd ?_ hnot⟩
    have hwas : s.backlogHigh = true := by
      unfold State.backlogHigh
      rw [hlow, Bool.or_false, Bool.not_eq_true', List.isEmpty_eq_false_iff]
      exact hsome
    have hnow : (mapWare (fun w => { w with wash := f w.wash }) s).backlogHigh = false := by
      show (!(f s.ware.wash).isEmpty || s.ware.levelHigh) = false
      rw [hempty, hlow]
      rfl
    rw [hwas, hnow]
    rfl

end Lost

end Sys2Proof.Machine

namespace Sys2Proof.Proofs
open Sys2Proof.Machine

/-- O49: what the loss of a peer of the table leaves of the records. -/
theorem peer_lost {s : State} {st : Station} (hholds : s.load.peers.any (·.station == st) = true) (hboard : BoardSafe s)
    (hst : st ≠ s.own) {r : CourseRec} (hr : r ∈ s.course.board) :
    ∃ r', (losePeer st s).recOf r.course = some r' ∧ r.Loses s.own st r' ∧
      (r.state ≠ .released → r.members.any (fun m => m.station == st) = true →
        (s.bus.link.takesEvents = true → (losePeer st s).EventStands (r.lossEvent st)) ∧
        (losePeer st s).ReportStands s.course.clock (.memberLost st r.course)) := by
  obtain ⟨-, hcourse, -, -, hposts⟩ := losePeer_frame hholds
  obtain ⟨u, hu, hkept, hsteady, hrec, hlater⟩ := loseMembers_at (s := removePeer st s) st hboard.courses hr
  have hown : u.own = s.own := own_of_kept hkept
  have hlink : u.bus.link = s.bus.link := link_of_steady (s := removePeer st s) hsteady
  have hclock : u.course.clock = s.course.clock := congrArg Steady.clock hsteady
  obtain ⟨r', hr', hloses⟩ := loseMember_rec (st := st) (by rw [hown]; exact hst) hu (hboard.order r hr)
  rw [hown] at hloses
  refine ⟨r', ?_, hloses, fun hstate hany => ?_⟩
  · rw [recOf_of_board (congrArg Course.board hcourse), hrec]
    exact hr'
  · obtain ⟨hevent, hreport⟩ := loseMember_news hu hstate hany
    rw [hlink] at hevent
    rw [hclock] at hreport
    exact ⟨fun htakes => hposts.eventStands (hlater.eventStands (hevent htakes)), hposts.reportStands (hlater.reportStands hreport)⟩

/-- Settles O49. -/
theorem peersLost : Obligations.PeersLost := by
  intro st s lost holds
  have hlost {u : State} (hholds : u.load.peers.any (·.station == st) = true) (hboard : BoardSafe u)
      (hsettings : u.settings = s.settings) (hload : u.load = s.load) (hcourse : u.course = s.course) (hware : u.ware = s.ware)
      (hlink : u.bus.link = s.bus.link) : lost (losePeer st u) := by
    have hown : u.own = s.own := congrArg (fun k : Settings => k.straps.number) hsettings
    obtain ⟨hpeers, hcourses, hwash, hlink', -⟩ := losePeer_frame hholds
    have hboards : (losePeer st u).course.board.map (·.course) = u.course.board.map (·.course) :=
      (congrArg (fun k : Course => k.board.map (·.course)) hcourses).trans (loseMembers_courses st (removePeer st u))
    refine ⟨(settings_of_kept (losePeer_kept st u)).trans hsettings, hload ▸ hpeers, hcourse ▸ hboards, fun hst r hr => ?_,
      hware ▸ hwash, ?_⟩
    · obtain ⟨r', hr', hloses, hnews⟩ := peer_lost hholds hboard (hown ▸ hst) (hcourse ▸ hr)
      rw [hown] at hloses
      refine ⟨r', hr', hloses.others, hloses.own, hloses.settled, fun hstate hany => ?_⟩
      obtain ⟨hevent, hreport⟩ := hnews hstate hany
      rw [hlink] at hevent
      rw [hcourse] at hreport
      refine ⟨hevent, hreport.imp_left ?_⟩
      rintro ⟨x, ⟨i, hx⟩, hxs⟩
      exact ⟨i, x, hx, hxs⟩
    · rw [hlink', hlink, hload]
  refine ⟨?_, fun hreset => ?_⟩
  · intro seq n htakes
    have hexec : exec (.leaveHeard st seq) s = .next (losePeer st (s.counted n)) := hearing_of_takes htakes (losePeer st)
    refine ⟨fun hnot => hexec.trans (congrArg _ (if_neg (Bool.eq_false_iff.mp hnot))), fun hheld hboard => ⟨_, hexec, ?_⟩⟩
    refine hlost (u := s.counted n) hheld ⟨hboard.room, hboard.courses, hboard.order, hboard.members⟩ rfl rfl rfl rfl rfl
  · intro brink
    have hexec : exec (.peerAgedOut st) s = .next (if s.brinkPeer st then losePeer st s else s) := unlessReset_of_not_inReset hreset _
    have hwash : exec (.washViewAgeOut st) s = .next
        (if s.ware.wash.any fun e => e.station == st && 29 ≤ e.age then mapWash (dropWash st) s else s) :=
      unlessReset_of_not_inReset hreset _
    refine ⟨fun hnot => hexec.trans (congrArg _ (if_neg (Bool.eq_false_iff.mp hnot))), fun hbrink hboard => ?_, ?_⟩
    · refine ⟨_, hexec.trans (congrArg _ (if_pos hbrink)), hlost ?_ hboard rfl rfl rfl rfl rfl⟩
      obtain ⟨p, hp, hyes⟩ := List.any_eq_true.mp hbrink
      simp only [Bool.and_eq_true] at hyes
      exact List.any_eq_true.mpr ⟨p, hp, hyes.1.1⟩
    · intro old
      refine ⟨fun hnot => hwash.trans (congrArg _ (if_neg (Bool.eq_false_iff.mp hnot))), fun hold => ?_⟩
      obtain ⟨hnumbers, hnone⟩ := mapWash_pages (dropWash st) s
      refine ⟨_, hwash.trans (congrArg _ (if_pos hold)), settings_of_kept (mapWash_kept _ _), (mapWash_fields (dropWash st) s).1,
        hnumbers, fun hall hlow => hnone ?_ ?_ hlow⟩
      · rintro hempty
        obtain ⟨e, he, -⟩ := List.any_eq_true.mp hold
        rw [hempty] at he
        cases he
      · unfold dropWash
        rw [List.filter_eq_nil_iff]
        intro e he
        have := List.all_eq_true.mp hall e he
        simpa using this

end Sys2Proof.Proofs

/-! A LOAD heard, and the end of the listen interval (R41–R43, R45, R62): O48. -/

namespace Sys2Proof.Machine

section LoadHeard
variable {s t : State} {p x : Peer} {l l1 l2 : List Peer}

/-! ### The peer table (R41) -/

theorem find_putPeer (p : Peer) (l : List Peer) : ∃ g, (putPeer p l).find? (·.station == p.station) = some { p with grant := g } ∧
    (l.any (·.station == p.station) = false → g = p.grant) := by
  unfold putPeer
  split
  next h =>
    obtain ⟨y, hy, hst⟩ := List.any_eq_true.mp h
    obtain ⟨z, hz⟩ := Option.isSome_iff_exists.mp (List.find?_isSome (p := fun x : Peer => x.station == p.station).mpr ⟨y, hy, hst⟩)
    have hkey : z.station = p.station := by simpa using List.find?_some hz
    refine ⟨z.grant, ?_, fun hno => absurd (h.symm.trans hno) nofun⟩
    have hsame : ((·.station == p.station) ∘ fun x : Peer => if x.station = p.station then { p with grant := x.grant } else x) =
        fun x : Peer => x.station == p.station := by
      funext x
      by_cases hx : x.station = p.station
      · simp [hx]
      · simp [hx]
    rw [List.find?_map, hsame, hz]
    exact congrArg some (if_pos hkey)
  · refine ⟨p.grant, ?_, fun _ => rfl⟩
    rw [List.find?_append, List.find?_eq_none.mpr fun y hy => ?_, Option.none_or, List.find?_cons_of_pos (by simp)]
    have hlt := (List.mem_filter.mp hy).2
    simpa using (of_decide_eq_true hlt).ne

theorem mem_putPeer_other (hx : x.station ≠ p.station) : x ∈ putPeer p l ↔ x ∈ l := by
  unfold putPeer
  split
  · constructor
    · intro h
      obtain ⟨y, hy, rfl⟩ := List.mem_map.mp h
      by_cases hst : y.station = p.station
      · exact absurd (congrArg Peer.station (if_pos hst)) hx
      · rwa [if_neg hst]
    · exact fun h => List.mem_map.mpr ⟨x, h, if_neg hx⟩
  · have hne : x ≠ p := fun h => hx (congrArg Peer.station h)
    simp only [List.mem_append, List.mem_cons, List.mem_filter, decide_eq_true_eq]
    constructor
    · rintro (h | h | h)
      · exact h.1
      · exact absurd h hne
      · exact h.1
    · intro h
      rcases lt_or_gt_of_ne hx with hlt | hgt
      · exact .inl ⟨h, hlt⟩
      · exact .inr (.inr ⟨h, hgt⟩)

/-! ### The limit mismatch (R43) -/

/-- R43: the mismatch stands while some peer's limit differs. -/
theorem testMismatch_mismatch (hconf : s.port.configured = true) :
    (testMismatch s).load.mismatch = s.load.peers.any (·.l != s.load.limit) := by
  unfold testMismatch
  cases hfind : s.load.peers.find? (·.l != s.load.limit) with
  | none =>
    refine (Bool.eq_false_iff.mpr fun hany => ?_).symm
    obtain ⟨p, hp, hne⟩ := List.any_eq_true.mp hany
    exact List.find?_eq_none.mp hfind p hp hne
  | some p =>
    dsimp only
    rw [if_neg (by simp [hconf]), List.any_eq_true.mpr ⟨p, List.mem_of_find?_eq_some hfind, List.find?_some (p := fun x : Peer => x.l != s.load.limit) hfind⟩]
    split <;> rfl

/-- R43: the event of the mismatch, where it comes to stand. -/
theorem testMismatch_event (hconf : s.port.configured = true) (hfalse : s.load.mismatch = false) (hl : s.load.peers = l1 ++ p :: l2)
    (hp : p.l ≠ s.load.limit) (hfirst : ∀ x ∈ l1, x.l = s.load.limit) : testMismatch s =
      raise { kind := .limitMismatch, course := 0, zone := none, station := some p.station, value := BitVec.ofNat 16 p.l }
        { s with load := { s.load with mismatch := true } } := by
  have hfind : s.load.peers.find? (·.l != s.load.limit) = some p := by
    rw [hl, List.find?_append, List.find?_eq_none.mpr fun x hx => by simp [hfirst x hx], Option.none_or,
      List.find?_cons_of_pos (by simpa using hp)]
  unfold testMismatch
  rw [hfind]
  dsimp only
  rw [if_neg (by simp [hconf]), if_neg (by simp [hfalse])]

/-- R128: an event raised where events are taken is the last, unless the queue has filled. -/
theorem raise_last (e : Event) (htakes : s.bus.link.takesEvents = true) :
    (raise e s).route.events.getLast? = some e ∨ 16 ≤ (raise e s).route.events.length := by
  by_cases hroom : s.route.events.length < 16
  · rw [raise_of_room htakes hroom]
    exact .inl List.getLast?_concat
  · exact .inr ((Nat.not_lt.mp hroom).trans (raise_events e s).2)

/-! ### The notice taken -/

/-- R41, R62: the table filled, before the mismatch is tested. -/
def filed (p : Peer) (s : State) : State :=
  let s1 := { s with load := { s.load with peers := putPeer p s.load.peers } }
  if s.load.peers.isEmpty then tableFilled s1 else s1

theorem takeLoad_of_room (h : s.load.peers.any (·.station == p.station) = true ∨ s.load.peers.length < 30) :
    takeLoad p s = testMismatch (filed p s) := if_pos (by simpa [Bool.or_eq_true] using h)

/-- What the table filled leaves as it was. -/
theorem filed_frame (p : Peer) (s : State) : (filed p s).course = s.course ∧ (filed p s).page = s.page ∧
    (filed p s).load.peers = putPeer p s.load.peers ∧ (filed p s).load.limit = s.load.limit ∧
    (filed p s).load.mismatch = s.load.mismatch ∧ (filed p s).port.configured = s.port.configured ∧
    (filed p s).bus.link = (if s.bus.link = .alone ∧ s.load.peers = [] then .joined else s.bus.link) := by
  unfold filed tableFilled
  dsimp only
  by_cases hempty : s.load.peers = []
  · rw [if_pos (by rw [hempty]; rfl)]
    by_cases hlink : s.bus.link = .alone
    · rw [if_pos hlink, if_pos ⟨hlink, hempty⟩, changeLink_of_not_listen (by show s.bus.link ≠ _; rw [hlink]; nofun)]
      exact ⟨relink_course _ _, relink_page _ _, relink_load_peers _ _, relink_load_limit _ _, relink_load_mismatch _ _,
        relink_port_configured _ _, by rw [relink_bus]⟩
    · rw [if_neg hlink, if_neg fun h => hlink h.1]
      exact ⟨rfl, rfl, rfl, rfl, rfl, rfl, rfl⟩
  · rw [if_neg (by rwa [List.isEmpty_iff]), if_neg fun h => hempty h.2]
    exact ⟨rfl, rfl, rfl, rfl, rfl, rfl, rfl⟩

theorem filed_of_some (h : s.load.peers ≠ []) : filed p s = { s with load := { s.load with peers := putPeer p s.load.peers } } :=
  if_neg (by rwa [List.isEmpty_iff])

/-- R45: the third expiry of LISTEN. -/
theorem countListen_ends (hlink : s.bus.link = .listen) (hcount : s.load.listenCount = 2) : countListen s =
    changeLink (if s.load.peers.isEmpty then .alone else .joined) { s with load := { s.load with listenCount := 3 } } := by
  unfold countListen endListen
  rw [if_pos hlink, hcount]
  exact (if_pos (Nat.le_refl 3)).trans (if_pos hlink)

theorem changeLink_frame (l : LinkState) (s : State) : (changeLink l s).load = (relink l s).load ∧
    (changeLink l s).prog = s.prog ∧ (changeLink l s).course = s.course ∧ (changeLink l s).bus.link = l := by
  rw [changeLink_eq]
  split
  · unfold handWare
    exact ⟨hand_load _ _, (hand_prog _ _).trans (relink_prog _ _), (hand_course _ _).trans (relink_course _ _),
      (link_of_steady (hand_steady _ _)).trans (by show (relink l s).bus.link = l; rw [relink_bus])⟩
  · exact ⟨rfl, relink_prog _ _, relink_course _ _, by rw [relink_bus]⟩

end LoadHeard

end Sys2Proof.Machine

namespace Sys2Proof.Proofs
open Sys2Proof.Machine

/-- Settles O48. -/
theorem loadHeard : Obligations.LoadHeard := by
  refine ⟨?_, fun s hreset => ?_⟩
  · intro sender seq q f w d l s n cmd c found htakes
    have hexec : exec cmd s = .next (takeLoadNotice sender q f w d l c) := hearing_of_takes htakes _
    have hown : c.own = s.own := rfl
    refine ⟨fun h0 => hexec.trans (congrArg _ (if_pos h0)), fun h0 hself => ?_, fun h0 hother hroom => ?_, fun h0 hother hnew hfull => ?_⟩
    · have hclash : exec cmd s = .next (takeClash (min 2040 q.toNat) c) :=
        hexec.trans (congrArg _ ((if_neg h0).trans (if_pos hself)))
      refine ⟨fun hstands => hclash.trans (congrArg _ (if_pos hstands)), fun hnone => ?_⟩
      refine ⟨_, hclash.trans (congrArg _ (if_neg (Bool.eq_false_iff.mp hnone))), rfl,
        isPending_raise rfl _ (isPending_latch rfl _), fun htakes' hlen => ?_, rfl⟩
      rw [raise_of_room (s := latch .numberClash { c with load := { c.load with clash := true, clashHeard := true } }) htakes' hlen]
      rfl
    · have hst : (Peer.ofLoad sender q.toNat f.toNat w.toNat d.toNat l.toNat).station = sender := rfl
      generalize hp : Peer.ofLoad sender q.toNat f.toNat w.toNat d.toNat l.toNat = p at hst
      have htaken : exec cmd s = .next (testMismatch (filed p c)) := by
        rw [hexec, ← takeLoad_of_room (p := p) (s := c) (by rw [hst]; exact hroom), ← hp]
        exact congrArg _ ((if_neg h0).trans (if_neg hother))
      obtain ⟨hcourse, hpage, hpeers, hlimit, hmismatch, hconf, hlink⟩ := filed_frame p c
      obtain ⟨hpeers', hcourse', -, hbus', hpage', -⟩ := testMismatch_frame (filed p c)
      have hsettings : (testMismatch (filed p c)).settings = c.settings := by
        rw [settings_of_kept (testMismatch_kept _)]
        unfold filed
        dsimp only
        split
        · exact settings_of_kept (tableFilled_kept _)
        · rfl
      have hheld : (testMismatch (filed p c)).load.peers = putPeer p s.load.peers := hpeers'.trans hpeers
      refine ⟨_, htaken, hsettings, hcourse'.trans hcourse, by rw [hpage', hpage]; rfl, ?_, fun x hx => ?_, by rw [hbus']; exact hlink,
        fun hset => ?_, fun hset hnone l1 x l2 hsplit hne hfirst => ?_⟩
      · obtain ⟨g, hfind, hgrant⟩ := find_putPeer p s.load.peers
        rw [hst] at hfind hgrant
        rw [hheld]
        subst hp
        exact ⟨_, hfind, rfl, rfl, rfl, rfl, rfl, rfl, rfl, hgrant⟩
      · rw [hheld]
        exact mem_putPeer_other (by rw [hst]; exact hx)
      · rw [testMismatch_mismatch (hconf.trans hset), hpeers', hlimit]
        rfl
      · have hlimit : (filed p c).load.limit = s.load.limit := hlimit
        rw [← hlimit] at hne hfirst
        have hevent := testMismatch_event (hconf.trans hset) (hmismatch.trans hnone) (hpeers'.symm.trans hsplit) hne hfirst
        refine ⟨fun htakes' => ?_, fun hsome => ?_⟩
        · rw [hevent]
          refine raise_last _ ?_
          show (filed p c).bus.link.takesEvents = true
          rw [hlink]
          split
          · rfl
          · exact htakes'
        · rw [hevent, filed_of_some (s := c) hsome]
          exact queues_raise _ _
    · have hp : (Peer.ofLoad sender q.toNat f.toNat w.toNat d.toNat l.toNat).station = sender := rfl
      refine hexec.trans (congrArg _ ((if_neg h0).trans ((if_neg hother).trans (if_neg ?_))))
      rw [hp, Bool.or_eq_true, decide_eq_true_eq, not_or]
      exact ⟨Bool.eq_false_iff.mp hnew, Nat.not_lt.mpr hfull⟩
  · have hexec : exec .listenEnd s = .next (if s.bus.link = .listen ∧ s.load.listenCount = 2 then countListen s else s) :=
      unlessReset_of_not_inReset hreset _
    refine ⟨fun hnot => hexec.trans (congrArg _ (if_neg hnot)), fun hlink hcount => ?_⟩
    refine ⟨_, (hexec.trans (congrArg _ (if_pos ⟨hlink, hcount⟩))), settings_of_kept (countListen_kept s), ?_⟩
    rw [countListen_ends hlink hcount]
    obtain ⟨hload, hprog, hcourse, hto⟩ := changeLink_frame (if s.load.peers.isEmpty then .alone else .joined)
      { s with load := { s.load with listenCount := 3 } }
    refine ⟨?_, ?_, ?_, hprog, hcourse⟩
    · rw [hload, relink_load_listenCount]
    · rw [hto]
      cases s.load.peers <;> rfl
    · rw [hload, relink_load_peers]

end Sys2Proof.Proofs

/-! Window starts and re-allotments (R10, R14–R18): O30. -/

namespace Sys2Proof.Machine

/-! ### The allotments (R10–R13) -/

section Allotments
variable {grant : Nat} {zones : List (Nat × Nat)}

theorem length_topUp (total : Nat) {shares caps : List Nat} (h : caps.length = shares.length) :
    (topUp total shares caps).length = shares.length := by
  unfold topUp
  rw [length_sweep, List.length_zip, h, Nat.min_self]

theorem length_allotments (grant : Nat) (zones : List (Nat × Nat)) : (allotments grant zones).length = zones.length := by
  unfold allotments
  dsimp only
  split
  · rw [List.length_map]
  · split
    · rw [List.length_map]
    · split
      · rw [length_topUp _ (by simp), List.length_map, List.length_map]
      · rw [length_topUp _ (by simp), List.length_map]

/-- The cases of the allotment. -/
theorem allotments_cases (grant : Nat) (zones : List (Nat × Nat)) : grant = 0 ∨ (0 < grant ∧ (zones.map (·.1)).sum ≤ grant) ∨
    (0 < grant ∧ grant < (zones.map (·.1)).sum ∧ grant ≤ (zones.map (·.2)).sum) ∨
    (0 < grant ∧ grant < (zones.map (·.1)).sum ∧ (zones.map (·.2)).sum < grant) := by omega

theorem sum_allotments_le (h : BasesWithin zones) : (allotments grant zones).sum ≤ grant := by
  rcases allotments_cases grant zones with rfl | ⟨hpos, hfit⟩ | ⟨hpos, hover, hbases⟩ | ⟨hpos, hover, hbases⟩
  · rw [allotments_of_grant_zero]
    simp
  · rwa [allotments_of_demands_le hpos hfit]
  · exact (sum_allotments_of_le_bases hpos hover hbases).le
  · exact (sum_allotments_of_bases_lt h hpos hover hbases).le

/-- R11–R13: no allotment passes its demand. -/
theorem allotment_le_demand (h : BasesWithin zones) (i : Nat) (hi : i < zones.length) :
    (allotments grant zones)[i]'(by rwa [length_allotments]) ≤ zones[i].1 := by
  have hof {l : List Nat} (hl : allotments grant zones = l) (hlen : i < l.length) (hle : l[i] ≤ zones[i].1) :
      (allotments grant zones)[i]'(by rwa [length_allotments]) ≤ zones[i].1 := by
    subst hl
    exact hle
  have hcap {l caps : List Nat} (hall : ∀ x ∈ l.zip caps, x.1 ≤ x.2) (hl : i < l.length) (hc : i < caps.length) : l[i] ≤ caps[i] := by
    have hmem : (l[i], caps[i]) ∈ l.zip caps := by
      rw [List.mem_iff_getElem]
      exact ⟨i, by rw [List.length_zip]; omega, List.getElem_zip⟩
    exact hall _ hmem
  have hlen : i < (allotments grant zones).length := by rwa [length_allotments]
  rcases allotments_cases grant zones with rfl | ⟨hpos, hfit⟩ | ⟨hpos, hover, hbases⟩ | ⟨hpos, hover, hbases⟩
  · exact hof (allotments_of_grant_zero zones) (by simpa using hi) (by simp)
  · exact hof (allotments_of_demands_le hpos hfit) (by simpa using hi) (by simp)
  · have htop := allotments_of_le_bases hpos hover hbases
    have hshares : ∀ x ∈ ((zones.map (·.2)).map fun b => b * grant / (zones.map (·.2)).sum).zip (zones.map (·.2)), x.1 ≤ x.2 := by
      rw [List.map_map]
      intro x hx
      rw [List.zip_map'] at hx
      obtain ⟨y, -, rfl⟩ := List.mem_map.mp hx
      exact Nat.div_le_of_le_mul (by rw [Nat.mul_comm]; exact Nat.mul_le_mul_right _ hbases)
    have hcaps := topUp_le_caps grant (by simp) hshares
    rw [← htop] at hcaps
    refine (hcap hcaps hlen (by simpa using hi)).trans ?_
    rw [List.getElem_map]
    exact h _ (List.getElem_mem hi)
  · have hle := hcap (allotments_le_demands h hpos hover hbases) hlen (by simpa using hi)
    rwa [List.getElem_map] at hle

theorem Zone.demand_le_rating (zn : Zone) (r : Run) : zn.demand r ≤ zn.rating := by
  unfold Zone.demand
  split
  · exact Nat.zero_le _
  · split
    · split
      · exact Nat.zero_le _
      · exact Nat.min_le_left _ _
    · exact Nat.zero_le _

end Allotments

section ZoneAllotments
variable {s t : State}

theorem zoneNos_getElem : ∀ z : ZoneNo, zoneNos[z.val]'z.isLt = z := by decide

theorem getD_allotments (s : State) (grant : Nat) (z : ZoneNo) :
    (s.allotments grant).getD z 0 ≤ s.heat.zones[z].rating := by
  have hlen : z.val < s.zoneNeeds.length := z.isLt
  have hle := allotment_le_demand (grant := grant) s.basesWithin_zoneNeeds z.val hlen
  have hdemand : s.zoneNeeds[z.val].1 = s.demand z :=
    (congrArg Prod.fst (List.getElem_map (fun y => (s.demand y, s.base y)) (l := zoneNos) (i := z.val) (h := hlen))).trans
      (congrArg s.demand (zoneNos_getElem z))
  rw [hdemand] at hle
  have hget : (s.allotments grant).getD z 0 = (Machine.allotments grant s.zoneNeeds)[z.val]'(by rwa [length_allotments]) :=
    List.getD_eq_getElem _ _ (by rw [s.allotments_eq, length_allotments]; exact hlen)
  rw [hget]
  exact hle.trans (Zone.demand_le_rating _ _)

theorem map_getD {l : List Nat} (h : l.length = 8) : (zoneNos.map fun z => l.getD z 0) = l := by
  match l, h with
  | [_, _, _, _, _, _, _, _], _ => rfl

theorem sum_getD_allotments (s : State) (grant : Nat) : (zoneNos.map fun z => (s.allotments grant).getD z 0).sum ≤ grant := by
  rw [map_getD (by rw [s.allotments_eq, length_allotments]; rfl)]
  exact sum_allotments_le s.basesWithin_zoneNeeds

/-- The allotments under zones alike and the same runs. -/
theorem allotments_of_same (hzones : ∀ z : ZoneNo, s.heat.zones[z].Alike t.heat.zones[z]) (hruns : t.prog.runs = s.prog.runs)
    (grant : Nat) : t.allotments grant = s.allotments grant := by
  unfold State.allotments
  refine congrArg (Machine.allotments grant) (List.map_congr_left fun z _ => ?_)
  unfold State.demand State.base Zone.base
  rw [(hzones z).demand, hruns, (hzones z).floor]

/-! ### Plans (R15, R17, R18) -/

theorem steps_le (zn : Zone) {a : Nat} (h : a ≤ zn.rating) : zn.steps a ≤ 20 := by
  unfold Zone.steps
  split
  · exact Nat.zero_le _
  next hne => exact Nat.div_le_of_le_mul (Nat.mul_le_mul_right 20 h)

theorem length_planFor : ∀ (z : ZoneNo) (n : Fin 21), (planFor z n).length = n := by decide

theorem mem_planFor (z : ZoneNo) (n k : Nat) : k ∈ planFor z n ↔ k < 20 ∧ (k + 20 - 2 * z.val) % 20 < n := by
  have hz := z.isLt
  have hmod : 2 * z.val % 20 = 2 * z.val := Nat.mod_eq_of_lt (by omega)
  unfold planFor
  rw [List.mem_filter, List.mem_range, hmod, decide_eq_true_eq]

/-- R15, R17: the plans of a window start. -/
theorem windowStart_plans (s : State) (z : ZoneNo) :
    (windowStart s).heat.zones[z].plan.length = s.heat.zones[z].steps ((s.allotments s.load.applied).getD z 0) ∧
    ∀ k, k ∈ (windowStart s).heat.zones[z].plan ↔
      (k < 20 ∧ (k + 20 - 2 * z.val) % 20 < s.heat.zones[z].steps ((s.allotments s.load.applied).getD z 0)) := by
  have hle := steps_le s.heat.zones[z] (getD_allotments s s.load.applied z)
  rw [windowStart_zone]
  exact ⟨length_planFor z ⟨_, Nat.lt_succ_of_le hle⟩, mem_planFor z _⟩

theorem windowStart_draw (s : State) : (windowStart s).heat.draw =
    (zoneNos.map fun z => (windowStart s).heat.zones[z].plan.length * s.heat.zones[z].rating).sum / 20 := by
  show drawOf (windowStart s).heat.zones.toList = _
  unfold drawOf
  rw [toList_eq_zoneNos, List.map_map]
  refine congrArg (fun l : List Nat => l.sum / 20) (List.map_congr_left fun z _ => ?_)
  show _ * (windowStart s).heat.zones[z].rating = _
  rw [(windowStart_alike s z).rating]

/-- R17: the plans of a window start draw no more than the applied grant. -/
theorem windowStart_draws (s : State) :
    (zoneNos.map fun z => (windowStart s).heat.zones[z].plan.length * s.heat.zones[z].rating).sum ≤ 20 * s.load.applied := by
  have hzone (z : ZoneNo) : (windowStart s).heat.zones[z].plan.length * s.heat.zones[z].rating ≤
      20 * (s.allotments s.load.applied).getD z 0 := by
    rw [(windowStart_plans s z).1, Nat.mul_comm 20]
    unfold Zone.steps
    split
    next h => simp [h]
    · exact Nat.div_mul_le_self _ _
  calc (zoneNos.map fun z => (windowStart s).heat.zones[z].plan.length * s.heat.zones[z].rating).sum
    _ ≤ (zoneNos.map fun z => 20 * (s.allotments s.load.applied).getD z 0).sum := List.sum_le_sum fun z _ => hzone z
    _ = 20 * (zoneNos.map fun z => (s.allotments s.load.applied).getD z 0).sum := List.sum_map_mul_left ..
    _ ≤ 20 * s.load.applied := Nat.mul_le_mul_left 20 (sum_getD_allotments s _)

theorem length_further (step further : Nat) : (((List.range further).map (step + 1 + ·)).filter (· < 20)).length = min further (19 - step) := by
  induction further with
  | zero => simp
  | succ n ih =>
    rw [List.range_succ, List.map_append, List.filter_append, List.length_append, ih]
    by_cases h : step + 1 + n < 20
    · simp [h]
      omega
    · simp [h]
      omega

/-- R18: a plan re-allotted: the steps begun, then the further ones that fit. -/
theorem replan_plan (zn : Zone) (step allot : Nat) :
    (zn.replan step allot).plan.filter (· ≤ step) = zn.plan.filter (· ≤ step) ∧
    (zn.replan step allot).plan.length = (zn.plan.filter (· ≤ step)).length +
      min (min (zn.steps allot) zn.plan.length - (zn.plan.filter (· ≤ step)).length) (19 - step) ∧
    ∀ k, step < k → (k ∈ (zn.replan step allot).plan ↔
      (k ≤ step + (min (zn.steps allot) zn.plan.length - (zn.plan.filter (· ≤ step)).length) ∧ k < 20)) := by
  refine ⟨(zn.replan_steered step allot).begun, ?_, fun k hk => ?_⟩
  · show (zn.plan.filter (· ≤ step) ++ _).length = _
    rw [List.length_append, length_further]
  · show k ∈ zn.plan.filter (· ≤ step) ++ _ ↔ _
    have hnot : k ∉ zn.plan.filter (· ≤ step) := fun h => by
      have := (List.mem_filter.mp h).2
      simp only [decide_eq_true_eq] at this
      omega
    rw [List.mem_append, or_iff_right hnot, List.mem_filter, List.mem_map]
    simp only [List.mem_range, decide_eq_true_eq]
    constructor
    · rintro ⟨⟨i, hi, rfl⟩, hlt⟩
      exact ⟨by omega, hlt⟩
    · rintro ⟨hle, hlt⟩
      exact ⟨⟨k - (step + 1), by omega, by omega⟩, hlt⟩

theorem reallot_draws (g : Nat) (s : State) : (reallot g s).heat.draw =
    (zoneNos.map fun z => (reallot g s).heat.zones[z].plan.length * s.heat.zones[z].rating).sum / 20 := by
  rw [reallot_draw]
  refine congrArg (fun l : List Nat => l.sum / 20) (List.map_congr_left fun z _ => ?_)
  rw [reallot_zone]
  rfl

end ZoneAllotments

/-! ### The standing derived where nothing is released of itself (R100) -/

/-- The course's record, if any, is not auto-released at this station. -/
def State.Manual (c : CourseNo) (s : State) : Prop := s.isPass = true → ∀ r, s.recOf c = some r → r.auto = false

section Manual
variable {s t : State} {c : CourseNo}

theorem State.Manual.tends (h : s.Manual c) (ht : Tends s t) : t.Manual c := by
  intro hpass r' hr'
  have hpass : s.isPass = true := (congrArg Straps.pass ht.straps).symm.trans hpass
  cases hrec : s.recOf c with
  | none =>
    rw [ht.none hrec] at hr'
    cases hr'
  | some r =>
    obtain ⟨r'', hr'', htends⟩ := ht.record c r hrec
    obtain rfl : r'' = r' := Option.some.inj (hr''.symm.trans hr')
    exact htends.auto.trans (h hpass r hrec)

/-- Runs and zones alike. -/
def SameWork (s t : State) : Prop := t.prog.runs = s.prog.runs ∧ t.heat = s.heat ∧ t.load = s.load

theorem SameWork.trans {u : State} (h : SameWork s t) (h' : SameWork t u) : SameWork s u :=
  ⟨h'.1.trans h.1, h'.2.1.trans h.2.1, h'.2.2.trans h.2.2⟩

theorem sameWork_hand (b : Body) (s : State) : SameWork s (hand b s) :=
  ⟨congrArg Prog.runs (hand_prog b s), hand_heat b s, hand_load b s⟩

theorem sameWork_handCourse (c : CourseNo) (release fire : Bool) (s : State) : SameWork s (handCourse c release fire s) :=
  ⟨congrArg Prog.runs (handCourse_prog ..), handCourse_heat .., handCourse_load ..⟩

theorem sameWork_evalReady (h : s.Manual c) : SameWork s (evalReady c s) := by
  rcases evalReady_cases c s with ⟨-, heq⟩ | ⟨r, hrec, ⟨-, -, hauto⟩ | ⟨-, -, -, heq⟩ | ⟨-, -, heq⟩⟩
  · rw [heq]
    exact ⟨rfl, rfl, rfl⟩
  · rcases hauto with ⟨hpass, hauto, -⟩ | ⟨-, heq⟩
    · exact absurd (hauto.symm.trans (h hpass r hrec)) nofun
    · rw [heq]
      unfold enterReady
      dsimp only
      split <;> exact ⟨rfl, rfl, rfl⟩
  · rw [heq]
    exact ⟨rfl, rfl, rfl⟩
  · rw [heq]
    exact ⟨rfl, rfl, rfl⟩

theorem sameWork_requestHold (h : s.Manual c) (q : Nat) (o : Station) : SameWork s (requestHold c q o s) := by
  rcases requestHold_cases c q o s with ⟨-, heq⟩ | ⟨r, hrec, ⟨-, heq⟩ | ⟨-, heq⟩ | ⟨-, -, heq⟩ | ⟨-, -, heq⟩⟩ <;> rw [heq]
  · exact ⟨rfl, rfl, rfl⟩
  · exact ⟨rfl, rfl, rfl⟩
  · exact ⟨rfl, rfl, rfl⟩
  · exact ⟨rfl, rfl, rfl⟩
  · refine SameWork.trans (t := mapRec c (fun x => { x with state := .fired }) (mapRec c (·.withHold q o) s)) ⟨rfl, rfl, rfl⟩
      (sameWork_evalReady fun hpass r' hr' => ?_)
    rw [recOf_mapRec (f := fun x => { x with state := .fired }) fun _ => rfl, recOf_mapRec (f := (·.withHold q o)) fun _ => rfl, hrec] at hr'
    cases hr'
    exact h hpass r hrec

theorem sameWork_takeStanding (h : s.Manual c) (given : Option (Standing × Nat)) : SameWork s (takeStanding c given s) := by
  unfold takeStanding
  split
  · exact ⟨rfl, rfl, rfl⟩
  · dsimp only
    have htold : SameWork s (handCourse c false false (followOwn c given s)) :=
      SameWork.trans (t := followOwn c given s) ⟨rfl, rfl, rfl⟩ (sameWork_handCourse c false false _)
    have hmanual := h.tends ((tends_followOwn c given s).trans (tends_handCourse c false false _))
    generalize handCourse c false false (followOwn c given s) = u at *
    split
    · exact ⟨rfl, rfl, rfl⟩
    · split
      · exact (htold.trans ((sameWork_requestHold hmanual _ _).trans (sameWork_hand _ _))).trans
          (sameWork_evalReady (hmanual.tends (tends_lateHold c u)))
      · exact htold.trans (sameWork_evalReady hmanual)

theorem sameWork_derive (h : s.Manual c) : SameWork s (derive c s) := by
  rcases derive_cases c s with ⟨-, heq⟩ | ⟨-, heq⟩ <;> rw [heq]
  · exact ⟨rfl, rfl, rfl⟩
  · exact SameWork.trans (t := noteGiven c (s.report c) s) ⟨rfl, rfl, rfl⟩
      (sameWork_takeStanding (s := noteGiven c (s.report c) s) h _)

theorem sameWork_deriveAll (h : ∀ c, s.Manual c) : SameWork s (deriveAll s) := by
  have hfold : SameWork s (deriveAll s) ∧ ∀ c, (deriveAll s).Manual c :=
    foldl_inv (P := fun u => SameWork s u ∧ ∀ c, u.Manual c) _ (fun u c hu =>
      ⟨hu.1.trans (sameWork_derive (hu.2 c)), fun d => (hu.2 d).tends (tends_derive c u)⟩) courseNos s ⟨⟨rfl, rfl, rfl⟩, h⟩
  exact hfold.1

end Manual

/-! ### The step boundary after step 19 -/

section Boundary
variable {s t : State}

theorem begunStep_load (s : State) : s.begunStep.load = s.load := by
  simp only [State.begunStep, nextStep, ageRepeats]
theorem begunStep_course (s : State) : s.begunStep.course = s.course := by
  simp only [State.begunStep, nextStep, ageRepeats]
theorem begunStep_port (s : State) : s.begunStep.port = s.port := by
  simp only [State.begunStep, nextStep, ageRepeats]

theorem OnlyZones.load (h : OnlyZones s t) : t.load = s.load := by rw [h.same]
theorem OnlyZones.course (h : OnlyZones s t) : t.course = s.course := by rw [h.same]
theorem OnlyZones.port (h : OnlyZones s t) : t.port = s.port := by rw [h.same]

/-- The faults of a step boundary, the demand not yet followed. -/
def State.faultedRuns (s : State) : State := zoneNos.foldl (fun s z => faultCheck z s) s.agedStep

theorem faultedStep_eq (s : State) : s.faultedStep = followDemand s.faultedRuns := by
  unfold State.faultedStep State.faultedRuns
  with_reducible rfl

theorem faultedRuns_load (s : State) : s.faultedRuns.load = s.load := by
  have hfold : s.faultedRuns.load = s.agedStep.load := by
    unfold State.faultedRuns
    refine foldl_keeps State.load _ (fun u z => ?_) zoneNos s.agedStep
    rcases faultCheck_cases z u with heq | ⟨e, -, -, heq⟩ <;> rw [heq]
    rw [raise_load, setRun_load]
  rw [hfold, (agedStep_onlyZones s).load, begunStep_load]

theorem faultedRuns_course (s : State) : s.faultedRuns.course = s.course := by
  have hfold : s.faultedRuns.course = s.agedStep.course := by
    unfold State.faultedRuns
    exact foldl_keeps State.course _ (fun u z => faultCheck_course z u) zoneNos s.agedStep
  rw [hfold, (agedStep_onlyZones s).course, begunStep_course]

theorem faultedRuns_isPass (s : State) : s.faultedRuns.isPass = s.isPass := by
  have hfold : s.faultedRuns.kept = s.agedStep.kept := by
    unfold State.faultedRuns
    exact foldl_kept _ (fun u z => faultCheck_kept z u) zoneNos s.agedStep
  have hpass := isPass_of_kept hfold
  unfold State.isPass at hpass ⊢
  rw [hpass, (agedStep_onlyZones s).port, begunStep_port]

/-- The state as the window starts. -/
def State.windowed (s : State) : State := setOutputs (windowStart s.faultedStep)

theorem plannedStep_window (hstep : s.heat.step = 19) : s.plannedStep = s.windowed := by
  have hzero : s.faultedStep.heat.step = 0 := by
    rw [(steers_faultedStep s).step, agedStep_step, hstep]
  unfold State.plannedStep State.windowed
  rw [if_pos hzero]

theorem setOutputs_window_frame (u : State) : (setOutputs (windowStart u)).load = u.load ∧
    (setOutputs (windowStart u)).course = u.course ∧ (setOutputs (windowStart u)).port = u.port ∧
    (setOutputs (windowStart u)).prog = u.prog ∧ (setOutputs (windowStart u)).heat.windowGrant = u.load.applied ∧
    (setOutputs (windowStart u)).heat.draw = (windowStart u).heat.draw := ⟨rfl, rfl, rfl, rfl, rfl, rfl⟩

theorem setOutputs_window_zone (u : State) (z : ZoneNo) :
    (setOutputs (windowStart u)).heat.zones[z].plan = (windowStart u).heat.zones[z].plan ∧
    (setOutputs (windowStart u)).heat.zones[z].allot = (windowStart u).heat.zones[z].allot := by
  unfold setOutputs
  rw [mapZones_zone]
  exact ⟨rfl, rfl⟩

theorem setOutputs_window_alike (u : State) (z : ZoneNo) : u.heat.zones[z].Alike (setOutputs (windowStart u)).heat.zones[z] :=
  (windowStart_alike u z).trans (setOutputs_alike _ z)

theorem windowed_manual (hmanual : ∀ c, s.Manual c) (c : CourseNo) : s.windowed.Manual c := by
  have hpass : s.windowed.isPass = s.isPass := by
    have hframe : s.windowed.port = s.faultedStep.port := (setOutputs_window_frame s.faultedStep).2.2.1
    have hruns := faultedRuns_isPass s
    unfold State.isPass at hruns ⊢
    rw [hframe, faultedStep_eq, followDemand_port, hruns]
  have hcourse : s.windowed.course = s.course := by
    have hframe : s.windowed.course = s.faultedStep.course := (setOutputs_window_frame s.faultedStep).2.1
    rw [hframe, faultedStep_eq, followDemand_course, faultedRuns_course]
  intro hp r hr
  rw [recOf_of_board (congrArg Course.board hcourse)] at hr
  exact hmanual c (hpass ▸ hp) r hr

theorem followDemand_declaredQ (u : State) : (followDemand u).declaredQ = u.declaredQ :=
  declaredQ_of_same (fun z => (lowerGrant_stays _ u z).alike) (by rw [followDemand_prog])

theorem setOutputs_window_declaredQ (u : State) : (setOutputs (windowStart u)).declaredQ = u.declaredQ :=
  declaredQ_of_same (setOutputs_window_alike u) rfl

/-- The demand as the window starts. -/
theorem windowed_load (s : State) : s.windowed.load = { s.load with applied := min s.load.applied s.windowed.declaredQ } := by
  have hload : s.windowed.load = s.faultedStep.load := (setOutputs_window_frame s.faultedStep).1
  have hwindow : s.windowed.declaredQ = s.faultedStep.declaredQ := setOutputs_window_declaredQ s.faultedStep
  have hruns := faultedRuns_load s
  rw [hload, hwindow, faultedStep_eq]
  generalize s.faultedRuns = u at *
  rw [followDemand_declaredQ, followDemand_load, hruns]

/-- R15: a window start where nothing is released of itself: what follows it changes no run, no zone and no grant. -/
theorem windowed_sameWork (hstep : s.heat.step = 19) (hmanual : ∀ c, s.Manual c) : SameWork s.windowed (stepBoundary s) := by
  rw [stepBoundary_eq, plannedStep_window hstep]
  have hderived := sameWork_deriveAll (windowed_manual hmanual)
  have hload := windowed_load s
  generalize s.windowed = w at *
  have hdemand : (deriveAll w).declaredQ = w.declaredQ :=
    declaredQ_of_same (fun z => by rw [hderived.2.1]; exact .refl _) hderived.1
  have hle : (deriveAll w).load.applied ≤ (deriveAll w).declaredQ := by
    rw [hdemand, hderived.2.2]
    exact (congrArg Load.applied hload).trans_le (Nat.min_le_right _ _)
  unfold zonesChanged followDemand
  rw [lowerGrant_of_le hle]
  exact hderived.trans ⟨by rw [evalConveyor_prog], evalConveyor_heat _, evalConveyor_load _⟩

end Boundary

end Sys2Proof.Machine

namespace Sys2Proof.Proofs
open Sys2Proof.Machine

/-- O30: the step boundary after step 19. -/
theorem window_boundary {s : State} (hstep : s.heat.step = 19) (hmanual : ∀ c, s.Manual c) :
    (Machine.stepBoundary s).load.applied = min s.load.applied (Machine.stepBoundary s).declaredQ ∧
    (Machine.stepBoundary s).heat.windowGrant = (Machine.stepBoundary s).load.applied ∧
    (∀ z : ZoneNo,
      (Machine.stepBoundary s).heat.zones[z].allot = ((Machine.stepBoundary s).allotments (Machine.stepBoundary s).load.applied).getD z 0 ∧
      (Machine.stepBoundary s).heat.zones[z].plan.length =
        s.heat.zones[z].steps (((Machine.stepBoundary s).allotments (Machine.stepBoundary s).load.applied).getD z 0) ∧
      ∀ k, k ∈ (Machine.stepBoundary s).heat.zones[z].plan ↔ (k < 20 ∧ (k + 20 - 2 * z.val) % 20 <
        s.heat.zones[z].steps (((Machine.stepBoundary s).allotments (Machine.stepBoundary s).load.applied).getD z 0))) ∧
    (Machine.stepBoundary s).heat.draw =
      (zoneNos.map fun z => (Machine.stepBoundary s).heat.zones[z].plan.length * s.heat.zones[z].rating).sum / 20 := by
  have hsame := windowed_sameWork hstep hmanual
  have halike (z : ZoneNo) : s.heat.zones[z].rating = s.faultedStep.heat.zones[z].rating := by
    rw [((steers_faultedStep s).zone z).alike.rating, agedStep_zone]
    unfold Zone.agedAt
    split <;> rfl
  have hload := windowed_load s
  have hframe : s.windowed = setOutputs (windowStart s.faultedStep) := rfl
  rw [hframe] at hload hsame
  generalize s.faultedStep = u at *
  generalize Machine.stepBoundary s = t at *
  obtain ⟨hruns, hheat, htload⟩ := hsame
  obtain ⟨huload, -, -, huprog, hgrant, hdraw⟩ := setOutputs_window_frame u
  have hzones (z : ZoneNo) : u.heat.zones[z].Alike t.heat.zones[z] := by
    rw [hheat]
    exact setOutputs_window_alike u z
  have hruns : t.prog.runs = u.prog.runs := hruns.trans (congrArg Prog.runs huprog)
  have happlied : t.load.applied = u.load.applied := by rw [htload, huload]
  have hallot : t.allotments t.load.applied = u.allotments u.load.applied := by
    rw [happlied]
    exact allotments_of_same hzones hruns _
  have hsteps (z : ZoneNo) (a : Nat) : s.heat.zones[z].steps a = u.heat.zones[z].steps a := by
    unfold Zone.steps
    rw [halike]
  refine ⟨?_, ?_, fun z => ?_, ?_⟩
  · rw [declaredQ_of_same hzones hruns, htload, hload, setOutputs_window_declaredQ]
  · rw [happlied, hheat, hgrant]
  · obtain ⟨hplan, hallots⟩ := setOutputs_window_zone u z
    obtain ⟨hlength, hmem⟩ := windowStart_plans u z
    rw [hallot, hsteps, hheat, hplan, hallots]
    exact ⟨by rw [windowStart_zone], hlength, hmem⟩
  · rw [hheat, hdraw, windowStart_draw]
    refine congrArg (fun l : List Nat => l.sum / 20) (List.map_congr_left fun z _ => ?_)
    rw [(setOutputs_window_zone u z).1, halike]

/-- Settles O30. -/
theorem windowStart : Obligations.WindowStart := by
  have hwindow {s : State} (hreset : s.inReset = false) : exec .windowStart s =
      .next (if s.heat.step = 19 then Machine.stepBoundary s else s) := unlessReset_of_not_inReset hreset _
  refine ⟨fun s hreset hstep => (hwindow hreset).trans (congrArg _ (if_neg hstep)), fun s hreset hstep => ?_, ?_, ?_⟩
  · refine ⟨_, (hwindow hreset).trans (congrArg _ (if_pos hstep)), ?_, settings_of_kept (stepBoundary_kept s),
      unlessReset_of_not_inReset hreset _, fun hmanual => ?_⟩
    · rw [stepBoundary_step, hstep]
    · refine window_boundary hstep fun c hpass r hr => ?_
      rcases hmanual with hnot | hnone
      · exact absurd (hpass.symm.trans hnot) nofun
      · exact hnone r (recOf_some hr).1
  · intro s t
    refine ⟨rfl, ?_, windowStart_draw s, windowStart_draws s⟩
    intro z p a n
    obtain ⟨hlength, hmem⟩ := windowStart_plans s z
    exact ⟨by rw [windowStart_zone], hlength, hmem⟩
  · intro s grant t step
    have hcases : (s.heat.windowGrant ≤ grant ∧ t = { s with load := { s.load with applied := grant } }) ∨
      (grant < s.heat.windowGrant ∧ t = reallot grant { s with load := { s.load with applied := grant } }) := applyGrant_cases grant s
    refine ⟨fun hle => ?_, fun hlt => ?_⟩
    · exact (hcases.resolve_right fun h => absurd h.1 (Nat.not_lt.mpr hle)).2
    · have ht := (hcases.resolve_left fun h => absurd h.1 (Nat.not_le.mpr hlt)).2
      rw [ht]
      refine ⟨rfl, ?_, reallot_draws grant { s with load := { s.load with applied := grant } }⟩
      intro z p a n begun
      obtain ⟨hbegun, hlength, hmem⟩ := replan_plan s.heat.zones[z] s.heat.step ((s.allotments grant).getD z 0)
      rw [reallot_zone]
      exact ⟨rfl, hbegun, hlength, hmem⟩

end Sys2Proof.Proofs

/-! SUPPORT. How many notices the loss of peers can hand: no more than there are records that it may release, and pages that it may
take out of DEFERRED. -/

namespace Sys2Proof.Machine

section Burden
variable {s t u : State} {c : CourseNo} {r : CourseRec}

/-- The records not RELEASED. -/
def State.unreleased (s : State) : Nat := s.course.board.countP fun r => r.state != .released

/-- The pages DEFERRED. -/
def State.deferredPages (s : State) : Nat := s.page.pages.countP fun p => p.state == .deferred

/-- The notices of the queue, with one for each record that may be released and each page that may leave DEFERRED. -/
def State.burden (s : State) : Nat := s.bus.queue.length + s.unreleased + s.deferredPages

/-- What hands no more notices than it releases records and takes pages out of DEFERRED, where the queue has room for them. -/
structure Eases (s t : State) : Prop where
  courses : t.course.board.map (·.course) = s.course.board.map (·.course)
  burden : (s.course.board.map (·.course)).Nodup → s.burden ≤ 12 → t.burden ≤ s.burden

theorem Eases.refl (s : State) : Eases s s := ⟨rfl, fun _ _ => Nat.le_refl _⟩

theorem Eases.trans (h : Eases s t) (h' : Eases t u) : Eases s u where
  courses := h'.courses.trans h.courses
  burden hnodup hroom := by
    have ht := h.burden hnodup hroom
    have hu := h'.burden (h.courses ▸ hnodup) (by omega)
    omega

theorem Eases.of_same (hqueue : t.bus.queue = s.bus.queue) (hcourse : t.course = s.course) (hpages : t.page.pages = s.page.pages) :
    Eases s t := by
  refine ⟨by rw [hcourse], fun _ _ => ?_⟩
  unfold State.burden State.unreleased State.deferredPages
  rw [hqueue, hcourse, hpages]

theorem deferredPages_of_steady (h : t.steady = s.steady) : t.deferredPages = s.deferredPages := by
  have hcount (v : State) : v.deferredPages = v.steady.pages.countP fun p => p.state == .deferred := by
    show _ = (v.page.pages.map fun p => { p with current := none }).countP _
    rw [List.countP_map]
    rfl
  rw [hcount, hcount, h]

theorem hand_length (b : Body) (hroom : s.bus.queue.length < 12) : (hand b s).bus.queue.length ≤ s.bus.queue.length + 1 := by
  rcases hand_cases b s with ⟨-, heq⟩ | ⟨-, ⟨old, -, heq⟩ | ⟨-, ⟨-, heq⟩ | ⟨hfull, -⟩⟩⟩
  · rw [heq]
    omega
  · rw [heq]
    show (s.bus.queue.map _).length ≤ _
    rw [List.length_map]
    omega
  · rw [heq, wake_queue]
    show (s.bus.queue ++ [s.newEntry b]).length ≤ _
    rw [List.length_append]
    exact Nat.le_refl _
  · omega

/-! ### Records -/

theorem unreleased_of_board (h : t.course.board = s.course.board) : t.unreleased = s.unreleased := by
  unfold State.unreleased
  rw [h]

theorem unreleased_mapRec {f : CourseRec → CourseRec} (hf : ∀ r, (f r).state = r.state) (s : State) :
    (mapRec c f s).unreleased = s.unreleased := by
  unfold State.unreleased mapRec
  rw [List.countP_map]
  refine congrArg (fun p => s.course.board.countP p) (funext fun r => ?_)
  show ((if r.course = c then f r else r).state != .released) = (r.state != .released)
  split
  · rw [hf]
  · rfl

/-- One record changed: the count follows its own change. -/
theorem unreleased_mapRec_at {f : CourseRec → CourseRec} (hnodup : (s.course.board.map (·.course)).Nodup)
    (hrec : s.recOf r.course = some r) : (mapRec r.course f s).unreleased + (if r.state != .released then 1 else 0) =
      s.unreleased + (if (f r).state != .released then 1 else 0) := by
  obtain ⟨l1, l2, hsplit, -, hmap⟩ := split_at hnodup (recOf_some hrec).1
  unfold State.unreleased mapRec
  dsimp only
  rw [hmap f, hsplit, List.countP_append, List.countP_append, List.countP_cons, List.countP_cons]
  omega

theorem enterReady_fields (r : CourseRec) (s : State) : (enterReady r s).bus = s.bus ∧
    (enterReady r s).course.board = (mapRec r.course (fun x => { x with state := .ready, readyRaised := true }) s).course.board := by
  unfold enterReady
  dsimp only
  split <;> exact ⟨rfl, rfl⟩

/-- R101: a record released hands one notice at most. -/
theorem releaseRec_burden {st : Station} {isLocal : Bool} (hrec : s.recOf r.course = some r) (hstate : r.state ≠ .released)
    (hnodup : (s.course.board.map (·.course)).Nodup) (hroom : s.bus.queue.length < 12) :
    (releaseRec r st isLocal s).bus.queue.length + (releaseRec r st isLocal s).unreleased ≤ s.bus.queue.length + s.unreleased := by
  have hentered : (enterReleased r s).unreleased + 1 = s.unreleased := by
    have h := unreleased_mapRec_at (f := (·.releasedAt s.course.clock s.releasedCount)) hnodup hrec
    rw [if_pos (by simpa using hstate)] at h
    exact h
  have hnews : (releaseNews r st (enterReleased r s)).unreleased = (enterReleased r s).unreleased :=
    unreleased_of_board (releaseNews_board r st _)
  have hbus : (releaseNews r st (enterReleased r s)).bus = s.bus := releaseNews_bus r st _
  have hrest (v : State) : (followDemand (regiven r.course v)).bus = v.bus ∧ (followDemand (regiven r.course v)).unreleased = v.unreleased :=
    ⟨followDemand_bus _, (unreleased_of_board (congrArg Course.board (followDemand_course _))).trans
      (unreleased_mapRec (f := (·.withOwn v.own (v.report r.course))) (fun _ => rfl) v)⟩
  rw [releaseRec_eq, (hrest _).1, (hrest _).2]
  generalize releaseNews r st (enterReleased r s) = v at *
  rw [← hbus] at hroom ⊢
  cases isLocal with
  | false =>
    show v.bus.queue.length + v.unreleased ≤ _
    omega
  | true =>
    show (handCourse r.course true false v).bus.queue.length + (handCourse r.course true false v).unreleased ≤ _
    cases hv : v.recOf r.course with
    | none =>
      rw [handCourse_none true false hv]
      omega
    | some x =>
      rw [handCourse_eq true false hv, unreleased_of_board (congrArg Course.board (hand_course _ _)),
        unreleased_mapRec (f := (·.told v.own false)) fun _ => rfl]
      have := hand_length (s := mapRec r.course (·.told v.own false) v) (v.courseNotice x true false) hroom
      have hsame : (mapRec r.course (·.told v.own false) v).bus = v.bus := rfl
      rw [hsame] at this
      omega

theorem eases_evalReady (c : CourseNo) (s : State) : Eases s (evalReady c s) := by
  refine ⟨(tends_evalReady c s).courses, fun hnodup hroom => ?_⟩
  have hdeferred := deferredPages_of_steady (evalReady_steady c s)
  unfold State.burden at hroom ⊢
  rw [hdeferred]
  rcases evalReady_cases c s with ⟨-, heq⟩ | ⟨r, hrec, ⟨hfired, -, h⟩ | ⟨-, hready, -, heq⟩ | ⟨-, -, heq⟩⟩
  · rw [heq]
  · obtain rfl := (recOf_some hrec).2
    obtain ⟨hbus, hboard⟩ := enterReady_fields r s
    have hentered : (enterReady r s).unreleased = s.unreleased := by
      rw [unreleased_of_board hboard]
      have h := unreleased_mapRec_at (f := fun x => { x with state := .ready, readyRaised := true }) hnodup hrec
      rw [if_pos (by rw [hfired]; rfl)] at h
      exact Nat.add_right_cancel h
    rcases h with ⟨-, -, heq⟩ | ⟨-, heq⟩ <;> rw [heq]
    · have hstands := recOf_enterReady hrec
      rw [releaseCourse_eq _ _ hstands nofun]
      have hcourses : ((enterReady r s).course.board.map (·.course)).Nodup := by
        rw [hboard, courses_mapRec (f := fun x => { x with state := .ready, readyRaised := true }) fun _ => rfl]
        exact hnodup
      have hpos : 0 < s.unreleased := List.countP_pos_iff.mpr ⟨r, (recOf_some hrec).1, by rw [hfired]; rfl⟩
      have hle := releaseRec_burden (r := { r with state := .ready, readyRaised := true }) (st := s.own) (isLocal := true) hstands nofun
        hcourses (by rw [hbus]; omega)
      rw [hentered, hbus] at hle
      omega
    · rw [hentered, hbus]
  · obtain rfl := (recOf_some hrec).2
    have h := unreleased_mapRec_at (f := fun x => { x with state := .fired, readyRaised := false }) hnodup hrec
    rw [if_pos (by rw [hready]; rfl)] at h
    rw [heq, Nat.add_right_cancel h]
    exact Nat.le_refl _
  · rw [heq]

theorem eases_loseMember (st : Station) (c : CourseNo) (s : State) : Eases s (loseMember st c s) := by
  cases hrec : s.recOf c with
  | none =>
    rw [loseMember_none hrec]
    exact .refl s
  | some r =>
    obtain rfl := (recOf_some hrec).2
    have hdropped {v : State} (hqueue : v.bus.queue = s.bus.queue) (hpages : v.page.pages = s.page.pages)
        (hboard : v.course.board = (mapRec r.course (fun x => { x with members := dropMember st r.members }) s).course.board) :
        Eases s v := by
      refine ⟨?_, fun _ _ => ?_⟩
      · rw [hboard]
        exact courses_mapRec (f := fun x => { x with members := dropMember st r.members }) (fun _ => rfl) s
      · unfold State.burden State.deferredPages
        rw [unreleased_of_board hboard, unreleased_mapRec (f := fun x => { x with members := dropMember st r.members }) fun _ => rfl,
          hqueue, hpages]
    rcases loseMember_cases (st := st) hrec with ⟨-, heq⟩ | ⟨-, -, heq⟩ | ⟨-, -, heq⟩ <;> rw [heq]
    · exact .refl s
    · exact hdropped rfl rfl rfl
    · exact Eases.trans (t := bereave st r s) (hdropped rfl rfl rfl) (eases_evalReady _ _)

theorem eases_loseMembers (st : Station) (s : State) : Eases s (loseMembers st s) :=
  foldl_inv (P := Eases s) _ (fun u c hu => hu.trans (eases_loseMember st c u)) s.boardCourses s (.refl s)

/-! ### Pages -/

theorem placePage_length (n : Nat) (hroom : s.bus.queue.length < 12) : (placePage n s).bus.queue.length ≤ s.bus.queue.length + 1 := by
  unfold placePage
  split
  · omega
  · split
    · exact Nat.le_succ _
    · unfold queuePage offerPage
      split
      · exact Nat.le_succ _
      · exact hand_length (s := mapPage n (fun p => { p with state := .queued, timer := 0, current := none }) s) _ hroom

theorem foldl_undefer_length (ns : List Nat) (s : State) (hroom : s.bus.queue.length + ns.length ≤ 12) :
    (ns.foldl (fun s n => undefer n s) s).bus.queue.length ≤ s.bus.queue.length + ns.length := by
  induction ns generalizing s with
  | nil => exact Nat.le_refl _
  | cons n ns ih =>
    rw [List.length_cons] at hroom ⊢
    have hone : (undefer n s).bus.queue.length ≤ s.bus.queue.length + 1 := placePage_length n (by omega)
    have hrest := ih (undefer n s) (by omega)
    rw [List.foldl_cons]
    omega

theorem eases_mapWash (f : List WashEntry → List WashEntry) (s : State) : Eases s (mapWash f s) := by
  have hcourse := (mapWash_fields f s).2.course
  refine ⟨by rw [hcourse], fun _ hroom => ?_⟩
  have hrecords := unreleased_of_board (congrArg Course.board hcourse)
  unfold State.burden at hroom ⊢
  rw [hrecords]
  unfold mapWash watchBacklog
  dsimp only
  split
  · have hcount : ((mapWare (fun w => { w with wash := f w.wash }) s).pagesWhere (·.state == .deferred)).length = s.deferredPages := by
      unfold State.pagesWhere State.deferredPages
      rw [List.length_map, List.countP_eq_length_filter]
      rfl
    have hlength := foldl_undefer_length ((mapWare (fun w => { w with wash := f w.wash }) s).pagesWhere (·.state == .deferred))
      (mapWare (fun w => { w with wash := f w.wash }) s) (by rw [hcount]; show s.bus.queue.length + _ ≤ 12; omega)
    have hnone := (foldl_undefer ((mapWare (fun w => { w with wash := f w.wash }) s).pagesWhere (·.state == .deferred))
      (mapWare (fun w => { w with wash := f w.wash }) s)).2 fun p hp hstate =>
        List.mem_map_of_mem (f := (·.number)) (List.mem_filter.mpr ⟨hp, by simp [hstate]⟩)
    rw [hcount] at hlength
    have hqueue : (mapWare (fun w => { w with wash := f w.wash }) s).bus = s.bus := rfl
    rw [hqueue] at hlength
    have hzero : (undeferAll (mapWare (fun w => { w with wash := f w.wash }) s)).deferredPages = 0 := by
      unfold State.deferredPages
      rw [List.countP_eq_zero]
      intro p hp
      simpa using hnone p hp
    rw [hzero]
    have hfold : (undeferAll (mapWare (fun w => { w with wash := f w.wash }) s)).bus.queue.length ≤ s.bus.queue.length + s.deferredPages :=
      hlength
    omega
  · exact Nat.le_refl _

/-! ### Peers -/

theorem eases_peerLost (st : Station) (s : State) : Eases s (peerLost st s) := by
  obtain ⟨-, hcourse, -, hbus, hpage, -⟩ := testMismatch_frame (mapWash (dropWash st) (loseMembers st s))
  exact ((eases_loseMembers st s).trans (eases_mapWash _ _)).trans
    (.of_same (congrArg Bus.queue hbus) hcourse (congrArg PageBlock.pages hpage))

theorem tellIfEmpty_eases (s : State) : Eases s (tellIfEmpty s) := by
  unfold tellIfEmpty tableEmptied
  split
  · split
    next hlink =>
      rw [changeLink_of_not_listen (by rw [hlink]; nofun)]
      exact .of_same (by rw [relink_bus]) (relink_course _ _) (by rw [relink_page])
    · exact .refl s
  · exact .refl s

theorem eases_ageTable (s : State) : Eases s (ageTable s) := by
  have hfold (l : List Station) (v : State) (hv : Eases s v) : Eases s (l.foldl (fun s st => peerLost st s) v) :=
    foldl_inv (P := Eases s) _ (fun u st hu => hu.trans (eases_peerLost st u)) l v hv
  have hstart : Eases s { s with load := { s.load with
      peers := ((s.load.peers.map Peer.aged).filter (·.missed < 3)).map fun p => { p with heard := false } } } := .of_same rfl rfl rfl
  unfold ageTable
  dsimp only
  split
  · exact hfold _ _ hstart
  · exact (hfold _ _ hstart).trans (tellIfEmpty_eases _)

theorem changeLink_length (l : LinkState) (hroom : s.bus.queue.length < 12) :
    (changeLink l s).bus.queue.length ≤ s.bus.queue.length + 1 := by
  have hqueue : (relink l s).bus.queue = s.bus.queue := by rw [relink_bus]
  rw [changeLink_eq]
  split
  · have h := hand_length (s := mapWare (fun w => { w with repeatCount := 0 }) (relink l s)) (relink l s).wareNotice
      (by show (relink l s).bus.queue.length < 12; rw [hqueue]; exact hroom)
    exact h.trans (by show (relink l s).bus.queue.length + 1 ≤ _; rw [hqueue])
  · rw [hqueue]
    exact Nat.le_succ _

theorem countListen_length (hroom : s.bus.queue.length < 12) : (countListen s).bus.queue.length ≤ s.bus.queue.length + 1 := by
  unfold countListen
  split
  next hlink =>
    dsimp only
    split
    · unfold endListen
      rw [if_pos hlink]
      exact changeLink_length (s := { s with load := { s.load with listenCount := s.load.listenCount + 1 } }) _ hroom
    · exact Nat.le_succ _
  · exact Nat.le_succ _

end Burden

end Sys2Proof.Machine

/-! A load-period expiry (R42, R45–R48, R53–R57), for O47: the table aged and the listen interval counted. -/

namespace Sys2Proof.Machine

/-! ### What the loss of peers leaves -/

/-- What the loss of peers leaves of the step, the clock, the schedule, the relay and the load block's figures: the applied grant does
not rise. -/
structure Wears (s t : State) : Prop where
  kept : t.kept = s.kept
  step : t.heat.step = s.heat.step
  clock : t.course.clock = s.course.clock
  schedule : t.course.schedule = s.course.schedule
  relay : t.relay = s.relay
  load : ∃ g a m, a ≤ s.load.applied ∧ t.load = { s.load with grant := g, applied := a, mismatch := m }

section Wears
variable {s t u : State} {k : Kind} {K : Kind → Prop} {p : Peer}

theorem Wears.refl (s : State) : Wears s s := ⟨rfl, rfl, rfl, rfl, rfl, _, _, _, Nat.le_refl _, rfl⟩

theorem Wears.trans (h : Wears s t) (h' : Wears t u) : Wears s u where
  kept := h'.kept.trans h.kept
  step := h'.step.trans h.step
  clock := h'.clock.trans h.clock
  schedule := h'.schedule.trans h.schedule
  relay := h'.relay.trans h.relay
  load := by
    obtain ⟨g, a, m, hle, hload⟩ := h.load
    obtain ⟨g', a', m', hle', hload'⟩ := h'.load
    rw [hload] at hle' hload'
    exact ⟨g', a', m', hle'.trans hle, hload'⟩

theorem Move.reacts_applied (hsingle : k.single) (hk : posting k ∧ k ≠ .ramp) (hmove : Move k s t) : t.load.applied ≤ s.load.applied := by
  cases hmove
  case take => simp
  case add => simp
  case grant => rw [lowerGrant_load]; exact Nat.min_le_left _ _
  case drive => simp
  case link => rw [relink_load]; exact Nat.min_le_left _ _
  case load l h _ => exact h.applied.le
  case ramp => exact absurd rfl hk.2
  case event | report | latch | count | given | record | enterReleased | clearing | run | done | ware | page | request | peers | unpeer
      | compute => exact Nat.le_refl _
  case release => exact hsingle.elim
  all_goals exact hk.1.elim

theorem whole_unramped_posting : Whole fun k => posting k ∧ k ≠ .ramp where
  release _ _ k hk := by
    cases k
    case ramp => exact hk.elim
    all_goals first | exact ⟨trivial, nofun⟩ | exact hk.elim
  leaving h := h.1.elim

/-- The applied grant does not rise but by the ramp. -/
theorem Reach.applied_le (hK : Admits (fun k => posting k ∧ k ≠ .ramp) K) (h : Reach K s t) : t.load.applied ≤ s.load.applied :=
  (h.mono (K' := fun k => posting k ∧ k ≠ .ramp) fun _ hk => hK hk).keepsWhole (P := fun u => u.load.applied ≤ s.load.applied)
    whole_unramped_posting (fun hsingle hk hmove hs => (hmove.reacts_applied hsingle hk).trans hs) (Nat.le_refl _)

theorem wears_loseMembers (st : Station) (s : State) : Wears s (loseMembers st s) := by
  have hsteady := loseMembers_steady st s
  have hload : ({ (loseMembers st s).load with applied := 0 } : Load) = { s.load with applied := 0 } := congrArg Steady.load hsteady
  have hle : (loseMembers st s).load.applied ≤ s.load.applied :=
    (Reach.loseMembers (K := reacts) (fun _ hk => hk) st .refl).applied_le fun k hk => by
      cases k
      case ramp => exact hk.elim
      all_goals first | exact ⟨trivial, nofun⟩ | exact hk.elim
  refine ⟨loseMembers_kept st s, congrArg Steady.step hsteady, congrArg Steady.clock hsteady, congrArg Steady.schedule hsteady,
    congrArg Steady.relay hsteady, s.load.grant, (loseMembers st s).load.applied, s.load.mismatch, hle, ?_⟩
  exact congrArg (fun l : Load => { l with applied := (loseMembers st s).load.applied }) hload

theorem wears_mapWash (f : List WashEntry → List WashEntry) (s : State) : Wears s (mapWash f s) := by
  have h := (mapWash_fields f s).2
  exact ⟨mapWash_kept f s, by rw [h.heat], by rw [h.course], by rw [h.course], h.relay, s.load.grant, s.load.applied, s.load.mismatch,
    Nat.le_refl _, h.load⟩

theorem wears_testMismatch (s : State) : Wears s (testMismatch s) := by
  unfold testMismatch
  split
  · split
    · exact .refl s
    · have hset : Wears s { s with load := { s.load with mismatch := true } } :=
        ⟨rfl, rfl, rfl, rfl, rfl, _, _, _, Nat.le_refl _, rfl⟩
      dsimp only
      split
      · exact hset
      · exact hset.trans ⟨raise_kept _ _, rfl, rfl, rfl, rfl, _, _, _, Nat.le_refl _, rfl⟩
  · exact ⟨rfl, rfl, rfl, rfl, rfl, _, _, _, Nat.le_refl _, rfl⟩

theorem wears_peerLost (st : Station) (s : State) : Wears s (peerLost st s) :=
  ((wears_loseMembers st s).trans (wears_mapWash _ _)).trans (wears_testMismatch _)

theorem wears_changeLink (l : LinkState) (s : State) : Wears s (changeLink l s) := by
  have hrelay : (changeLink l s).relay = s.relay := by
    rw [changeLink_eq]
    split
    · exact (hand_relay _ _).trans (relink_relay _ _)
    · exact relink_relay _ _
  have hstep : (changeLink l s).heat.step = s.heat.step := by
    rw [changeLink_eq]
    split
    · unfold handWare
      rw [hand_heat]
      exact relink_heat_step _ _
    · exact relink_heat_step _ _
  obtain ⟨hload, -, hcourse, -⟩ := changeLink_frame l s
  refine ⟨changeLink_kept l s, hstep, by rw [hcourse], by rw [hcourse], hrelay, _, _, s.load.mismatch, ?_, hload.trans (relink_load l s)⟩
  exact Nat.min_le_left _ _

theorem wears_tellIfEmpty (s : State) : Wears s (tellIfEmpty s) := by
  unfold tellIfEmpty tableEmptied
  split
  · split
    · exact wears_changeLink _ _
    · exact .refl s
  · exact .refl s

/-! ### The table aged (R46) -/

/-- R46: the peers that stay at an expiry. -/
def State.peersAged (s : State) : List Peer := ((s.load.peers.map Peer.aged).filter (·.missed < 3)).map fun p => { p with heard := false }

/-- R46: the table aged, no loss told yet. -/
def State.thinned (s : State) : State := { s with load := { s.load with peers := s.peersAged } }

/-- R46: the stations lost at an expiry. -/
def State.peersLost (s : State) : List Station := ((s.load.peers.map Peer.aged).filter (3 ≤ ·.missed)).map (·.station)

/-- R46: the losses told. -/
def State.bereaved (s : State) : State := s.peersLost.foldl (fun s st => peerLost st s) s.thinned

theorem ageTable_eq (s : State) : ageTable s = if s.peersLost.isEmpty then s.bereaved else tellIfEmpty s.bereaved := rfl

theorem wears_bereaved (s : State) : Wears s.thinned s.bereaved :=
  foldl_inv (P := Wears s.thinned) _ (fun u st hu => hu.trans (wears_peerLost st u)) s.peersLost s.thinned (.refl _)

theorem bereaved_link (s : State) : s.bereaved.bus.link = s.bus.link := by
  refine foldl_keeps (fun s : State => s.bus.link) _ (fun u st => ?_) s.peersLost s.thinned
  show (testMismatch (mapWash (dropWash st) (loseMembers st u))).bus.link = _
  obtain ⟨-, -, -, hbus, -, -⟩ := testMismatch_frame (mapWash (dropWash st) (loseMembers st u))
  rw [hbus, (mapWash_fields _ _).2.link]
  exact link_of_steady (loseMembers_steady st u)

theorem wears_ageTable (s : State) : Wears s.thinned (ageTable s) := by
  rw [ageTable_eq]
  split
  · exact wears_bereaved s
  · exact (wears_bereaved s).trans (wears_tellIfEmpty _)

theorem ageTable_listen (hlink : s.bus.link = .listen) : (ageTable s).bus.link = .listen := by
  have hbereaved := (bereaved_link s).trans hlink
  rw [ageTable_eq]
  split
  · exact hbereaved
  · obtain ⟨-, -, -, htold⟩ := tellIfEmpty_frame s.bereaved
    rw [htold, hbereaved]
    exact if_neg fun h => nomatch h.1

/-- R46: where no peer is lost the ageing changes the table alone. -/
theorem ageTable_calm (h : ∀ p ∈ s.load.peers, p.aged.missed < 3) : ageTable s = s.thinned := by
  have hlost : s.peersLost = [] := by
    unfold State.peersLost
    rw [List.filter_eq_nil_iff.mpr fun x hx => ?_, List.map_nil]
    obtain ⟨p, hp, rfl⟩ := List.mem_map.mp hx
    have := h p hp
    simpa using this
  rw [ageTable_eq, hlost]
  unfold State.bereaved
  rw [hlost]
  rfl

/-- R46: a peer's figures after an expiry. -/
theorem peersAged_figures (hranges : ∀ p ∈ s.load.peers, p.missed ≤ 2) :
    s.peersAged.map (fun p => (p.station, p.q, p.f, p.w, p.d, p.l, p.missed, p.heard)) =
      (s.load.peers.filter fun p => p.heard || decide (p.missed < 2)).map fun p =>
        (p.station, p.q, p.f, p.w, p.d, p.l, if p.heard then p.missed else p.missed + 1, false) := by
  unfold State.peersAged
  generalize s.load.peers = l at *
  induction l with
  | nil => rfl
  | cons p l ih =>
    have hp := hranges p (List.mem_cons_self ..)
    have hl := ih fun x hx => hranges x (List.mem_cons_of_mem _ hx)
    have haged : (decide (p.aged.missed < 3)) = (p.heard || decide (p.missed < 2)) := by
      unfold Peer.aged
      cases p.heard with
      | true => simpa using Nat.lt_succ_of_le hp
      | false =>
        show decide (p.missed + 1 < 3) = decide (p.missed < 2)
        exact decide_eq_decide.mpr (by omega)
    rw [List.map_cons, List.filter_cons, List.filter_cons, haged]
    cases hkeep : (p.heard || decide (p.missed < 2)) with
    | false => exact hl
    | true =>
      simp only [if_true, List.map_cons]
      refine congrArg₂ List.cons ?_ hl
      unfold Peer.aged
      cases hheard : p.heard <;> simp [hheard]

/-! ### The listen interval (R45) -/

/-- R42, R47: the table aged, the clash episode tested. -/
def State.aged (s : State) : State := { ageTable s with load := (ageTable s).load.endClash }

/-- R47: the state as the grant is computed. -/
def State.listened (s : State) : State := countListen s.aged

theorem loadPeriodFigures_eq (s : State) : loadPeriodFigures s = testCurtailed (computeGrant s.listened) := rfl

theorem countListen_cases (s : State) : (s.bus.link ≠ .listen ∧ countListen s = s) ∨
    (s.bus.link = .listen ∧ s.load.listenCount < 2 ∧
      countListen s = { s with load := { s.load with listenCount := s.load.listenCount + 1 } }) ∨
    (s.bus.link = .listen ∧ 2 ≤ s.load.listenCount ∧ countListen s = changeLink (if s.load.peers.isEmpty then .alone else .joined)
      { s with load := { s.load with listenCount := s.load.listenCount + 1 } }) := by
  unfold countListen endListen
  by_cases hlink : s.bus.link = .listen
  · rw [if_pos hlink]
    dsimp only
    by_cases hcount : s.load.listenCount < 2
    · exact .inr (.inl ⟨hlink, hcount, if_neg (by omega)⟩)
    · exact .inr (.inr ⟨hlink, by omega, (if_pos (by omega)).trans (if_pos hlink)⟩)
  · exact .inl ⟨hlink, if_neg hlink⟩

/-- What the expiry leaves of the load block as the grant is computed. -/
structure Listens (s u : State) : Prop where
  kept : u.kept = s.kept
  step : u.heat.step = s.heat.step
  clock : u.course.clock = s.course.clock
  schedule : u.course.schedule = s.course.schedule
  relay : u.relay = s.relay
  load : ∃ g a m n, a ≤ s.load.applied ∧ u.load =
    { s.load.endClash with peers := s.peersAged, grant := g, applied := a, mismatch := m, listenCount := n }

theorem listens (s : State) : Listens s s.listened := by
  have hworn := wears_ageTable s
  obtain ⟨g, a, m, hle, hload⟩ := hworn.load
  have haged : s.aged.load = { s.load.endClash with peers := s.peersAged, grant := g, applied := a, mismatch := m } := by
    show (ageTable s).load.endClash = _
    rw [hload]
    rfl
  unfold State.listened
  rcases countListen_cases s.aged with ⟨-, heq⟩ | ⟨-, -, heq⟩ | ⟨-, -, heq⟩ <;> rw [heq]
  · exact ⟨hworn.kept, hworn.step, hworn.clock, hworn.schedule, hworn.relay, g, a, m, s.load.listenCount, hle, haged⟩
  · exact ⟨hworn.kept, hworn.step, hworn.clock, hworn.schedule, hworn.relay, g, a, m, s.aged.load.listenCount + 1, hle, by rw [haged]⟩
  · have hmoved := wears_changeLink (if s.aged.load.peers.isEmpty then .alone else .joined)
      { s.aged with load := { s.aged.load with listenCount := s.aged.load.listenCount + 1 } }
    obtain ⟨g', a', m', hle', hload'⟩ := hmoved.load
    refine ⟨hmoved.kept.trans hworn.kept, hmoved.step.trans hworn.step, hmoved.clock.trans hworn.clock,
      hmoved.schedule.trans hworn.schedule, hmoved.relay.trans hworn.relay, g', a', m', s.aged.load.listenCount + 1, ?_, ?_⟩
    · refine hle'.trans ?_
      show s.aged.load.applied ≤ _
      rw [haged]
      exact hle
    · rw [hload', haged]

theorem listened_short (hlink : s.bus.link = .listen) (hcount : s.load.listenCount < 2) :
    s.listened.bus.link = .listen ∧ s.listened.load.listenCount = s.load.listenCount + 1 := by
  have hlisten : s.aged.bus.link = .listen := ageTable_listen hlink
  have hsame : s.aged.load.listenCount = s.load.listenCount := by
    obtain ⟨g, a, m, -, hload⟩ := (wears_ageTable s).load
    show (ageTable s).load.listenCount = _
    rw [hload]
    rfl
  unfold State.listened
  rcases countListen_cases s.aged with ⟨hnot, -⟩ | ⟨-, -, heq⟩ | ⟨-, hge, -⟩
  · exact absurd hlisten hnot
  · rw [heq, ← hsame]
    exact ⟨hlisten, rfl⟩
  · omega

theorem listened_ends (hlink : s.bus.link = .listen) (hcount : s.load.listenCount = 2) :
    s.listened.bus.link = if s.peersAged.isEmpty then .alone else .joined := by
  have hlisten : s.aged.bus.link = .listen := ageTable_listen hlink
  obtain ⟨g, a, m, -, hload⟩ := (wears_ageTable s).load
  have hsame : s.aged.load.listenCount = s.load.listenCount := by
    show (ageTable s).load.listenCount = _
    rw [hload]
    rfl
  have hpeers : s.aged.load.peers = s.peersAged := by
    show (ageTable s).load.peers = _
    rw [hload]
    rfl
  unfold State.listened
  rcases countListen_cases s.aged with ⟨hnot, -⟩ | ⟨-, hlt, -⟩ | ⟨-, -, heq⟩
  · exact absurd hlisten hnot
  · omega
  · rw [heq, (changeLink_frame _ _).2.2.2, hpeers]

/-- R46, R62: an expiry at which no peer is lost and the link does not move. -/
theorem listened_calm (hpeers : ∀ p ∈ s.load.peers, p.aged.missed < 3) (hlink : ¬(s.bus.link = .listen ∧ 2 ≤ s.load.listenCount)) :
    ∃ n, s.listened = { s with load := { s.load.endClash with peers := s.peersAged, listenCount := n } } := by
  have haged : s.aged = { s with load := { s.load.endClash with peers := s.peersAged } } := by
    unfold State.aged
    rw [ageTable_calm hpeers]
    rfl
  unfold State.listened
  rw [haged]
  rcases countListen_cases { s with load := { s.load.endClash with peers := s.peersAged } } with ⟨-, heq⟩ | ⟨-, -, heq⟩ | ⟨hl, hc, -⟩
  · exact ⟨s.load.listenCount, heq⟩
  · exact ⟨_, heq⟩
  · exact absurd ⟨hl, hc⟩ hlink

end Wears

end Sys2Proof.Machine

/-! A load-period expiry (R42, R45–R48, R53–R57): O47, the figures of an expiry and its end. -/

namespace Sys2Proof.Machine

section Expiry
variable {s t u : State}

/-! ### The figures that the grant comes from -/

theorem declaredF_of_same (hzones : ∀ z : ZoneNo, s.heat.zones[z].Alike t.heat.zones[z]) (hruns : t.prog.runs = s.prog.runs) :
    t.declaredF = s.declaredF := by
  unfold State.declaredF
  refine congrArg List.sum (List.map_congr_left fun z _ => ?_)
  unfold State.base Zone.base
  rw [(hzones z).demand, hruns, (hzones z).floor]

theorem liveRows_eq (s : State) : s.liveRows = ((s.load.peers.map Peer.row).filter (·.station < s.own)) ++
    { station := s.own, q := s.declaredQ, f := s.declaredF, w := s.load.weight } ::
      (s.load.peers.map Peer.row).filter (s.own < ·.station) := by
  rw [List.filter_map, List.filter_map]
  rfl

/-- R49: the live set and its grants come from the figures of the table, the own declaration, the weight and the usable limit. -/
theorem liveTable_of_same (hown : t.own = s.own) (hq : t.declaredQ = s.declaredQ) (hf : t.declaredF = s.declaredF)
    (hweight : t.load.weight = s.load.weight) (husable : t.load.usable = s.load.usable)
    (hrows : t.load.peers.map Peer.row = s.load.peers.map Peer.row) : t.liveTable = s.liveTable := by
  have hlive : t.liveRows = s.liveRows := by rw [liveRows_eq, liveRows_eq, hown, hq, hf, hweight, hrows]
  unfold State.liveTable
  rw [hlive, husable]

theorem applyGrant_heat_of_same (g : Nat) (hheat : t.heat = s.heat) (hprog : t.prog = s.prog) :
    (applyGrant g t).heat = (applyGrant g s).heat := by
  obtain ⟨_, _, _, _, _, _, _, _, _, _, _, _, _⟩ := s
  obtain ⟨_, _, _, _, _, _, _, _, _, _, _, _, _⟩ := t
  dsimp only at hheat hprog
  subst hheat hprog
  unfold applyGrant
  dsimp only
  split <;> rfl

/-! ### The curtailment test and the ramp (R54, R57) -/

/-- R127: the event of a curtailment. -/
def curtailedEvent (g : Nat) : Event :=
  { kind := .curtailed, course := 0, zone := none, station := none, value := BitVec.ofNat 16 g }

theorem testCurtailed_fields (s : State) :
    (testCurtailed s).load = { s.load with curtailCount := s.curtailCountNow, curtailed := s.curtailTest } ∧
    (testCurtailed s).heat = s.heat ∧ (testCurtailed s).prog = s.prog ∧ (testCurtailed s).bus = s.bus ∧
    (testCurtailed s).course = s.course ∧ (testCurtailed s).relay = s.relay ∧
    (testCurtailed s).route = (if s.curtailTest && !s.load.curtailed then raise (curtailedEvent s.load.grant) s else s).route := by
  unfold testCurtailed
  dsimp only
  split <;> exact ⟨rfl, rfl, rfl, rfl, rfl, rfl, rfl⟩

theorem ramped_eq (l : Load) : l.ramped = min l.grant (l.applied + l.ramp) := by
  unfold Load.ramped
  split <;> omega

/-- R57: the count is 5 where the test counts it. -/
theorem curtailTest_iff (s : State) : s.curtailTest = true ↔
    (s.bus.link.heats = true ∧ (s.load.grant < s.declaredF ∨ s.curtailCountNow = 5)) := by
  unfold State.curtailTest
  simp

/-! ### The end of the expiry -/

/-- What the steps of an expiry after the listen interval leave. -/
structure Expires (s t : State) : Prop where
  kept : t.kept = s.kept
  load : t.load = { (computeGrant s).load with
    curtailCount := (computeGrant s).curtailCountNow
    curtailed := (computeGrant s).curtailTest
    applied := (computeGrant s).load.ramped }
  heat : t.heat = (applyGrant (computeGrant s).load.ramped s).heat
  prog : t.prog = s.prog
  course : t.course = s.course
  relay : t.relay = s.relay
  link : t.bus.link = s.bus.link
  route : t.route = (if (computeGrant s).curtailTest && !s.load.curtailed then raise (curtailedEvent (computeGrant s).load.grant) s else s).route

theorem expires (s : State) : Expires s (loadPeriodEnd (testCurtailed (computeGrant s))) := by
  obtain ⟨hload, hheat, hprog, hbus, hcourse, hrelay, hroute⟩ := testCurtailed_fields (computeGrant s)
  have hkept : (testCurtailed (computeGrant s)).kept = s.kept := by simp
  generalize testCurtailed (computeGrant s) = u at *
  have hramped : u.load.ramped = (computeGrant s).load.ramped := by rw [hload]; rfl
  have hgrown : Expires s (applyRamp u) := by
    refine ⟨(applyRamp_kept u).trans hkept, ?_, ?_, (applyRamp_prog u).trans hprog, (applyRamp_course u).trans hcourse,
      (applyRamp_relay u).trans hrelay, by rw [applyRamp_bus, hbus]; rfl, ?_⟩
    · rw [applyRamp_load, hramped, hload]
    · show (applyGrant u.load.ramped u).heat = _
      rw [hramped]
      exact applyGrant_heat_of_same _ hheat hprog
    · rw [applyRamp_route, hroute]
      show (if (computeGrant s).curtailTest && !s.load.curtailed then _ else _ : State).route = _
      split <;> rfl
  unfold loadPeriodEnd
  dsimp only
  split
  · exact ⟨(hand_kept _ _).trans hgrown.kept, (hand_load _ _).trans hgrown.load, (hand_heat _ _).trans hgrown.heat,
      (hand_prog _ _).trans hgrown.prog, (hand_course _ _).trans hgrown.course, (hand_relay _ _).trans hgrown.relay,
      (link_of_steady (hand_steady _ _)).trans hgrown.link, (hand_route _ _).trans hgrown.route⟩
  · exact hgrown

namespace Expires
variable (h : Expires s t)
include h

theorem alike (z : ZoneNo) : s.heat.zones[z].Alike t.heat.zones[z] := by
  rw [h.heat]
  exact (applyGrant_stays _ s z).alike

theorem declaredQ_eq : t.declaredQ = s.declaredQ := declaredQ_of_same h.alike (congrArg Prog.runs h.prog)

theorem declaredF_eq : t.declaredF = s.declaredF := declaredF_of_same h.alike (congrArg Prog.runs h.prog)

theorem liveTable_eq : t.liveTable = s.liveTable := by
  refine liveTable_of_same (own_of_kept h.kept) h.declaredQ_eq h.declaredF_eq (by rw [h.load]; rfl) (by rw [h.load]; rfl) ?_
  rw [h.load]
  show (s.load.peers.map _).map Peer.row = _
  rw [List.map_map]
  rfl

theorem grant_eq : t.load.grant = if s.bus.link = .joined then grantIn t.liveTable s.own else s.stateGrant := by
  rw [h.load, h.liveTable_eq]
  show (if s.bus.link = .joined then grantIn (if s.sharesLive then s.liveTable else []) s.own else s.stateGrant) = _
  split
  next hlink => rw [if_pos (by simp [State.sharesLive, hlink])]
  · rfl

theorem grant_of_joined (hlink : t.bus.link = .joined) : t.load.grant = grantIn t.liveTable s.own := by
  rw [h.grant_eq, if_pos (h.link ▸ hlink)]

theorem grant_of_listen (hlink : t.bus.link = .listen) : t.load.grant = min t.declaredF s.load.solo := by
  rw [h.link] at hlink
  rw [h.grant_eq, if_neg (by rw [hlink]; nofun), h.declaredF_eq, State.stateGrant, hlink]

theorem grant_of_alone (hlink : t.bus.link = .alone) :
    t.load.grant = min (if s.load.safe then t.declaredF else t.declaredQ) s.load.solo := by
  rw [h.link] at hlink
  rw [h.grant_eq, if_neg (by rw [hlink]; nofun), h.declaredF_eq, h.declaredQ_eq, State.stateGrant, hlink]
  dsimp only
  split <;> rfl

theorem grant_of_cold (hcold : t.bus.link.heats = false) : t.load.grant = 0 := by
  rw [h.link] at hcold
  have hlink : s.bus.link ≠ .joined := by
    intro hlink
    rw [hlink] at hcold
    cases hcold
  rw [h.grant_eq, if_neg hlink, stateGrant_of_not_heats hcold]

/-- R53: the grants held in the table. -/
theorem peer_grant {p : Peer} (hp : p ∈ t.load.peers) : p.grant = grantIn (if s.sharesLive then t.liveTable else []) p.station := by
  rw [h.load] at hp
  obtain ⟨x, -, rfl⟩ := List.mem_map.mp hp
  rw [h.liveTable_eq]

theorem ramped : t.load.applied = min t.load.grant (s.load.applied + s.load.ramp) := by
  rw [h.load]
  exact ramped_eq _

theorem curtailCount_eq : t.load.curtailCount =
    if t.bus.link.heats = true ∧ t.load.grant < t.declaredQ / 2 then min 5 (s.load.curtailCount + 1) else 0 := by
  rw [h.load, h.link, h.declaredQ_eq]
  show (if s.bus.link.heats && decide ((computeGrant s).load.grant < s.declaredQ / 2) then _ else _) = _
  simp only [Bool.and_eq_true, decide_eq_true_eq]
  rfl

theorem curtailed_iff : t.load.curtailed = true ↔
    (t.bus.link.heats = true ∧ (t.load.grant < t.declaredF ∨ t.load.curtailCount = 5)) := by
  rw [h.load, h.link, h.declaredF_eq]
  exact curtailTest_iff _

/-- R57: the event where the condition comes to hold. -/
theorem route_eq : t.route = (if t.load.curtailed && !s.load.curtailed then raise (curtailedEvent t.load.grant) s else s).route := by
  rw [h.route, h.load]

end Expires

/-! ### The LOAD notice (R56) -/

theorem testCurtailed_notice (s : State) : (testCurtailed (computeGrant s)).loadNotice = s.loadNotice := by
  obtain ⟨hload, hheat, hprog, -⟩ := testCurtailed_fields (computeGrant s)
  have halike (z : ZoneNo) : s.heat.zones[z].Alike (testCurtailed (computeGrant s)).heat.zones[z] := by
    rw [hheat]
    exact .refl _
  unfold State.loadNotice
  rw [declaredQ_of_same halike (congrArg Prog.runs hprog), declaredF_of_same halike (congrArg Prog.runs hprog), hheat, hload]
  rfl

/-- R56: the LOAD notice waits, where the queue has room. -/
theorem expiry_waits (hsends : s.bus.link.sends = true) (hroom : s.bus.queue.length < 12) :
    ∃ e ∈ (loadPeriodEnd (testCurtailed (computeGrant s))).bus.queue, e.waiting = true ∧ e.body = s.loadNotice := by
  obtain ⟨-, -, -, hbus, -⟩ := testCurtailed_fields (computeGrant s)
  have hnotice := testCurtailed_notice s
  have hbus : (applyRamp (testCurtailed (computeGrant s))).bus = s.bus := (applyRamp_bus _).trans hbus
  unfold loadPeriodEnd
  dsimp only
  rw [if_pos (by rw [show (testCurtailed (computeGrant s)).bus = s.bus from (applyRamp_bus _).symm.trans hbus]; exact hsends), hnotice]
  exact hand_waits (by rw [hbus]; exact hsends) (by rw [hbus]; exact hroom)

/-- The loss of peers and the end of the listen interval leave room for the LOAD notice. -/
theorem listened_room (hboard : BoardSafe s)
    (hroom : s.bus.queue.length + (s.page.pages.filter fun p => p.state = .deferred).length ≤ 6) :
    s.listened.bus.queue.length < 12 := by
  have hdeferred : s.deferredPages = (s.page.pages.filter fun p => p.state = .deferred).length := by
    unfold State.deferredPages
    rw [List.countP_eq_length_filter]
    rfl
  have hrecords : s.unreleased ≤ 4 := List.countP_le_length.trans hboard.room
  have hburden : s.burden ≤ 10 := by
    unfold State.burden
    omega
  have haged : (ageTable s).burden ≤ 10 := ((eases_ageTable s).burden hboard.courses (by omega)).trans hburden
  have hqueue : s.aged.bus.queue.length ≤ 10 := by
    show (ageTable s).bus.queue.length ≤ 10
    unfold State.burden at haged
    omega
  have := countListen_length (s := s.aged) (by omega)
  show (countListen s.aged).bus.queue.length < 12
  omega

/-- R53: where the live set is not computed. -/
theorem not_sharesLive (hlink : s.bus.link = .listen ∨ s.bus.link = .alone ∨ s.bus.link.heats = false ∧ s.bus.link ≠ .monitor) :
    ¬ s.sharesLive = true := by
  unfold State.sharesLive
  rcases hlink with hlink | hlink | ⟨hcold, hnot⟩
  · simp [hlink]
  · simp [hlink]
  · have hjoined : s.bus.link ≠ .joined := by
      intro hlink
      rw [hlink] at hcold
      cases hcold
    simp [hjoined, hnot]

theorem configured_of_kept (h : t.kept = s.kept) : t.port.configured = s.port.configured :=
  congrArg Settings.configured (settings_of_kept h)

/-! ### The expiry as a whole -/

/-- R46: where every peer that stands at its second miss was heard, none is lost. -/
theorem aged_stays (htables : TablesSafe s) (hheard : ∀ p ∈ s.load.peers, p.heard = true ∨ p.missed < 2) :
    ∀ p ∈ s.load.peers, p.aged.missed < 3 := by
  intro p hp
  obtain ⟨-, -, -, -, hmissed⟩ := htables.peerRanges p hp
  unfold Peer.aged
  split
  next => omega
  next hno =>
    have := (hheard p hp).resolve_left hno
    show p.missed + 1 < 3
    omega

/-- R47: what an expiry leaves with no peer lost and no move of the link. -/
structure Calms (s u : State) : Prop where
  heat : u.heat = s.heat
  prog : u.prog = s.prog
  course : u.course = s.course
  route : u.route = s.route
  bus : u.bus = s.bus
  applied : u.load.applied = s.load.applied

theorem calms (htables : TablesSafe s) (hheard : ∀ p ∈ s.load.peers, p.heard = true ∨ p.missed < 2)
    (hlink : ¬(s.bus.link = .listen ∧ 2 ≤ s.load.listenCount)) : Calms s s.listened := by
  obtain ⟨n, heq⟩ := listened_calm (aged_stays htables hheard) hlink
  rw [heq]
  exact ⟨rfl, rfl, rfl, rfl, rfl, rfl⟩

theorem takesEvents_of_heats {l : LinkState} (h : l.heats = true) : l.takesEvents = true := by
  cases l <;> first | rfl | cases h

theorem Expires.event_last (h : Expires u t) (htrue : t.load.curtailed = true) (hfalse : u.load.curtailed = false) :
    t.queuedLast s (curtailedEvent t.load.grant) := by
  intro _
  have hheats := (h.curtailed_iff.mp htrue).1
  rw [h.route_eq, htrue, hfalse]
  exact raise_last _ (takesEvents_of_heats (h.link ▸ hheats))

theorem Expires.events (h : Expires u t) :
    t.queues u (if t.load.curtailed = true ∧ u.load.curtailed = false then [curtailedEvent t.load.grant] else []) := by
  have hroute := congrArg Route.events h.route_eq
  split
  next hc =>
    rw [hc.1, hc.2] at hroute
    exact (queues_raise _ u).then_same hroute
  next hc =>
    rw [if_neg (by simpa using hc)] at hroute
    exact queues_of_same hroute

theorem Calms.queues (h : Calms s u) {es : List Event} (hq : t.queues u es) : t.queues s es := by
  unfold State.queues at *
  rwa [h.route, h.bus] at hq

end Expiry

end Sys2Proof.Machine

namespace Sys2Proof.Proofs
open Sys2Proof.Machine

/-- Settles O47. -/
theorem loadPeriodExpiry : Obligations.LoadPeriodExpiry := by
  intro s hreset htables hboard
  have hexec : exec .loadPeriodExpiry s = .next (loadPeriodEnd (loadPeriodFigures s)) :=
    unlessReset_of_not_inReset hreset fun s => loadPeriodEnd (loadPeriodFigures s)
  rw [loadPeriodFigures_eq] at hexec
  have hexpires := expires s.listened
  have hlistens := listens s
  have hwaits := expiry_waits (s := s.listened)
  have hshort := listened_short (s := s)
  have hends := listened_ends (s := s)
  have hroom := listened_room hboard
  have hcalms := calms htables
  refine ⟨_, hexec, ?_⟩
  generalize loadPeriodEnd (testCurtailed (computeGrant s.listened)) = t at *
  generalize s.listened = u at *
  obtain ⟨hkept, hstep, hclock, hschedule, hrelay, g, a, m, n, hle, hload⟩ := hlistens
  have hfigures : u.load.solo = s.load.solo ∧ u.load.safe = s.load.safe ∧ u.load.ramp = s.load.ramp ∧
      u.load.curtailCount = s.load.curtailCount ∧ u.load.curtailed = s.load.curtailed ∧ u.load.applied ≤ s.load.applied := by
    rw [hload]
    exact ⟨rfl, rfl, rfl, rfl, rfl, hle⟩
  obtain ⟨hsolo, hsafe, hramp, hcount, hcurtailed, happlied⟩ := hfigures
  have hown : u.own = s.own := own_of_kept hkept
  have hramped := hexpires.ramped
  rw [hramp] at hramped
  have hpeers : t.load.peers = (s.peersAged).map fun p => { p with grant := grantIn (if u.sharesLive then u.liveTable else []) p.station } := by
    rw [hexpires.load]
    show u.load.peers.map _ = _
    rw [hload]
  refine ⟨settings_of_kept (hexpires.kept.trans hkept), ?_, ?_, ?_, hexpires.relay.trans hrelay, ?_, ?_, ?_, ?_, ?_,
    hexpires.grant_of_cold, ?_, ?_, ?_, ?_, ?_, ?_, ?_, ?_, ?_, ?_, ?_, ?_, ?_⟩
  · rw [hexpires.heat, applyGrant_heat_step, hstep]
  · rw [hexpires.course, hclock]
  · rw [hexpires.course, hschedule]
  · rw [hpeers, List.map_map, ← peersAged_figures fun p hp => (htables.peerRanges p hp).2.2.2.2]
    rfl
  · intro hlink
    rw [hexpires.grant_of_listen hlink, hsolo]
  · intro hlink hflag
    rw [hexpires.grant_of_alone hlink, hsafe, if_pos hflag, hsolo]
  · intro hlink hflag
    rw [hexpires.grant_of_alone hlink, hsafe, if_neg (by simp [hflag]), hsolo]
  · intro hlink
    rw [hexpires.grant_of_joined hlink, hown]
  · rintro ⟨hheard, hlink⟩
    have hcalm := hcalms hheard hlink
    refine ⟨by rw [hexpires.link, hcalm.bus], by rw [hramped, hcalm.applied], ?_, hexpires.prog.trans hcalm.prog,
      hexpires.course.trans hcalm.course⟩
    rw [applyGrant_heat_of_same _ hcalm.heat.symm hcalm.prog.symm, hexpires.heat, hexpires.load]
  · omega
  · omega
  · intro p hp hlink
    rw [hexpires.peer_grant hp, if_neg]
    · rfl
    · rw [hexpires.link] at hlink
      exact not_sharesLive hlink
  · intro hlink p hp
    rw [hexpires.peer_grant hp, if_pos]
    unfold State.sharesLive
    rw [← hexpires.link, configured_of_kept hkept]
    rcases hlink with hlink | ⟨hlink, hconf⟩
    · rw [hlink]
      rfl
    · rw [hlink, hconf]
      rfl
  · intro hclash
    rw [hexpires.load]
    show u.load.clash = false
    rw [hload]
    show (s.load.clash && s.load.clashHeard) = false
    rw [hclash, Bool.and_false]
  · rw [hexpires.load]
    show u.load.clashHeard = false
    rw [hload]
    rfl
  · intro hlink hlt
    obtain ⟨hlisten, hnext⟩ := hshort hlink hlt
    rw [hexpires.link, hexpires.load]
    exact ⟨hlisten, hnext⟩
  · intro hlink htwo
    rw [hexpires.link, hends hlink htwo, hpeers, List.isEmpty_map]
  · rw [hexpires.curtailCount_eq, hcount]
  · exact hexpires.curtailed_iff
  · refine ⟨fun htrue hfalse => hexpires.event_last htrue (hcurtailed.trans hfalse), ?_⟩
    rintro ⟨hheard, hlink⟩
    have hevents := (hcalms hheard hlink).queues hexpires.events
    rw [hcurtailed] at hevents
    exact hevents
  · intro hsends hfits
    obtain ⟨e, he, hwaiting, hbody⟩ := hwaits (hexpires.link ▸ hsends) (hroom hfits)
    refine ⟨e, he, hwaiting, BitVec.ofNat 16 u.heat.draw, ?_, ?_⟩
    · rw [hbody, hexpires.declaredQ_eq, hexpires.declaredF_eq]
      unfold State.loadNotice
      rw [hload]
      rfl
    · rintro ⟨hheard, hlink⟩
      rw [(hcalms hheard hlink).heat]

end Sys2Proof.Proofs
